-- ==== Sys2Proof/Word.lean ====
section
/-! DEFINITION. The byte, and the text as a list of bytes (00_scope.md section 5.3). -/

namespace Sys2Proof

/-- One byte as it stands on the computer link or on a backbone line. -/
abbrev Byte := BitVec 8

/-- A text as carried: its bytes, without the length byte (00_scope.md section 5.3). -/
abbrev Text := List Byte

end Sys2Proof
end

