-- ==== Sys2Proof/Config.lean ====
section
/-! DEFINITION. The part's fixed capacities (R207) and the free values: codes that a layout must carry and to which
chapter 10 gives no value (log entry 12). -/

namespace Sys2Proof.Config

/-- Stops per route (R1). -/
def maxStops : Nat := 40
/-- Entries of the portion table (R13). -/
def maxPortions : Nat := 4
/-- Consist entries, list and detached together (R53). -/
def maxEntries : Nat := 16
/-- Distinct units among the consist entries (R66). -/
def maxUnits : Nat := 4
/-- Records of the coach type table (R83). -/
def maxTypes : Nat := 8
/-- Vehicle records of a bank (R87). -/
def maxVehicles : Nat := 20
/-- Segments of a seat (R89). -/
def maxSeatSegments : Nat := 6
/-- Segments of a bank (R89). -/
def maxBankSegments : Nat := 4096
/-- Notices of a stack (R134). -/
def maxNotices : Nat := 4
/-- Entries of the rotation table (R141). -/
def rotationSize : Nat := 12
/-- Requests in the request queue (R201). -/
def maxRequests : Nat := 4
/-- QUEUE_FULL replies in the reply list (R201). -/
def maxRefusals : Nat := 4
/-- Reports in the report queue (R214). -/
def maxReports : Nat := 24
/-- The largest distance D (R31). -/
def maxDist : Nat := 999999
/-- The revision of the part (R207). -/
def revision : Nat := 1

/-- FREE VALUE (log entry 12): the code of an absent vehicle identity where a fixed layout carries one
(READ CONSIST's close cause, READ TABLE's rows). The spec gives none. -/
opaque noIdentity : BitVec 32
/-- FREE VALUE (log entry 12): the code of an absent hop (evidence hop of READ CONSIST, hop seen of READ TABLE). -/
opaque noHop : Byte
/-- FREE VALUE (log entry 12): the code of an absent cycle number in READ TABLE. -/
opaque noCycle : Byte
/-- FREE VALUE (log entry 12): the code of an absent fault count in READ TABLE. -/
opaque noFaults : Byte
/-- FREE VALUE (log entry 12): the code of the capture progress in READ TABLE while the setting is CONTINUOUS. -/
opaque noProgress : Byte
/-- FREE VALUE (log entry 12): the agreement status READ SEAT carries for an identity that has no list entry. -/
opaque noEntryAgreement : Byte

end Sys2Proof.Config
end

