-- ==== Sys2Proof/Syntax.lean ====
section
/-! DEFINITION. The commands: one constructor of Instr for each row of spec/opcode_table.json, with the operands of the
row's rule. Every number is a plain Nat as its field carries it on the link (R224), so that a value outside its set can
be written and is refused by the owning block; WellFormed bounds it to the width of its field. -/

namespace Sys2Proof

/-- The two backbone lines (R147). -/
inductive Line where
  | a
  | b
  deriving DecidableEq, Repr

/-- A symbol on a backbone line (R147), and the code violation of R150. -/
inductive Symbol where
  | start
  | stop
  | abort
  | data (value : Byte)
  | violation
  deriving DecidableEq, Repr

/-- What a character time on LRXD delivers (R195, R198). -/
inductive LinkChar where
  | byte (value : Byte)
  | framingError
  deriving DecidableEq, Repr

/-- A stop record as APPEND STOPS carries it (R2, R227): without the cancelled mark, every field as sent. -/
structure StopFields where
  code : Nat
  name : Text
  leg : Nat
  side : Nat
  approach : Nat
  announce : Nat
  column : Nat
  deriving DecidableEq, Repr

/-- The eight parameters of the odometer configuration, in the order of R29. -/
structure OdoConfig where
  pulseLen : Nat
  shift : Nat
  vmin : Nat
  creep : Nat
  correction : Nat
  offset : Nat
  minLeg : Nat
  skipLimit : Nat
  deriving DecidableEq, Repr

/-- One command of the block: a row of spec/opcode_table.json. A request carries its tag first (R196). -/
inductive Instr where
  -- Computer Link Controller
  | describePart (tag length : Nat)
  | linkReset (tag : Nat)
  | partReset (tag : Nat)
  | setReporting (tag classes order : Nat)
  | ackAlarms (tag flags : Nat)
  | summary (tag : Nat)
  | unknownRequestKind (kind tag : Nat)
  -- Journey Tracker
  | openRoute (tag slot code : Nat) (dest : Text)
  | appendStops (tag slot : Nat) (stops : List StopFields)
  | closeRoute (tag slot : Nat)
  | dropRoute (tag slot : Nat)
  | readRoute (tag slot first count : Nat)
  | cancelStop (tag slot index : Nat)
  | restoreStop (tag slot index : Nat)
  | assignUnitHome (tag unit slot index partAt : Nat)
  | assignUnit (tag unit slot index partAt : Nat)
  | endJourney (tag : Nat)
  | departed (tag : Nat)
  | arrived (tag code : Nat)
  | setDirection (tag direction : Nat)
  | setTime (tag minute : Nat)
  | configureOdometer (tag : Nat) (params : OdoConfig)
  | positionFix (tag x : Nat)
  | readJourney (tag : Nat)
  -- Consist Manager
  | configureSurvey (tag attempts pairs : Nat)
  | startBackbone (tag : Nat)
  | stopBackbone (tag : Nat)
  | survey (tag : Nat)
  | split (tag unit : Nat)
  | removeEntry (tag vehicle : Nat)
  | readConsist (tag : Nat)
  | defineType (tag code seats : Nat) (labels : List Text)
  | deleteType (tag code : Nat)
  | readType (tag code length : Nat)
  -- Reservation Store
  | declareVehicle (tag bank vehicle type slot : Nat)
  | removeVehicle (tag bank vehicle : Nat)
  | addSegment (tag bank vehicle seat fromIx toIx kind : Nat) (label : Text)
  | dropSegment (tag bank vehicle seat fromIx : Nat)
  | clearSeat (tag bank vehicle seat : Nat)
  | readSeat (tag bank vehicle seat : Nat)
  | readBanks (tag : Nat)
  | openStagingEmpty (tag : Nat)
  | openStagingCopy (tag : Nat)
  | copyCompletion
  | armStaging (tag trigger : Nat)
  | armStagingImmediate (tag : Nat)
  | disarmStaging (tag : Nat)
  | abandonStaging (tag : Nat)
  -- Display Composer
  | refreshCoach (tag target vehicle : Nat)
  | pushNotice (tag target vehicle : Nat) (text : Text) (priority expiry value : Nat)
  | popNotice (tag vehicle : Nat)
  | clearNotices (tag target vehicle : Nat)
  | setRotationEntry (tag index page dwell next : Nat)
  | setRotationStart (tag index : Nat)
  | readRotation (tag : Nat)
  | readDisplay (tag vehicle : Nat)
  -- Backbone Controller and supervision
  | readBackbone (tag : Nat)
  | readLineFlags (tag : Nat)
  | clearLineFlags (tag mask : Nat)
  | lockTable (tag table : Nat)
  | unlockTable (tag table : Nat)
  | setCapture (tag mode : Nat)
  | readTable (tag table : Nat)
  -- Events at the pins and of the controller's clocks
  | odoPulse
  | odometerWindowExpiry
  | minuteTimerExpiry
  | cycleEnd
  | cycleStart
  | coachSlotStart
  | contentFrameComplete
  /-- Symbols received on a line, one after another, the first beginning `at_` microseconds into the segment
  in progress (R147, R150; log entry 11). -/
  | backboneFrameReceived (line : Line) (at_ : Nat) (symbols : List Symbol)
  | coachSlotEnd
  | callWindowStart
  | callWindowEnd
  | quietGapStart
  | linkCharacterReceived (char : LinkChar)
  | linkGapTimerExpiry
  | transmitterFrameEnd
  | resetnLow
  /-- RESETN goes high; the strap pins LRATE1 and LRATE0 as read at that moment (R195, R211). -/
  | resetnHigh (lrate1 lrate0 : Bool)
  | ready
  deriving DecidableEq, Repr

end Sys2Proof
end

