-- ==== Sys2Proof/Decode.lean ====
section
/-! DEFINITION. The commands that a word spells by the table's bits. No row of spec/opcode_table.json gives bits: the block
has no instruction words, its requests are frames of the computer link, read in Machine/Operands.lean. -/

namespace Sys2Proof

/-- The command of a word: none, for the table gives no row bits. -/
def decodeTableWord (_nbits _w : Nat) : Option Instr := none

end Sys2Proof
end

