-- ==== Sys2Proof/Machine/State.lean ====
section
/-! DEFINITION. The state of the controller, block by block (00_scope.md section 2), as plain data, and its value after
power-on. INVENTORY.md lists every field with its rule and its value after reset. -/

namespace Sys2Proof.Machine

/-- Raised by no command: the spec stops the machine nowhere (R199, R204: what goes wrong is answered or discarded). -/
inductive Fault where
  deriving DecidableEq, Repr

/-- Why a command has no meaning. -/
inductive Refusal where
  /-- Raised by exec's arm of a command that has no meaning yet. Safe: the run stops. -/
  | notModelled (mnemonic : String)
  deriving DecidableEq, Repr

/-! ## Journey Tracker -/

/-- The state of a route slot (R1). -/
inductive SlotState where
  | empty
  | edit
  | ready
  | inUse
  deriving DecidableEq, Repr

/-- Platform side and door side (R2, R26). -/
inductive Side where
  | none
  | left
  | right
  | both
  deriving DecidableEq, Repr

/-- A stop record (R2). -/
structure Stop where
  code : Nat
  name : Text
  leg : Nat
  side : Side
  approach : Nat
  announce : Nat
  column : Nat
  cancelled : Bool
  deriving DecidableEq, Repr

/-- A route slot (R1). In EMPTY the route is absent: code 0, destination and stops empty. -/
structure RouteSlot where
  state : SlotState
  code : Nat
  dest : Text
  stops : List Stop
  deriving DecidableEq, Repr

/-- A slot that holds no route (R1). -/
def RouteSlot.absent : RouteSlot := { state := .empty, code := 0, dest := [], stops := [] }

/-- The four route slots (R1). -/
structure Slots where
  s0 : RouteSlot
  s1 : RouteSlot
  s2 : RouteSlot
  s3 : RouteSlot
  deriving DecidableEq, Repr

/-- ATTACHED or PARTING (R13). -/
inductive PortionState where
  | attached
  | parting
  deriving DecidableEq, Repr

/-- An entry of the portion table (R13), and the position last handed to the Display Composer for it (R42, R44). -/
structure Portion where
  unit : Nat
  slot : Nat
  delta : Int
  partAt : Option Nat
  state : PortionState
  home : Bool
  assignedAt : Nat
  pos : Option Nat
  deriving DecidableEq, Repr

/-- The home phase (R18). The next stop n of RUNNING is eff(c + 1) and is derived. -/
inductive Phase where
  | noJourney
  | atStop (c : Nat)
  | running (c : Nat)
  | terminated (c : Nat)
  deriving DecidableEq, Repr

/-- The journey notice state (R24), with the home stop it names. -/
inductive JourneyNotice where
  | none
  | approaching (n : Nat)
  | arriving (n : Nat)
  | atPlatform (c : Nat)
  deriving DecidableEq, Repr

/-- The train direction (R27). -/
inductive Direction where
  | headFirst
  | headLast
  deriving DecidableEq, Repr

/-- The odometer state of R31, and the pulse count of the current window (R32). -/
structure Odometer where
  dist : Nat
  rem : Nat
  speed : Nat
  etaS : Nat
  etaHeld : Bool
  pos : Nat
  etaMin : Nat
  clock : Option Nat
  tainted : Bool
  skips : Nat
  pulseSat : Bool
  distSat : Bool
  fixLimited : Bool
  pulses : Nat
  deriving DecidableEq, Repr

/-- The Journey Tracker (chapters 1 and 2). -/
structure Jt where
  slots : Slots
  portions : List Portion
  phase : Phase
  notice : JourneyNotice
  direction : Direction
  minute : Nat
  timeValid : Bool
  config : OdoConfig
  odo : Odometer
  deriving DecidableEq, Repr

/-! ## Display Composer: what it hangs on an entry -/

/-- The thirteen kinds of content block, in the order of R119. -/
inductive BlockKind where
  | header
  | names0
  | names1
  | names2
  | names3
  | names4
  | seat0
  | seat1
  | seat2
  | seat3
  | seat4
  | seat5
  | map
  deriving DecidableEq, Repr

/-- One block of a set: whether its kind was valid at the last evaluation (R120, R121), its generation and its dirty
mark (R119). -/
structure Block where
  valid : Bool
  gen : Nat
  dirty : Bool
  deriving DecidableEq, Repr

/-- A content block set (R119), one block for each kind. -/
structure BlockSet where
  header : Block
  names0 : Block
  names1 : Block
  names2 : Block
  names3 : Block
  names4 : Block
  seat0 : Block
  seat1 : Block
  seat2 : Block
  seat3 : Block
  seat4 : Block
  seat5 : Block
  map : Block
  deriving DecidableEq, Repr

/-- Notice priority (R134). -/
inductive Priority where
  | normal
  | urgent
  deriving DecidableEq, Repr

/-- Notice expiry (R134). -/
inductive Expiry where
  | none
  | atStop (i : Nat)
  | cycles (r : Nat)
  deriving DecidableEq, Repr

/-- A notice (R134). -/
structure Notice where
  text : Text
  priority : Priority
  expiry : Expiry
  deriving DecidableEq, Repr

/-! ## Consist Manager -/

/-- Which way a coach faces (R54); end A of a node gives FORWARD, end B REVERSED (R67). -/
inductive Orientation where
  | forward
  | reversed
  deriving DecidableEq, Repr

/-- The states of a list entry (R55). An entry in the detached set is LOST. -/
inductive EntryState where
  | probation
  | active
  | mute
  | departing
  deriving DecidableEq, Repr

/-- The pair hop record (R54, R69). -/
inductive PairHop where
  | none
  | hop (h : Nat)
  | disagreeing
  deriving DecidableEq, Repr

/-- Agreement status: AGREEING, or NOT_AGREEING with its cause (R116). -/
inductive Agreement where
  | agreeing
  | unitUnassigned
  | noRecord
  | slotDiffers
  | typeDiffers
  deriving DecidableEq, Repr

/-- What a consist entry keeps in the list and in the detached set (R54, R55), with its notice stack, top first (R134). -/
structure Coach where
  id : Nat
  unit : Nat
  number : Nat
  type : Nat
  orient : Orientation
  missed : Nat
  unitDiffers : Bool
  notices : List Notice
  deriving DecidableEq, Repr

/-- A list entry (R54): the coach, its state, its pair and evidence fields, the agreement status the Reservation Store
holds for it (R116) and the content block set the Display Composer holds for it (R119). Its hop is its place in the
list, counted from 1 (R53). -/
structure Entry where
  coach : Coach
  state : EntryState
  pairCount : Nat
  evenHeld : Bool
  evenValid : Bool
  oddValid : Bool
  pairHop : PairHop
  evidenceHop : Option Nat
  evidenceCount : Nat
  agree : Agreement
  blocks : BlockSet
  refresh : BlockKind
  deriving DecidableEq, Repr

/-- The survey state (R56). -/
inductive SurveyState where
  | off
  | surveying
  | closed
  deriving DecidableEq, Repr

/-- The close cause with the identity concerned (R56). -/
inductive CloseCause where
  | none
  | attemptsSpent
  | listFull
  | consistFull (id : Nat)
  | unitLimit (id : Nat)
  | hopConfused (id : Nat)
  deriving DecidableEq, Repr

/-- The survey (R56). -/
structure Survey where
  state : SurveyState
  attempts : Nat
  cause : CloseCause
  cfgAttempts : Nat
  cfgPairs : Nat
  deriving DecidableEq, Repr

/-- The parting set of a unit whose split is pending (R77). -/
structure PartingSet where
  unit : Nat
  ids : List Nat
  deriving DecidableEq, Repr

/-- A coach type record (R83). -/
structure TypeRecord where
  code : Nat
  seats : Nat
  labels : List Text
  deriving DecidableEq, Repr

/-- The Consist Manager (chapter 3). -/
structure Cm where
  list : List Entry
  detached : List Coach
  survey : Survey
  confused : Bool
  partings : List PartingSet
  types : List TypeRecord
  deriving DecidableEq, Repr

/-! ## Reservation Store -/

/-- Segment kind (R89). -/
inductive SegmentKind where
  | reserved
  | priority
  | held
  deriving DecidableEq, Repr

/-- A segment (R89); an absent label is the empty text (R224). -/
structure Segment where
  fromIx : Nat
  toIx : Nat
  kind : SegmentKind
  label : Text
  deriving DecidableEq, Repr

/-- A vehicle record (R88), one segment list for each seat of its type. -/
structure Vehicle where
  id : Nat
  type : Nat
  slot : Nat
  seats : List (List Segment)
  deriving DecidableEq, Repr

/-- Bank 0 or bank 1 (R87). -/
inductive BankNo where
  | bank0
  | bank1
  deriving DecidableEq, Repr

/-- The trigger of an armed state (R97). -/
inductive Trigger where
  | immediate
  | home (i : Nat)
  deriving DecidableEq, Repr

/-- The staging state (R97). -/
inductive Staging where
  | closed
  | copying
  | openEmpty
  | openCopy
  | armedEmpty (t : Trigger)
  | armedCopy (t : Trigger)
  deriving DecidableEq, Repr

/-- A purge or deletion recorded while a copy runs (R100): a purge with the slot indices it was taken with, or the
parting set of a split completion. -/
inductive Recorded where
  | purge (indices : List (Nat × Nat))
  | delete (ids : List Nat)
  deriving DecidableEq, Repr

/-- The Reservation Store (chapter 4). -/
structure Rs where
  bank0 : List Vehicle
  bank1 : List Vehicle
  live : BankNo
  staging : Staging
  diverged : Bool
  recorded : List Recorded
  deriving DecidableEq, Repr

/-! ## Display Composer: page rotation -/

/-- Page kinds of the rotation table (R141). -/
inductive PageKind where
  | empty
  | nextStop
  | seats
  | routeMap
  | coach
  | notice
  deriving DecidableEq, Repr

/-- An entry of the rotation table (R141). -/
structure RotationEntry where
  page : PageKind
  dwell : Nat
  next : Nat
  deriving DecidableEq, Repr

/-- The page rotation (R141), current none being FALLBACK, and the blocks the command in progress has already advanced
(R126: once for one event), empty between commands (the model's own field, log entry 18). -/
structure Dc where
  table : List RotationEntry
  start : Nat
  current : Option Nat
  dwell : Nat
  page : PageKind
  advanced : List (Nat × BlockKind)
  deriving DecidableEq, Repr

/-! ## Backbone Controller -/

/-- The state of the Backbone Controller (R151). -/
inductive BackboneState where
  | off
  | running
  | stopping
  deriving DecidableEq, Repr

/-- Where the cycle in progress stands (R152): none while OFF; in the beacon segment before and after the end marker of
the BEACON frame (R155); in or after coach slot s; in or after the call window; in the quiet gap. -/
inductive CycleSegment where
  | none
  | beacon
  | beaconSent
  | slot (s : Nat)
  | slotDone (s : Nat)
  | call
  | callDone
  | gap
  deriving DecidableEq, Repr

/-- How the CONTENT frame of a slot stands: being sent, completed with its check, or aborted (R158, R159). -/
inductive FrameEnd where
  | sending
  | completed (check : BitVec 16)
  | aborted
  deriving DecidableEq, Repr

/-- The CONTENT frame of the coach slot in progress (R157, R158): the entry the slot belongs to, the kind and generation
handed by the composer, the length byte, the payload bytes whose sending has begun, how the frame stands, and the moment its
last marker ended, in microseconds from the slot start. -/
structure ContentFrame where
  dest : Nat
  kind : BlockKind
  gen : Nat
  len : Nat
  sent : List Byte
  state : FrameEnd
  endAt : Nat
  deriving DecidableEq, Repr

/-- The state of a backbone receiver with what it has taken of the frame in progress (R150). -/
inductive BackboneRx where
  | hunt
  | header (kind : Option Byte)
  | body (kind len : Byte) (payload : List Byte)
  | trailer (kind len : Byte) (payload crc : List Byte)
  deriving DecidableEq, Repr

/-- How a received frame ended (R150). -/
inductive Reception where
  | malformed
  | aborted
  | complete (kind : Byte) (payload : List Byte) (crcGood : Bool)
  deriving DecidableEq, Repr

/-- What one line carried in a listening period (R163): the start markers, whether a code violation came, the moment of
the first start marker in microseconds from the segment start, and how the frame it began ended. -/
structure Takings where
  starts : Nat
  violation : Bool
  startAt : Nat
  frame : Option Reception
  deriving DecidableEq, Repr

/-- The call of a call window (R167): the target, and whether it was a watch call (R62). -/
structure Call where
  target : Nat
  watch : Bool
  deriving DecidableEq, Repr

/-- The result of a line in a slot or call window (R163). -/
inductive LineResult where
  | none
  | valid
  | crcError
  | late
  | clash
  deriving DecidableEq, Repr

/-- The record of the last call window in which a call was sent (R175). -/
structure CallRecord where
  target : Nat
  resultA : LineResult
  resultB : LineResult
  handed : Bool
  deriving DecidableEq, Repr

/-- The Backbone Controller (chapter 6). What its transmitters send follows from the segment, its time and the frame of the
segment (Bc.symbols); cut holds what both lines carried of a frame that PART RESET ended (R174). -/
structure Bc where
  state : BackboneState
  segment : CycleSegment
  clock : Nat
  counter : Nat
  beacon : List Byte
  frame : Option ContentFrame
  call : Option Call
  rxA : BackboneRx
  rxB : BackboneRx
  gotA : Takings
  gotB : Takings
  sent : Nat
  aborted : Nat
  lastCall : CallRecord
  cut : List Symbol
  deriving DecidableEq, Repr

/-! ## Line and node supervision -/

/-- The sticky flags of one line (R176). -/
structure LineFlags where
  validSeen : Bool
  crcError : Bool
  late : Bool
  clash : Bool
  abortSent : Bool
  deriving DecidableEq, Repr

/-- The observations of one line in the cycle in progress (R181). -/
structure Observations where
  entrySlot : Bool
  carried : Bool
  short : Bool
  deriving DecidableEq, Repr

/-- The run counts of one line (R182). -/
structure Runs where
  short : Nat
  silent : Nat
  full : Nat
  deriving DecidableEq, Repr

/-- The state of one line (R183). -/
inductive LineState where
  | ok
  | degraded
  | dead
  deriving DecidableEq, Repr

/-- What supervision holds for one line. -/
structure LineSup where
  flags : LineFlags
  obs : Observations
  runs : Runs
  state : LineState
  deriving DecidableEq, Repr

/-- What a row holds of a line with result VALID (R186). -/
structure LineSeen where
  id : Nat
  hop : Nat
  faults : Nat
  deriving DecidableEq, Repr

/-- The part of one line in a row (R186). -/
structure LinePart where
  result : LineResult
  seen : Option LineSeen
  deriving DecidableEq, Repr

/-- The acknowledgement of a row (R186, R133). -/
inductive Ack where
  | none
  | matched
  | notMatched
  deriving DecidableEq, Repr

/-- A row of a node status table (R186). -/
structure Row where
  addressed : Option Nat
  partA : LinePart
  partB : LinePart
  used : Option Line
  ack : Ack
  deriving DecidableEq, Repr

/-- A line part with nothing in it (R186). -/
def LinePart.cleared : LinePart := { result := .none, seen := none }

/-- A cleared row (R186). -/
def Row.cleared : Row :=
  { addressed := none, partA := .cleared, partB := .cleared, used := none, ack := .none }

/-- The lock state of a table (R186). -/
inductive LockState where
  | unlocked
  | pending
  | locked
  deriving DecidableEq, Repr

/-- A node status table (R186); row of hop h is rows[h - 1]. -/
structure NodeTable where
  rows : List Row
  valid : Bool
  cycle : Option Nat
  updating : Bool
  lock : LockState
  deriving DecidableEq, Repr

/-- The capture setting with its progress (R186). -/
inductive Capture where
  | continuous
  | waiting
  | evenTaken
  | held
  deriving DecidableEq, Repr

/-- Line and node supervision (chapter 7). -/
structure Sup where
  a : LineSup
  b : LineSup
  mismatch : Bool
  even : NodeTable
  odd : NodeTable
  capture : Capture
  deriving DecidableEq, Repr

/-! ## Computer Link Controller -/

/-- The result codes (R204). -/
inductive ResultCode where
  | done
  | queueFull
  | unknownKind
  | badField
  | wrongState
  | noSpace
  | overlap
  | outOfRange
  | notFound
  | inUse
  | routeMismatch
  deriving DecidableEq, Repr

/-- The state of the link receiver with what it has taken of the frame (R198): in LENGTH the high byte, in BODY the
length and the bytes from the kind on, in CHECK those and the high byte of the CRC. -/
inductive LinkRx where
  | hunt
  | length (high : Option Byte)
  | body (len : Nat) (taken : List Byte)
  | check (len : Nat) (taken : List Byte) (high : Option Byte)
  deriving DecidableEq, Repr

/-- The state of the head of the request queue (R201). -/
inductive HeadState where
  | waiting
  | handling
  | replying
  deriving DecidableEq, Repr

/-- A request in the queue: its kind and tag, the command its payload spells (none when the payload does not match the
layout of the kind, R203), and its state (R201). -/
structure Queued where
  kind : Nat
  tag : Nat
  command : Option Instr
  state : HeadState
  deriving DecidableEq, Repr

/-- A reply (R204); forHead tells the head's reply from a QUEUE_FULL reply (R206). -/
structure Reply where
  kind : Nat
  tag : Nat
  result : ResultCode
  data : List Byte
  forHead : Bool
  deriving DecidableEq, Repr

/-- The report classes (R213). -/
inductive ReportClass where
  | ready
  | consist
  | line
  | journey
  | reservation
  | calibration
  deriving DecidableEq, Repr

/-- A report (R213): class, event code, subject and the event's data. -/
structure Report where
  cls : ReportClass
  code : Nat
  subject : Nat
  data : List Byte
  deriving DecidableEq, Repr

/-- The transmitter (R206): IDLE, sending a reply, or sending a report with the overflow mark and drop count it took
(R216). -/
inductive Transmitter where
  | idle
  | reply (r : Reply)
  | report (r : Report) (overflow : Bool) (drops : Nat)
  deriving DecidableEq, Repr

/-- The classes SET REPORTING may enable (R214). -/
structure Enabled where
  consist : Bool
  line : Bool
  journey : Bool
  reservation : Bool
  calibration : Bool
  deriving DecidableEq, Repr

/-- The sending order (R217). -/
inductive Order where
  | a
  | b
  deriving DecidableEq, Repr

/-- The six alarm flags (R219). -/
structure Alarms where
  lineA : Bool
  lineB : Bool
  coachMute : Bool
  coachLost : Bool
  overflow : Bool
  stale : Bool
  deriving DecidableEq, Repr

/-- The cause READY carries (R212). -/
inductive ReadyCause where
  | powerOn
  | partReset
  deriving DecidableEq, Repr

/-- Where the controller stands after a reset (R211, R212): RESETN low; released or reset by PART RESET with READY not
yet raised; up. -/
inductive Readiness where
  | held
  | starting (cause : ReadyCause)
  | up
  deriving DecidableEq, Repr

/-- The Computer Link Controller (chapters 8 and 9). -/
structure Clc where
  rate : Nat
  rx : LinkRx
  linkError : Bool
  queue : List Queued
  replies : List Reply
  tx : Transmitter
  reports : List Report
  overflow : Bool
  drops : Nat
  enabled : Enabled
  order : Order
  alarms : Alarms
  ready : Readiness
  deriving DecidableEq, Repr

/-- The whole state: the blocks of 00_scope.md section 2, with supervision beside the Backbone Controller that owns it,
and the queue of the commands that wait (the model's own, first in, first out). -/
structure State where
  jt : Jt
  cm : Cm
  rs : Rs
  dc : Dc
  bc : Bc
  sup : Sup
  clc : Clc
  pending : List Instr
  deriving DecidableEq, Repr

/-! ## Updates of one block -/

/-- The state with another value of jt. -/
def State.setJt (s : State) (v : Jt) : State := { s with jt := v }

/-- The state with another value of cm. -/
def State.setCm (s : State) (v : Cm) : State := { s with cm := v }

/-- The state with another value of rs. -/
def State.setRs (s : State) (v : Rs) : State := { s with rs := v }

/-- The state with another value of dc. -/
def State.setDc (s : State) (v : Dc) : State := { s with dc := v }

/-- The state with another value of bc. -/
def State.setBc (s : State) (v : Bc) : State := { s with bc := v }

/-- The state with another value of sup. -/
def State.setSup (s : State) (v : Sup) : State := { s with sup := v }

/-- The state with another value of clc. -/
def State.setClc (s : State) (v : Clc) : State := { s with clc := v }

/-- The state with another value of pending. -/
def State.setPending (s : State) (v : List Instr) : State := { s with pending := v }

/-! ## After reset -/

/-- The odometer configuration after power-on (R29). -/
def powerOnConfig : OdoConfig :=
  { pulseLen := 30000, shift := 3, vmin := 1000, creep := 100, correction := 20, offset := 500, minLeg := 2000,
    skipLimit := 8 }

/-- The odometer state after a reset (R31, R32, R37). -/
def Odometer.reset : Odometer :=
  { dist := 0, rem := 0, speed := 0, etaS := 0, etaHeld := false, pos := 0, etaMin := 0, clock := none,
    tainted := false, skips := 0, pulseSat := false, distSat := false, fixLimited := false, pulses := 0 }

/-- The Journey Tracker after a reset, with the odometer configuration given (R1, R13, R18, R24, R27 to R29). -/
def Jt.reset (config : OdoConfig) : Jt :=
  { slots := ⟨.absent, .absent, .absent, .absent⟩, portions := [], phase := .noJourney, notice := .none,
    direction := .headFirst, minute := 0, timeValid := false, config := config, odo := .reset }

/-- The Consist Manager after a reset, with the coach type table given (R53, R56, R75, R77, R83). -/
def Cm.reset (types : List TypeRecord) : Cm :=
  { list := [], detached := [],
    survey := { state := .off, attempts := 0, cause := .none, cfgAttempts := 8, cfgPairs := 4 },
    confused := false, partings := [], types := types }

/-- The Reservation Store after a reset (R87, R97). -/
def Rs.reset : Rs :=
  { bank0 := [], bank1 := [], live := .bank0, staging := .closed, diverged := false, recorded := [] }

/-- The page rotation after a reset (R141). -/
def Dc.reset : Dc :=
  { table := List.replicate Config.rotationSize { page := .empty, dwell := 1, next := 0 }, start := 0,
    current := none, dwell := 1, page := .nextStop, advanced := [] }

/-- Nothing taken on a line. -/
def Takings.nothing : Takings := { starts := 0, violation := false, startAt := 0, frame := none }

/-- No call window recorded (R175). -/
def CallRecord.nothing : CallRecord := { target := 0, resultA := .none, resultB := .none, handed := false }

/-- The Backbone Controller after a reset (R147, R151, R153, R174, R175). -/
def Bc.reset : Bc :=
  { state := .off, segment := .none, clock := 0, counter := 0, beacon := [], frame := none, call := none,
    rxA := .hunt, rxB := .hunt, gotA := .nothing, gotB := .nothing, sent := 0, aborted := 0, lastCall := .nothing,
    cut := [] }

/-- Every flag of a line clear (R176). -/
def LineFlags.clear : LineFlags :=
  { validSeen := false, crcError := false, late := false, clash := false, abortSent := false }

/-- Every observation clear (R181). -/
def Observations.clear : Observations := { entrySlot := false, carried := false, short := false }

/-- A line at its starting values (R176, R185). -/
def LineSup.reset : LineSup :=
  { flags := .clear, obs := .clear, runs := { short := 0, silent := 0, full := 0 }, state := .ok }

/-- A table at its starting values (R186). -/
def NodeTable.reset : NodeTable :=
  { rows := List.replicate 16 .cleared, valid := false, cycle := none, updating := false, lock := .unlocked }

/-- Supervision at its starting values (R172, R176, R185, R186). -/
def Sup.reset : Sup :=
  { a := .reset, b := .reset, mismatch := false, even := .reset, odd := .reset, capture := .continuous }

/-- Every class enabled (R214). -/
def Enabled.all : Enabled :=
  { consist := true, line := true, journey := true, reservation := true, calibration := true }

/-- Every alarm flag clear (R219). -/
def Alarms.clear : Alarms :=
  { lineA := false, lineB := false, coachMute := false, coachLost := false, overflow := false, stale := false }

/-- The Computer Link Controller after a reset at the rate given, with READY still to be raised for the cause given
(R195, R198, R200, R201, R206, R210 to R212, R214, R219). -/
def Clc.reset (rate : Nat) (cause : ReadyCause) : Clc :=
  { rate := rate, rx := .hunt, linkError := false, queue := [], replies := [], tx := .idle, reports := [],
    overflow := false, drops := 0, enabled := .all, order := .a, alarms := .clear, ready := .starting cause }

/-- Power-on with the straps reading the rate given (R211); the waiting commands are kept. -/
def State.powerOn (rate : Nat) (pending : List Instr) : State :=
  { jt := .reset powerOnConfig, cm := .reset [], rs := .reset, dc := .reset, bc := .reset, sup := .reset,
    clc := .reset rate .powerOn, pending := pending }

/-- The machine right after reset: RESETN has gone high, READY has not been raised (R211, R212). The straps read 0
(DESIGN CHOICE, log entry 8). -/
def State.reset : State := State.powerOn 0 []

end Sys2Proof.Machine
end

