-- ==== Sys2Proof/Machine/Bytes.lean ====
section
/-! DEFINITION. The byte form of fields (R224) and the CRC-16 (R230). -/

namespace Sys2Proof.Machine

/-- An unsigned field of one byte (R224). -/
def u8 (n : Nat) : List Byte := [BitVec.ofNat 8 n]

/-- An unsigned field of two bytes, most significant byte first (R224). -/
def u16 (n : Nat) : List Byte := [BitVec.ofNat 8 (n / 256), BitVec.ofNat 8 n]

/-- An unsigned field of four bytes, most significant byte first (R224). -/
def u32 (n : Nat) : List Byte :=
  [BitVec.ofNat 8 (n / 16777216), BitVec.ofNat 8 (n / 65536), BitVec.ofNat 8 (n / 256), BitVec.ofNat 8 n]

/-- A signed field of one byte, two's complement (R224, delta). -/
def i8 (n : Int) : List Byte := [BitVec.ofInt 8 n]

/-- A set-or-clear field (R224). -/
def flag (b : Bool) : List Byte := u8 (if b then 1 else 0)

/-- A text with its length byte (R224). -/
def text (t : Text) : List Byte := u8 t.length ++ t

/-- An index field that may be absent: 0xFF stands for NONE or none (R224). -/
def index? (i : Option Nat) : List Byte := u8 (i.getD 0xFF)

/-- A position or arrival clock that may be absent: 0xFFFF stands for none (R224). -/
def wide? (i : Option Nat) : List Byte := u16 (i.getD 0xFFFF)

/-- A list: a count byte, then the entries (R224). -/
def counted {α : Type} (f : α → List Byte) (l : List α) : List Byte := u8 l.length ++ l.flatMap f

/-- One of the eight steps of R230. -/
def crcShift (r : BitVec 16) : BitVec 16 := if r.msb then (r <<< 1) ^^^ 0x1021#16 else r <<< 1

/-- One byte of R230: combined into the upper eight bits, then eight steps. -/
def crcByte (r : BitVec 16) (b : Byte) : BitVec 16 :=
  crcShift (crcShift (crcShift (crcShift (crcShift (crcShift (crcShift (crcShift (r ^^^ (b.setWidth 16 <<< 8)))))))))

/-- The CRC-16 of R230 over the bytes in the order sent. -/
def crc16 (bytes : List Byte) : BitVec 16 := bytes.foldl crcByte 0xFFFF#16

/-- A 16-bit value as two bytes, high byte first. -/
def wordBytes (w : BitVec 16) : List Byte := [w.extractLsb' 8 8, w.extractLsb' 0 8]

/-- Two bytes received, as one 16-bit value, high byte first. -/
def wordOf (hi lo : Byte) : BitVec 16 := hi ++ lo

/-- A printable byte, 0x20 to 0x7E (00_scope.md section 5.3). -/
def printable (b : Byte) : Bool := 0x20 ≤ b.toNat && b.toNat ≤ 0x7E

/-- A text of lo to hi printable bytes (00_scope.md section 5.3). -/
def textIn (lo hi : Nat) (t : Text) : Bool := lo ≤ t.length && t.length ≤ hi && t.all printable

/-- Division rounded up (00_scope.md section 5.2). -/
def ceilDiv (a b : Nat) : Nat := (a + b - 1) / b

/-- The characters of a name as bytes (ASCII). -/
def bytesOf (codes : List Nat) : List Byte := codes.map (BitVec.ofNat 8)

end Sys2Proof.Machine
end

