-- ==== Sys2Proof/Machine/Codes.lean ====
section
/-! DEFINITION. The codes of enumerated values (R204, R213, R225), and their reading back where a request carries one. -/

namespace Sys2Proof.Machine

/-- Result codes (R204). -/
def ResultCode.code : ResultCode → Nat
  | .done => 0x00 | .queueFull => 0x01 | .unknownKind => 0x02 | .badField => 0x03 | .wrongState => 0x04
  | .noSpace => 0x05 | .overlap => 0x06 | .outOfRange => 0x07 | .notFound => 0x08 | .inUse => 0x09
  | .routeMismatch => 0x0A

/-- Class numbers (R213). -/
def ReportClass.number : ReportClass → Nat
  | .ready => 0 | .consist => 1 | .line => 2 | .journey => 3 | .reservation => 4 | .calibration => 5

/-- Home phase (R225). -/
def Phase.code : Phase → Nat
  | .noJourney => 0 | .atStop _ => 1 | .running _ => 2 | .terminated _ => 3

/-- Train direction (R225). -/
def Direction.code : Direction → Nat
  | .headFirst => 0 | .headLast => 1

/-- Train direction from its code; any other code is outside the set (R27). -/
def Direction.ofCode : Nat → Option Direction
  | 0 => some .headFirst | 1 => some .headLast | _ => none

/-- Platform side, door side (R225). -/
def Side.code : Side → Nat
  | .none => 0 | .left => 1 | .right => 2 | .both => 3

/-- Platform side from its code; any other code is outside the four values (R4). -/
def Side.ofCode : Nat → Option Side
  | 0 => some .none | 1 => some .left | 2 => some .right | 3 => some .both | _ => Option.none

/-- Route slot state (R225). -/
def SlotState.code : SlotState → Nat
  | .empty => 0 | .edit => 1 | .ready => 2 | .inUse => 3

/-- Portion entry state (R225). -/
def PortionState.code : PortionState → Nat
  | .attached => 0 | .parting => 1

/-- Journey notice state (R225). -/
def JourneyNotice.code : JourneyNotice → Nat
  | .none => 0 | .approaching _ => 1 | .arriving _ => 2 | .atPlatform _ => 3

/-- The home stop a journey notice state names (R24). -/
def JourneyNotice.stop : JourneyNotice → Option Nat
  | .none => Option.none | .approaching n => some n | .arriving n => some n | .atPlatform c => some c

/-- Consist entry state (R225); LOST is 4. -/
def EntryState.code : EntryState → Nat
  | .probation => 0 | .active => 1 | .mute => 2 | .departing => 3

/-- Orientation (R225). -/
def Orientation.code : Orientation → Nat
  | .forward => 0 | .reversed => 1

/-- Survey state (R225). -/
def SurveyState.code : SurveyState → Nat
  | .off => 0 | .surveying => 1 | .closed => 2

/-- Close cause (R225). -/
def CloseCause.code : CloseCause → Nat
  | .none => 0 | .attemptsSpent => 1 | .listFull => 2 | .consistFull _ => 3 | .unitLimit _ => 4 | .hopConfused _ => 5

/-- The identity of a close cause (R56). -/
def CloseCause.identity : CloseCause → Option Nat
  | .consistFull i => some i | .unitLimit i => some i | .hopConfused i => some i | _ => Option.none

/-- Staging state (R225). -/
def Staging.code : Staging → Nat
  | .closed => 0 | .copying => 1 | .openEmpty => 2 | .openCopy => 3 | .armedEmpty _ => 4 | .armedCopy _ => 5

/-- The home index of an armed trigger; IMMEDIATE and no trigger are carried as 0xFF (R224). -/
def Staging.trigger : Staging → Option Nat
  | .armedEmpty (.home i) => some i | .armedCopy (.home i) => some i | _ => none

/-- Segment kind (R225). -/
def SegmentKind.code : SegmentKind → Nat
  | .reserved => 1 | .priority => 2 | .held => 3

/-- Segment kind from its code; any other code is outside the three values (R92). -/
def SegmentKind.ofCode : Nat → Option SegmentKind
  | 1 => some .reserved | 2 => some .priority | 3 => some .held | _ => none

/-- Agreement cause (R225). -/
def Agreement.code : Agreement → Nat
  | .agreeing => 0 | .unitUnassigned => 1 | .noRecord => 2 | .slotDiffers => 3 | .typeDiffers => 4

/-- Block kind (R225): its place in the order of R119. -/
def BlockKind.code : BlockKind → Nat
  | .header => 1 | .names0 => 2 | .names1 => 3 | .names2 => 4 | .names3 => 5 | .names4 => 6 | .seat0 => 7 | .seat1 => 8
  | .seat2 => 9 | .seat3 => 10 | .seat4 => 11 | .seat5 => 12 | .map => 13

/-- Notice priority (R225). -/
def Priority.code : Priority → Nat
  | .normal => 0 | .urgent => 1

/-- Notice priority from its code (R135). -/
def Priority.ofCode : Nat → Option Priority
  | 0 => some .normal | 1 => some .urgent | _ => none

/-- Expiry as a kind byte and a 2-byte value (R224). -/
def Expiry.bytes : Expiry → List Byte
  | .none => u8 0 ++ u16 0
  | .atStop i => u8 1 ++ u16 i
  | .cycles r => u8 2 ++ u16 r

/-- Expiry from its kind and value, within the sets of R134 (R135); the value of NONE is not examined (log entry 23). -/
def Expiry.ofFields (kind value : Nat) : Option Expiry :=
  match kind with
  | 0 => some .none
  | 1 => if value ≤ 39 then some (.atStop value) else Option.none
  | 2 => if value = 0 then Option.none else some (.cycles value)
  | _ => Option.none

/-- Page kind (R225). -/
def PageKind.code : PageKind → Nat
  | .empty => 0 | .nextStop => 1 | .seats => 2 | .routeMap => 3 | .coach => 4 | .notice => 5

/-- Page kind from its code (R142). -/
def PageKind.ofCode : Nat → Option PageKind
  | 0 => some .empty | 1 => some .nextStop | 2 => some .seats | 3 => some .routeMap | 4 => some .coach
  | 5 => some .notice | _ => none

/-- Line state (R225). -/
def LineState.code : LineState → Nat
  | .ok => 0 | .degraded => 1 | .dead => 2

/-- Slot result (R225). -/
def LineResult.code : LineResult → Nat
  | .none => 0 | .valid => 1 | .crcError => 2 | .late => 3 | .clash => 4

/-- Acknowledgement (R225). -/
def Ack.code : Ack → Nat
  | .none => 0 | .matched => 1 | .notMatched => 2

/-- Line used (R225). -/
def lineCode : Option Line → Nat
  | none => 0 | some .a => 1 | some .b => 2

/-- Lock state (R225). -/
def LockState.code : LockState → Nat
  | .unlocked => 0 | .pending => 1 | .locked => 2

/-- Capture setting (R225). -/
def Capture.code : Capture → Nat
  | .continuous => 0 | .waiting => 1 | .evenTaken => 1 | .held => 1

/-- Capture progress (R225); under CONTINUOUS there is none, and its code is a free value (log entry 12). -/
def Capture.progress : Capture → List Byte
  | .continuous => [Config.noProgress] | .waiting => u8 0 | .evenTaken => u8 1 | .held => u8 2

/-- Backbone state (R225). -/
def BackboneState.code : BackboneState → Nat
  | .off => 0 | .running => 1 | .stopping => 2

/-- READY cause (R225). -/
def ReadyCause.code : ReadyCause → Nat
  | .powerOn => 0 | .partReset => 1

/-- Bank number (R224). -/
def BankNo.code : BankNo → Nat
  | .bank0 => 0 | .bank1 => 1

end Sys2Proof.Machine
end

