-- ==== Sys2Proof/Machine/Journey.lean ====
section
/-! DEFINITION. What chapters 1 and 2 derive from the routes, the portion table and the phase, and never store: effective
indices, common spans, current indices, positions, the journey notice handed for a portion. -/

namespace Sys2Proof.Machine

/-- The route slot of a number 0 to 3; no other number names a slot (R1). -/
def Slots.get (q : Slots) : Nat → RouteSlot
  | 0 => q.s0 | 1 => q.s1 | 2 => q.s2 | 3 => q.s3 | _ => .absent

/-- The slots with one of them changed. -/
def Slots.set (q : Slots) (n : Nat) (v : RouteSlot) : Slots :=
  match n with
  | 0 => { q with s0 := v } | 1 => { q with s1 := v } | 2 => { q with s2 := v } | 3 => { q with s3 := v } | _ => q

/-- Every slot changed by its number. -/
def Slots.mapNumbered (q : Slots) (f : Nat → RouteSlot → RouteSlot) : Slots :=
  { s0 := f 0 q.s0, s1 := f 1 q.s1, s2 := f 2 q.s2, s3 := f 3 q.s3 }

/-- The first index at or after i of a stop that is not cancelled, the list beginning at index i. -/
def firstServed : List Stop → Nat → Option Nat
  | [], _ => none
  | p :: rest, i => if p.cancelled then firstServed rest (i + 1) else some i

/-- eff(i): the smallest index at or above i whose stop is not cancelled (R8). Every route's last stop is served, so
there is one; in a route with none the last index stands for it. -/
def eff (stops : List Stop) (i : Nat) : Nat := (firstServed (stops.drop i) i).getD (stops.length - 1)

/-- eff() with an index above the last read as the last (R115). -/
def effClamped (stops : List Stop) (i : Nat) : Nat := eff stops (min i (stops.length - 1))

/-- The sum of the leg lengths of stops c + 1 to n inclusive (R8). -/
def legLength (stops : List Stop) (c n : Nat) : Nat := (((stops.drop (c + 1)).take (n - c)).map Stop.leg).sum

/-- The map column of a stop. -/
def columnOf (stops : List Stop) (i : Nat) : Nat := (stops[i]?.map Stop.column).getD 0

/-- The home entry of the portion table (R13). -/
def Jt.home (j : Jt) : Option Portion := j.portions.find? (·.home)

/-- The stops of the home route. -/
def Jt.homeStops (j : Jt) : List Stop :=
  match j.home with
  | some p => (j.slots.get p.slot).stops
  | none => []

/-- The last index of the home route. -/
def Jt.homeLast (j : Jt) : Nat := j.homeStops.length - 1

/-- The home index c (R18); none in NO_JOURNEY. -/
def Phase.index : Phase → Option Nat
  | .noJourney => none | .atStop c => some c | .running c => some c | .terminated c => some c

/-- The next stop n while RUNNING: eff(c + 1) (R18). -/
def Jt.next (j : Jt) : Option Nat :=
  match j.phase with
  | .running c => some (eff j.homeStops (c + 1))
  | _ => none

/-- The effective leg length S_eff while RUNNING (R38). -/
def Jt.legEff (j : Jt) : Nat :=
  match j.phase with
  | .running c => legLength j.homeStops c (eff j.homeStops (c + 1))
  | _ => 0

/-- The remaining distance R (R38). -/
def Jt.remaining (j : Jt) : Nat :=
  match j.phase with
  | .running _ => j.legEff - j.odo.dist
  | _ => 0

/-- Whether a home index lies in the common span of an entry (R13). -/
def Jt.inSpan (j : Jt) (p : Portion) (i : Nat) : Bool :=
  if p.home then i ≤ j.homeLast else p.assignedAt ≤ i && i ≤ p.partAt.getD j.homeLast

/-- A home index shifted to a portion's own route. -/
def Portion.own (p : Portion) (i : Nat) : Nat := (Int.ofNat i + p.delta).toNat

/-- A portion's own index shifted back to the home route; none below 0. -/
def Portion.toHome (p : Portion) (i : Nat) : Option Nat :=
  let h := Int.ofNat i - p.delta
  if h < 0 then none else some h.toNat

/-- The portion current index, while the entry is aligned (R13). -/
def Jt.currentIndex (j : Jt) (p : Portion) : Option Nat :=
  match j.phase.index with
  | some c => if j.inSpan p c then some (p.own c) else none
  | none => none

/-- The entry of a unit. -/
def Jt.portionOf (j : Jt) (unit : Nat) : Option Portion := j.portions.find? (·.unit = unit)

/-- Whether the portion table holds an entry for the unit, ATTACHED or PARTING (R120). -/
def Jt.assigned (j : Jt) (unit : Nat) : Bool := (j.portionOf unit).isSome

/-- The current index of a unit's portion. -/
def Jt.unitIndex (j : Jt) (unit : Nat) : Option Nat := (j.portionOf unit).bind j.currentIndex

/-- The route of a unit's portion; none when the unit is not assigned. -/
def Jt.unitRoute (j : Jt) (unit : Nat) : Option RouteSlot := (j.portionOf unit).map fun p => j.slots.get p.slot

/-- The portion's next stop n + delta, when the entry is aligned and n lies within its common span (R42). -/
def Jt.portionNext (j : Jt) (p : Portion) : Option Nat :=
  match j.currentIndex p, j.next with
  | some _, some n => if j.inSpan p n then some (p.own n) else none
  | _, _ => none

/-- The slot index of the Reservation Store (R88). -/
def Jt.slotIndex (j : Jt) (slot : Nat) : Option Nat :=
  j.portions.findSome? fun p => if p.slot = slot then j.currentIndex p else none

/-- Every slot that has an index, with it. -/
def Jt.slotIndices (j : Jt) : List (Nat × Nat) :=
  [0, 1, 2, 3].filterMap fun slot => (j.slotIndex slot).map fun x => (slot, x)

/-- A mark between two columns (R41). -/
def markBetween (a b dist leg : Nat) : Nat := a + (b - a) * min dist leg / leg

/-- The position mark on the home route (R41). -/
def Jt.homePosition (j : Jt) : Nat :=
  match j.phase with
  | .noJourney => 0
  | .atStop c => columnOf j.homeStops c
  | .terminated c => columnOf j.homeStops c
  | .running c =>
    markBetween (columnOf j.homeStops c) (columnOf j.homeStops (eff j.homeStops (c + 1))) j.odo.dist j.legEff

/-- The position of a portion; none while it is not aligned (R42). -/
def Jt.position (j : Jt) (p : Portion) : Option Nat :=
  match j.currentIndex p with
  | none => none
  | some x =>
    if p.home then some j.homePosition
    else
      let stops := (j.slots.get p.slot).stops
      match j.portionNext p with
      | some m => some (markBetween (columnOf stops x) (columnOf stops m) j.odo.dist j.legEff)
      | none => some (columnOf stops x)

/-- The journey notice handed to the composer for a portion (R25): a kind with the stop index at the portion's own
alignment, and for the parting advisory also the portion's destination. -/
inductive Handed where
  | approaching (i : Nat)
  | arriving (i : Nat)
  | atPlatform (i : Nat)
  | advisory (i : Nat) (dest : Text)
  deriving DecidableEq, Repr

/-- Whether the parting advisory applies at a home stop: some entry parts there (R25). -/
def Jt.partsAt (j : Jt) (stop : Nat) : Bool := j.portions.any fun p => p.partAt = some stop

/-- The notice handed for an entry (R25). A portion is handed none when it has no current index, or when the stop the
state names lies outside its common span (log entry 14). -/
def Jt.handed (j : Jt) (p : Portion) : Option Handed :=
  match j.currentIndex p, j.notice.stop with
  | some _, some i =>
    if !j.inSpan p i then none
    else if j.partsAt i && (p.home || p.partAt = some i) then some (.advisory (p.own i) (j.slots.get p.slot).dest)
    else
      match j.notice with
      | .none => none
      | .approaching _ => some (.approaching (p.own i))
      | .arriving _ => some (.arriving (p.own i))
      | .atPlatform _ => some (.atPlatform (p.own i))
  | _, _ => none

/-- The notice handed for the portion of a unit. -/
def Jt.unitHanded (j : Jt) (unit : Nat) : Option Handed := (j.portionOf unit).bind j.handed

/-- Whether a unit's coaches carry the parting advisory (R25). -/
def Jt.advised (j : Jt) (unit : Nat) : Bool :=
  match j.unitHanded unit with
  | some (.advisory _ _) => true
  | _ => false

end Sys2Proof.Machine
end

