-- ==== Sys2Proof/Machine/Flags.lean ====
section
/-! DEFINITION. Flag sets and their bits (R225), the conditions of the alarm flags (R219) and the ALARM pin (R222). -/

namespace Sys2Proof.Machine

/-- Bit n of a set carried as a number. -/
def hasBit (set n : Nat) : Bool := set.testBit n

/-- The number of a set whose bits, from bit 0, are given. -/
def bitSet (bits : List Bool) : Nat := bits.foldr (fun b acc => (if b then 1 else 0) + 2 * acc) 0

/-- The six flags as bits, from bit 0 (R225). -/
def Alarms.bits (a : Alarms) : List Bool := [a.lineA, a.lineB, a.coachMute, a.coachLost, a.overflow, a.stale]

/-- The alarm flags a set names (R225). -/
def Alarms.ofSet (set : Nat) : Alarms :=
  { lineA := hasBit set 0, lineB := hasBit set 1, coachMute := hasBit set 2, coachLost := hasBit set 3,
    overflow := hasBit set 4, stale := hasBit set 5 }

/-- A flagwise combination of two sets of alarm flags. -/
def Alarms.zip (f : Bool → Bool → Bool) (a b : Alarms) : Alarms :=
  { lineA := f a.lineA b.lineA, lineB := f a.lineB b.lineB, coachMute := f a.coachMute b.coachMute,
    coachLost := f a.coachLost b.coachLost, overflow := f a.overflow b.overflow, stale := f a.stale b.stale }

/-- Whether any flag is set. -/
def Alarms.any (a : Alarms) : Bool := a.lineA || a.lineB || a.coachMute || a.coachLost || a.overflow || a.stale

/-- Which conditions hold (R219). -/
def conditions (s : State) : Alarms :=
  { lineA := s.sup.a.state != .ok
    lineB := s.sup.b.state != .ok
    coachMute := s.cm.list.any fun e => e.state = .mute
    coachLost := !s.cm.detached.isEmpty
    overflow := s.clc.overflow
    stale := s.jt.odo.skips = s.jt.config.skipLimit }

/-- The ALARM pin (R222): high while any alarm flag is set, and low while RESETN is low (R211). -/
def alarmPin (s : State) : Bool := s.clc.ready != .held && s.clc.alarms.any

/-- The flags of a line as bits, from bit 0 of its half of the set (R225). -/
def LineFlags.bits (f : LineFlags) : List Bool := [f.validSeen, f.crcError, f.late, f.clash, f.abortSent]

/-- The flags of one line named by five bits of a set beginning at bit n (R225). -/
def LineFlags.ofSet (set n : Nat) : LineFlags :=
  { validSeen := hasBit set n, crcError := hasBit set (n + 1), late := hasBit set (n + 2), clash := hasBit set (n + 3),
    abortSent := hasBit set (n + 4) }

/-- A flagwise combination of two lines' flags. -/
def LineFlags.zip (f : Bool → Bool → Bool) (a b : LineFlags) : LineFlags :=
  { validSeen := f a.validSeen b.validSeen, crcError := f a.crcError b.crcError, late := f a.late b.late,
    clash := f a.clash b.clash, abortSent := f a.abortSent b.abortSent }

/-- Whether any flag of a line is set (R223). -/
def LineFlags.any (f : LineFlags) : Bool := f.validSeen || f.crcError || f.late || f.clash || f.abortSent

/-- The eleven line flags as one set: line A in bits 0 to 4, line B in bits 8 to 12, MISMATCH in bit 15 (R225). -/
def lineSet (a b : LineFlags) (mismatch : Bool) : Nat :=
  bitSet a.bits + 256 * bitSet b.bits + (if mismatch then 32768 else 0)

/-- The journey status flags (R225). -/
def Odometer.statusSet (o : Odometer) : Nat := bitSet [o.pulseSat, o.distSat, o.fixLimited, o.etaHeld]

/-- The classes named by a set (R225): bit n is class n. -/
def Enabled.ofSet (set : Nat) : Enabled :=
  { consist := hasBit set 1, line := hasBit set 2, journey := hasBit set 3, reservation := hasBit set 4,
    calibration := hasBit set 5 }

/-- Whether a class is enabled; READY cannot be disabled (R218). -/
def Enabled.has (e : Enabled) : ReportClass → Bool
  | .ready => true | .consist => e.consist | .line => e.line | .journey => e.journey
  | .reservation => e.reservation | .calibration => e.calibration

end Sys2Proof.Machine
end

