-- ==== Sys2Proof/Machine/Display.lean ====
section
/-! DEFINITION. The Display Composer's blocks: the kinds and their order (R119), the kinds valid for an entry (R120), a
block set seen by kind, the choice of a block (R131) and the choice of a notice (R140). -/

namespace Sys2Proof.Machine

/-- The thirteen kinds in the order of R119. -/
def BlockKind.all : List BlockKind :=
  [.header, .names0, .names1, .names2, .names3, .names4, .seat0, .seat1, .seat2, .seat3, .seat4, .seat5, .map]

/-- NAMESk. -/
def BlockKind.names : Nat → BlockKind
  | 0 => .names0 | 1 => .names1 | 2 => .names2 | 3 => .names3 | _ => .names4

/-- SEATk. -/
def BlockKind.seat : Nat → BlockKind
  | 0 => .seat0 | 1 => .seat1 | 2 => .seat2 | 3 => .seat3 | 4 => .seat4 | _ => .seat5

/-- The k of NAMESk. -/
def BlockKind.namesNo : BlockKind → Option Nat
  | .names0 => some 0 | .names1 => some 1 | .names2 => some 2 | .names3 => some 3 | .names4 => some 4 | _ => none

/-- The k of SEATk. -/
def BlockKind.seatNo : BlockKind → Option Nat
  | .seat0 => some 0 | .seat1 => some 1 | .seat2 => some 2 | .seat3 => some 3 | .seat4 => some 4 | .seat5 => some 5
  | _ => none

/-- Whether a kind is one of SEAT0 to SEAT5. -/
def BlockKind.isSeat (k : BlockKind) : Bool := k.seatNo.isSome

/-- The block of a kind. -/
def BlockSet.get (b : BlockSet) : BlockKind → Block
  | .header => b.header | .names0 => b.names0 | .names1 => b.names1 | .names2 => b.names2 | .names3 => b.names3
  | .names4 => b.names4 | .seat0 => b.seat0 | .seat1 => b.seat1 | .seat2 => b.seat2 | .seat3 => b.seat3
  | .seat4 => b.seat4 | .seat5 => b.seat5 | .map => b.map

/-- The set whose block of each kind is given. -/
def BlockSet.ofKinds (f : BlockKind → Block) : BlockSet :=
  { header := f .header, names0 := f .names0, names1 := f .names1, names2 := f .names2, names3 := f .names3,
    names4 := f .names4, seat0 := f .seat0, seat1 := f .seat1, seat2 := f .seat2, seat3 := f .seat3, seat4 := f .seat4,
    seat5 := f .seat5, map := f .map }

/-- The record of a type code in the coach type table (R83). -/
def Cm.typeOf (c : Cm) (code : Nat) : Option TypeRecord := c.types.find? (·.code = code)

/-- Whether a kind is valid for an entry in a state, of a unit, reporting a type code (R120). -/
def validFor (s : State) (state : EntryState) (unit type : Nat) (k : BlockKind) : Bool :=
  let full := state = .active || state = .mute
  match k with
  | .header => true
  | .map => full && s.jt.assigned unit
  | _ =>
    match k.namesNo, k.seatNo, s.jt.unitRoute unit, s.cm.typeOf type with
    | some n, _, some r, _ => full && n < ceilDiv r.stops.length 8
    | _, some n, _, some t => full && n < ceilDiv t.seats 16
    | _, _, _, _ => false

/-- Whether a kind is valid for a list entry as things stand (R120). -/
def validNow (s : State) (e : Entry) (k : BlockKind) : Bool := validFor s e.state e.coach.unit e.coach.type k

/-- The set of an entry admitted to the list (R119): every generation 0, dirty on every valid kind. -/
def BlockSet.admitted (s : State) (state : EntryState) (c : Coach) : BlockSet :=
  .ofKinds fun k =>
    let v := validFor s state c.unit c.type k
    { valid := v, gen := 0, dirty := v }

/-- The kinds in cyclic order starting after the kind given (R131). -/
def BlockKind.after (k : BlockKind) : List BlockKind := BlockKind.all.drop k.code ++ BlockKind.all.take k.code

/-- The block chosen for an entry, and where the refresh pointer then stands (R131). -/
def choose (e : Entry) : BlockKind × BlockKind :=
  match BlockKind.all.find? fun k => (e.blocks.get k).valid && (e.blocks.get k).dirty with
  | some k => (k, e.refresh)
  | none =>
    match e.refresh.after.find? fun k => (e.blocks.get k).valid with
    | some k => (k, k)
    | none => (.header, e.refresh)

/-- The notice chosen for a list entry's HEADER (R140). -/
inductive Chosen where
  | parted
  | host (place : Nat) (n : Notice)
  | journey (h : Handed)
  | none
  deriving DecidableEq, Repr

/-- The notice with a priority nearest the top, with its place counted from 0 at the top (DESIGN CHOICE, log entry 35). -/
def nearest (p : Priority) (stack : List Notice) : Option (Nat × Notice) :=
  (stack.zipIdx.find? fun x => x.1.priority = p).map fun x => (x.2, x.1)

/-- R140: the first case that applies decides. -/
def chosen (s : State) (e : Entry) : Chosen :=
  if e.state = .departing then .parted
  else
    match nearest .urgent e.coach.notices with
    | some (i, n) => .host i n
    | Option.none =>
      match s.jt.unitHanded e.coach.unit with
      | some h => .journey h
      | Option.none =>
        match nearest .normal e.coach.notices with
        | some (i, n) => .host i n
        | Option.none => .none

/-- The place in the stack of the host notice chosen, if one is. -/
def chosenPlace (s : State) (e : Entry) : Option Nat :=
  match chosen s e with
  | .host i _ => some i
  | _ => Option.none

end Sys2Proof.Machine
end

