-- ==== Sys2Proof/Machine/Seats.lean ====
section
/-! DEFINITION. What chapter 4 derives: the banks, agreement (R116), the state of a seat (R113 to R115), and the bank
edits that do not touch another block. -/

namespace Sys2Proof.Machine

/-- The other bank (R87). -/
def BankNo.other : BankNo → BankNo
  | .bank0 => .bank1
  | .bank1 => .bank0

/-- A bank by its number. -/
def Rs.bank (r : Rs) : BankNo → List Vehicle
  | .bank0 => r.bank0
  | .bank1 => r.bank1

/-- The store with one bank changed. -/
def Rs.setBank (r : Rs) (n : BankNo) (v : List Vehicle) : Rs :=
  match n with
  | .bank0 => { r with bank0 := v }
  | .bank1 => { r with bank1 := v }

/-- The live bank (R87). -/
def Rs.liveBank (r : Rs) : List Vehicle := r.bank r.live

/-- The staging bank (R87). -/
def Rs.stagingBank (r : Rs) : List Vehicle := r.bank r.live.other

/-- The record of an identity in a bank. -/
def vehicleIn (bank : List Vehicle) (id : Nat) : Option Vehicle := bank.find? (·.id = id)

/-- The segments of a record. -/
def Vehicle.count (v : Vehicle) : Nat := (v.seats.map List.length).sum

/-- The segments of a bank. -/
def segmentCount (bank : List Vehicle) : Nat := (bank.map Vehicle.count).sum

/-- OPEN or ARMED: the staging bank is purged and deleted from with the live bank (R110, R112). -/
def Staging.open? : Staging → Bool
  | .openEmpty => true | .openCopy => true | .armedEmpty _ => true | .armedCopy _ => true
  | .closed => false | .copying => false

/-- Live edits are mirrored (R97, R106). -/
def Staging.mirrored : Staging → Bool
  | .openCopy => true | .armedCopy _ => true | _ => false

/-- The agreement of a coach of a unit, an identity and a reported type with a record (R116). -/
def agreementWith (s : State) (unit type : Nat) (record : Option Vehicle) : Agreement :=
  match s.jt.portionOf unit with
  | none => .unitUnassigned
  | some p =>
    match record with
    | none => .noRecord
    | some v => if v.slot ≠ p.slot then .slotDiffers else if v.type ≠ type then .typeDiffers else .agreeing

/-- The agreement of a list entry with the record of its identity in a bank (R116; R107 for a bank that is not live). -/
def agreement (s : State) (bank : List Vehicle) (e : Entry) : Agreement :=
  agreementWith s e.coach.unit e.coach.type (vehicleIn bank e.coach.id)

/-- A seat state (R113), with the deciding segment's kind and label. -/
inductive SeatState where
  | unknown
  | free
  | freeUntil (i : Nat) (kind : SegmentKind) (label : Text)
  | reservedUntil (i : Nat) (kind : SegmentKind) (label : Text)
  | reservedToEnd (kind : SegmentKind) (label : Text)
  deriving DecidableEq, Repr

/-- The first segment that decides at current index c, read with effective ends (R114 case 4, R115), or FREE. -/
def decideSeat (stops : List Stop) (c : Nat) : List Segment → SeatState
  | [] => .free
  | g :: rest =>
    let f := effClamped stops g.fromIx
    let t := effClamped stops g.toIx
    if f ≥ t then decideSeat stops c rest
    else if t > c then
      if f ≤ c then
        if t = stops.length - 1 then .reservedToEnd g.kind g.label else .reservedUntil t g.kind g.label
      else .freeUntil f g.kind g.label
    else decideSeat stops c rest

/-- The state of seat q of a list entry, from the record of its identity in a bank (R114). -/
def seatState (s : State) (bank : List Vehicle) (e : Entry) (q : Nat) : SeatState :=
  if agreement s bank e ≠ .agreeing then .unknown
  else
    match s.jt.phase with
    | .terminated _ => .free
    | _ =>
      match s.jt.unitIndex e.coach.unit, vehicleIn bank e.coach.id with
      | some c, some v => decideSeat (s.jt.slots.get v.slot).stops c ((v.seats[q]?).getD [])
      | _, _ => .unknown

/-- A seat's bytes in a SEAT block: state, stop index, kind, label (R229, R225). READ SEAT carries its seat state in the same
four fields (DESIGN CHOICE, log entry 36). -/
def SeatState.bytes : SeatState → List Byte
  | .unknown => u8 0 ++ index? none ++ u8 0 ++ text []
  | .free => u8 1 ++ index? none ++ u8 0 ++ text []
  | .freeUntil i k l => u8 2 ++ index? (some i) ++ u8 k.code ++ text l
  | .reservedUntil i k l => u8 3 ++ index? (some i) ++ u8 k.code ++ text l
  | .reservedToEnd k l => u8 4 ++ index? none ++ u8 k.code ++ text l

/-- The segment record (R227). -/
def Segment.bytes (g : Segment) : List Byte := u8 g.fromIx ++ u8 g.toIx ++ u8 g.kind.code ++ text g.label

/-- Whether [f, t) and [f', t') overlap (R89). -/
def Segment.overlaps (g : Segment) (f t : Nat) : Bool := f < g.toIx && g.fromIx < t

/-- A segment inserted at the place its from index gives (R92). -/
def insertSegment (g : Segment) : List Segment → List Segment
  | [] => [g]
  | h :: rest => if g.fromIx < h.fromIx then g :: h :: rest else h :: insertSegment g rest

/-- The segments of a seat left by a purge at slot index x, removed from the front (R110). -/
def purgeSeat (x : Nat) (seat : List Segment) : List Segment := seat.dropWhile fun g => g.toIx ≤ x

/-- A record after a purge with the slot indices given; a record whose slot has no index is kept (R110). -/
def Vehicle.purge (indices : List (Nat × Nat)) (v : Vehicle) : Vehicle :=
  match indices.find? fun x => x.1 = v.slot with
  | some x => { v with seats := v.seats.map (purgeSeat x.2) }
  | none => v

/-- The live seats that lose segments in a purge, as identity and seat number (R110). -/
def purgedSeats (indices : List (Nat × Nat)) (bank : List Vehicle) : List (Nat × Nat) :=
  bank.flatMap fun v =>
    ((v.seats.zip (v.purge indices).seats).zipIdx.filter fun x => x.1.1.length ≠ x.1.2.length).map fun x => (v.id, x.2)

/-- A bank without the records of the identities given (R112). -/
def withoutVehicles (ids : List Nat) (bank : List Vehicle) : List Vehicle := bank.filter fun v => !ids.contains v.id

/-- A recorded purge or deletion applied to a bank (R100). -/
def Recorded.apply : Recorded → List Vehicle → List Vehicle
  | .purge indices, bank => bank.map (Vehicle.purge indices)
  | .delete ids, bank => withoutVehicles ids bank

/-- A bank with one record changed. -/
def updateVehicle (id : Nat) (f : Vehicle → Vehicle) (bank : List Vehicle) : List Vehicle :=
  bank.map fun v => if v.id = id then f v else v

/-- A record with one seat's list changed. -/
def Vehicle.setSeat (v : Vehicle) (q : Nat) (l : List Segment) : Vehicle := { v with seats := v.seats.set q l }

end Sys2Proof.Machine
end

