-- ==== Sys2Proof/Machine/Compose.lean ====
section
/-! DEFINITION. The content of each block, composed from its source records as they stand (section 5.2, R229), and the
payloads of the frames the controller sends on the backbone (R154, R157, R167, R228). -/

namespace Sys2Proof.Machine

/-- The mirror of a coach (R26): REVERSED or HEAD_LAST, but not both. -/
def mirror (s : State) (e : Entry) : Bool := (e.coach.orient = .reversed) != (s.jt.direction = .headLast)

/-- LEFT and RIGHT exchanged when the mirror is true (R26). -/
def Side.mirrored : Side → Bool → Side
  | .left, true => .right
  | .right, true => .left
  | d, _ => d

/-- The platform side of a stop of a route. -/
def sideOf (stops : List Stop) (i : Nat) : Side := (stops[i]?.map Stop.side).getD .none

/-- The door side of a coach (R26). -/
def doorSide (s : State) (e : Entry) : Side :=
  let platform : Side :=
    match s.jt.portionOf e.coach.unit with
    | none => .none
    | some p =>
      let stops := (s.jt.slots.get p.slot).stops
      match s.jt.phase, s.jt.currentIndex p with
      | .atStop _, some x => sideOf stops x
      | .running _, some _ =>
        match s.jt.notice, s.jt.portionNext p with
        | .approaching n, some _ => sideOf stops (p.own n)
        | .arriving n, some _ => sideOf stops (p.own n)
        | _, _ => .none
      | _, _ => .none
  platform.mirrored (mirror s e)

/-- The stop and role of a HEADER (R122): the portion's own index with role CURRENT (1) or NEXT (2), or absent. -/
def headerStop (s : State) (e : Entry) : Option (Nat × Nat) :=
  match s.jt.portionOf e.coach.unit with
  | none => none
  | some p =>
    match s.jt.phase, s.jt.currentIndex p with
    | .atStop _, some x => some (x, 1)
    | .terminated _, some x => some (x, 1)
    | .running _, some _ => (s.jt.portionNext p).map fun m => (m, 2)
    | _, _ => none

/-- The destination of the route of an entry's unit; empty when the unit is not assigned (R122, R140). -/
def destination (s : State) (e : Entry) : Text := ((s.jt.unitRoute e.coach.unit).map RouteSlot.dest).getD []

/-- The notice of a HEADER (R122, R140, R229): kind, urgent marker, stop index, text. A parting advisory carries the
stop index and the destination it is handed with (R25, log entry 15). -/
def noticeBytes (s : State) (e : Entry) : List Byte :=
  let field (kind : Nat) (urgent : Bool) (stop : Option Nat) (t : Text) : List Byte :=
    u8 kind ++ flag urgent ++ index? stop ++ text t
  match chosen s e with
  | .parted => field 6 true none (destination s e)
  | .host _ n => field 1 (n.priority = .urgent) none n.text
  | .journey (.approaching i) => field 2 false (some i) []
  | .journey (.arriving i) => field 3 false (some i) []
  | .journey (.atPlatform i) => field 4 false (some i) []
  | .journey (.advisory i d) => field 5 false (some i) d
  | .none => field 0 false none []

/-- The HEADER block (R122, R229). -/
def headerBytes (s : State) (e : Entry) : List Byte :=
  let stop := headerStop s e
  u16 e.coach.number ++ text (destination s e) ++ index? (stop.map Prod.fst) ++ u8 ((stop.map Prod.snd).getD 0)
    ++ u8 (if stop.isSome then s.jt.odo.etaMin else 0xFF)
    ++ wide? (if stop.isSome && s.jt.timeValid then s.jt.odo.clock else none)
    ++ u8 (doorSide s e).code ++ noticeBytes s e

/-- The NAMESk block (R123, R229). -/
def namesBytes (s : State) (e : Entry) (k : Nat) : List Byte :=
  let stops := ((s.jt.unitRoute e.coach.unit).map RouteSlot.stops).getD []
  u8 k ++ u8 stops.length ++ ((stops.drop (8 * k)).take 8).flatMap fun p => flag p.cancelled ++ text p.name

/-- The SEATk block (R124, R229), from the live bank. -/
def seatBytes (s : State) (e : Entry) (k : Nat) : List Byte :=
  let seats := ((s.cm.typeOf e.coach.type).map TypeRecord.seats).getD 0
  let here := min 16 (seats - 16 * k)
  u8 k ++ u8 here ++ (List.range here).flatMap fun i => (seatState s s.rs.liveBank e (16 * k + i)).bytes

/-- The MAP block (R125, R43, R229), the position as last handed to the composer (R44). -/
def mapBytes (s : State) (e : Entry) : List Byte :=
  let stops := ((s.jt.unitRoute e.coach.unit).map RouteSlot.stops).getD []
  let place (x : Nat) : Nat := if mirror s e then 1023 - x else x
  let current := s.jt.unitIndex e.coach.unit
  let pos := (s.jt.portionOf e.coach.unit).bind Portion.pos
  u8 stops.length ++ index? current ++ wide? (if current.isSome then pos.map place else none)
    ++ stops.flatMap fun p => u16 (place p.column) ++ flag p.cancelled

/-- The content of a block of an entry (section 5.2). -/
def blockBytes (s : State) (e : Entry) (k : BlockKind) : List Byte :=
  match k with
  | .header => headerBytes s e
  | .map => mapBytes s e
  | _ =>
    match k.namesNo, k.seatNo with
    | some n, _ => namesBytes s e n
    | none, some n => seatBytes s e n
    | none, none => []

/-- The list entry of an identity. -/
def Cm.entryOf (c : Cm) (id : Nat) : Option Entry := c.list.find? (·.coach.id = id)

/-- The payload of a CONTENT frame: destination, kind, generation, block content (R157, R228). -/
def contentPayload (s : State) (dest : Nat) (k : BlockKind) (gen : Nat) : List Byte :=
  u32 dest ++ u8 k.code ++ u8 gen ++
    match s.cm.entryOf dest with
    | some e => blockBytes s e k
    | none => []

/-- The bytes of a frame that its CRC covers: kind, length, payload (R149, R228). -/
def crcSpan (kind : Nat) (payload : List Byte) : List Byte := u8 kind ++ u8 payload.length ++ payload

/-- A frame sent down the chain with the bytes its CRC covers (R148, R149, R228): start marker, hop byte 1, those bytes, the
CRC formed over them, end marker. -/
def downSymbols (span : List Byte) : List Symbol :=
  .start :: (u8 1 ++ span ++ wordBytes (crc16 span)).map .data ++ [.stop]

/-- A frame sent down the chain with a kind and a payload. -/
def downFrame (kind : Nat) (payload : List Byte) : List Symbol := downSymbols (crcSpan kind payload)

/-- The kind codes of the frames the controller sends (R228). -/
def beaconKind : Nat := 0x01
/-- CONTENT (R228). -/
def contentKind : Nat := 0x02
/-- CALL (R228). -/
def callKind : Nat := 0x03

/-- The payload of a BEACON frame, its fields taken from their sources (R154, R228). -/
def beaconPayload (s : State) : List Byte :=
  u8 s.bc.counter ++ u8 s.dc.page.code ++ u8 s.jt.direction.code ++ u8 s.jt.phase.code
    ++ u8 (s.jt.phase.index.getD 0) ++ u16 s.jt.minute ++ flag s.jt.timeValid

end Sys2Proof.Machine
end

