-- ==== Sys2Proof/Machine/Ops.lean ====
section
/-! DEFINITION. The shared operations: reports and the transmitter, replies, marks and validity of content blocks, the
abort of a CONTENT frame, the backbone clock, agreement, and changes of list entries. -/

namespace Sys2Proof.Machine

/-! ## Reports and the transmitter -/

/-- Two reports have the same key: class, event code and subject (R213). -/
def Report.sameKey (r q : Report) : Bool := r.cls = q.cls && r.code = q.code && r.subject = q.subject

/-- R215: the first case that applies decides. -/
def Clc.enqueue (c : Clc) (r : Report) : Clc :=
  if !c.enabled.has r.cls then c
  else if c.reports.any (Report.sameKey r) then
    { c with reports := c.reports.map fun q => if r.sameKey q then { q with data := r.data } else q }
  else if c.reports.length < Config.maxReports then { c with reports := c.reports ++ [r] }
  else { c with overflow := true, drops := min 255 (c.drops + 1), alarms := { c.alarms with overflow := true } }

/-- The classes by rank (R217), READY before all. -/
def Order.ranking : Order → List ReportClass
  | .a => [.ready, .consist, .line, .journey, .reservation, .calibration]
  | .b => [.ready, .journey, .consist, .line, .reservation, .calibration]

/-- The report next to send: of the highest-ranked class waiting, the one that has waited longest (R217). -/
def Clc.nextReport (c : Clc) : Option Report :=
  c.order.ranking.findSome? fun k => c.reports.find? fun r => r.cls = k

/-- The IDLE transmitter takes the next frame: the oldest reply, otherwise a report with the overflow mark and drop count
as they stand, which are then cleared (R206, R216). -/
def Clc.takeNext (c : Clc) : Clc :=
  match c.replies with
  | r :: _ => { c with tx := .reply r }
  | [] =>
    match c.nextReport with
    | some r =>
      { c with tx := .report r c.overflow c.drops, reports := c.reports.erase r, overflow := false, drops := 0 }
    | none => c

/-- The transmitter takes a frame whenever it is IDLE with a frame to send (R206); between a reset and its READY report
it sends nothing (R212, log entry 7). -/
def Clc.transmit (c : Clc) : Clc := if c.tx = .idle && c.ready = .up then c.takeNext else c

/-- A block raises a report (R215), which an IDLE transmitter takes at once (R206, log entry 6). -/
def raise (cls : ReportClass) (code subject : Nat) (data : List Byte) (s : State) : State :=
  s.setClc (s.clc.enqueue { cls := cls, code := code, subject := subject, data := data }).transmit

/-- A reply joins the reply list (R206). -/
def addReply (r : Reply) (s : State) : State := s.setClc { s.clc with replies := s.clc.replies ++ [r] }.transmit

/-- The result of the head comes back and its reply is built (R204); the head becomes REPLYING (R202). -/
def finishHead (r : ResultCode) (data : List Byte) (s : State) : State :=
  match s.clc.queue with
  | q :: rest =>
    if q.state = .handling then
      addReply { kind := q.kind + 0x80, tag := q.tag, result := r, data := data, forHead := true }
        (s.setClc { s.clc with queue := { q with state := .replying } :: rest })
    else s
  | [] => s

/-- The alarm flags changed. -/
def setAlarms (f : Alarms → Alarms) (s : State) : State := s.setClc { s.clc with alarms := f s.clc.alarms }

/-! ## The CONTENT frame in flight -/

/-- A count held at 65,535 (R175). -/
def countUp (n : Nat) : Nat := min 65535 (n + 1)

/-- In flight at a moment of the slot: its last payload byte, symbol len + 4, not yet sent (R159). -/
def ContentFrame.inFlight (f : ContentFrame) (t : Nat) : Bool := f.state = .sending && t < 4 * (f.len + 4)

/-- The moment an abort marker ends when it replaces the next symbol at a moment of the slot (R147, R159). -/
def abortEnd (clock : Nat) : Nat := 4 * ceilDiv clock 4 + 4

/-- A line with ABORT_SENT set (R177). -/
def LineSup.abortSent (l : LineSup) : LineSup := { l with flags := { l.flags with abortSent := true } }

/-- R159: the abort marker goes out on both lines in place of the next symbol, ABORT_SENT is set for A and B, and the
count of aborted frames rises. -/
def abortFrame (s : State) : State :=
  match s.bc.frame with
  | some f =>
    (s.setBc { s.bc with frame := some { f with state := .aborted, endAt := abortEnd s.bc.clock }
                         aborted := countUp s.bc.aborted }).setSup
      { s.sup with a := s.sup.a.abortSent, b := s.sup.b.abortSent }
  | none => s

/-- Abort the frame in flight if its destination and kind satisfy a test. -/
def abortIf (test : Nat → BlockKind → Bool) (s : State) : State :=
  match s.bc.frame with
  | some f => if f.inFlight s.bc.clock && test f.dest f.kind then abortFrame s else s
  | none => s

/-! ## Content blocks -/

/-- What an event does to one block: nothing, mark it (R126), make its kind valid and mark it, make its kind not valid
(R121), or set the dirty mark alone (R129). -/
inductive BlockEffect where
  | keep
  | mark
  | enter
  | leave
  | dirty
  deriving DecidableEq, Repr

/-- Whether an effect advances the generation. -/
def BlockEffect.advances : BlockEffect → Bool
  | .mark => true | .enter => true | .leave => true | .keep => false | .dirty => false

/-- The block after an effect; a block the event has already advanced is not advanced again (R126). -/
def Block.after (b : Block) (already : Bool) (x : BlockEffect) : Block :=
  let gen := if x.advances && !already then (b.gen + 1) % 256 else b.gen
  match x with
  | .keep => b
  | .mark => { b with gen := gen, dirty := true }
  | .enter => { valid := true, gen := gen, dirty := true }
  | .leave => { valid := false, gen := gen, dirty := false }
  | .dirty => { b with dirty := true }

/-- One event's effects on the blocks of the list entries; an advance of the block in flight aborts its frame (R126). -/
def revise (f : Entry → BlockKind → BlockEffect) (s : State) : State :=
  let fresh := s.cm.list.flatMap fun e =>
    (BlockKind.all.filter fun k => (f e k).advances && !s.dc.advanced.contains (e.coach.id, k)).map fun k =>
      (e.coach.id, k)
  let list := s.cm.list.map fun e =>
    { e with blocks := .ofKinds fun k => (e.blocks.get k).after (s.dc.advanced.contains (e.coach.id, k)) (f e k) }
  abortIf (fun d k => fresh.contains (d, k))
    ((s.setCm { s.cm with list := list }).setDc { s.dc with advanced := s.dc.advanced ++ fresh })

/-- Mark the valid blocks chosen (R126). -/
def markBlocks (pick : Entry → BlockKind → Bool) (s : State) : State :=
  revise (fun e k => if (e.blocks.get k).valid && pick e k then .mark else .keep) s

/-- Evaluate the valid kinds of the entries chosen afresh (R120, R121). -/
def evaluateKinds (pick : Entry → Bool) (s : State) : State :=
  revise (fun e k =>
    if pick e then
      match (e.blocks.get k).valid, validNow s e k with
      | false, true => .enter
      | true, false => .leave
      | _, _ => .keep
    else .keep) s

/-- Set the dirty mark of every valid block of the entries chosen, without an advance (R129). -/
def dirtyBlocks (pick : Entry → Bool) (s : State) : State :=
  revise (fun e k => if (e.blocks.get k).valid && pick e then .dirty else .keep) s

/-- An entry whose unit is assigned (R127). -/
def assignedEntry (s : State) (e : Entry) : Bool := s.jt.assigned e.coach.unit

/-- An entry whose portion has a current index (R127). -/
def indexedEntry (s : State) (e : Entry) : Bool := (s.jt.unitIndex e.coach.unit).isSome

/-- Mark the HEADER of the entries chosen. -/
def markHeaders (pick : Entry → Bool) (s : State) : State := markBlocks (fun e k => pick e && k = .header) s

/-- "every seat changed" for the entries chosen: mark every valid SEAT block (R128). -/
def markSeats (pick : Entry → Bool) (s : State) : State := markBlocks (fun e k => pick e && k.isSeat) s

/-- Seats changed, named by identity and seat number: mark SEATk with k = q div 16 (R128). -/
def markSeatsOf (seats : List (Nat × Nat)) (s : State) : State :=
  markBlocks (fun e k => seats.any fun x => x.1 = e.coach.id && k = .seat (x.2 / 16)) s

/-- The phase of every portion changed: mark HEADER, MAP and every SEAT block of the assigned coaches (R127). -/
def markPhase (s : State) : State :=
  markBlocks (fun e k => assignedEntry s e && (k = .header || k = .map || k.isSeat)) s

/-- A change with the marks of the parting advisory: the HEADER of each coach whose unit begins or ceases to carry the
advisory is marked (R25, R127). -/
def withAdvisory (f : State → State) (s : State) : State :=
  let t := f s
  markHeaders (fun e => s.jt.advised e.coach.unit != t.jt.advised e.coach.unit) t

/-! ## List entries -/

/-- The list with the entry of an identity changed. -/
def Cm.update (c : Cm) (id : Nat) (f : Entry → Entry) : Cm :=
  { c with list := c.list.map fun e => if e.coach.id = id then f e else e }

/-- The entry of an identity changed. -/
def updateEntry (id : Nat) (f : Entry → Entry) (s : State) : State := s.setCm (s.cm.update id f)

/-- The coach part of an entry changed. -/
def Entry.mapCoach (f : Coach → Coach) (e : Entry) : Entry := { e with coach := f e.coach }

/-- The hop of an identity in the list: its place counted from 1 (R53). -/
def Cm.hopOf (c : Cm) (id : Nat) : Option Nat :=
  (c.list.zipIdx.find? fun x => x.1.coach.id = id).map fun x => x.2 + 1

/-- A hop as a byte; 0 stands for an entry that is not in the list, which no report names. -/
def Cm.hopByte (c : Cm) (id : Nat) : List Byte := u8 ((c.hopOf id).getD 0)

/-- Entries leave the list: the hops behind them fall, their block sets and agreement statuses go with them (R71, R117,
R119), and a frame in flight to one of them is aborted (R159). -/
def leaveList (gone : Entry → Bool) (s : State) : State :=
  let ids := (s.cm.list.filter gone).map (·.coach.id)
  abortIf (fun d _ => ids.contains d) (s.setCm { s.cm with list := s.cm.list.filter fun e => !gone e })

/-- A change of an entry's state, told to the composer: the valid kinds are evaluated, and the HEADER is marked when the
change is to or from DEPARTING (R55, R128). -/
def setEntryState (id : Nat) (st : EntryState) (s : State) : State :=
  let departs := s.cm.list.any fun e => e.coach.id = id && (e.state = .departing) != (st = .departing)
  let t := evaluateKinds (fun e => e.coach.id = id) (updateEntry id (fun e => { e with state := st }) s)
  if departs then markHeaders (fun e => e.coach.id = id) t else t

/-! ## Agreement -/

/-- The data of the report "mismatch" (R118, R226). -/
def mismatchData (s : State) (e : Entry) (a : Agreement) : List Byte :=
  let v := vehicleIn s.rs.liveBank e.coach.id
  u8 a.code ++ u8 ((v.map Vehicle.slot).getD 0xFF) ++ u8 ((v.map Vehicle.type).getD 0)
    ++ u8 (((s.jt.portionOf e.coach.unit).map Portion.slot).getD 0xFF) ++ u8 e.coach.type

/-- The agreement check made afresh for one entry (R116 to R118): its seats are marked when it begins or ceases to agree,
and "mismatch" is raised when it ceases to. -/
def checkEntry (id : Nat) (s : State) : State :=
  match s.cm.entryOf id with
  | none => s
  | some e =>
    let a := agreement s s.rs.liveBank e
    let t := updateEntry id (fun e => { e with agree := a }) s
    if (e.agree = .agreeing) = (a = .agreeing) then t
    else
      let u := markSeats (fun e => e.coach.id = id) t
      if a = .agreeing then u else raise .reservation 3 id (mismatchData s e a) u

/-- The agreement check made afresh for the entries chosen (R117). -/
def checkAgreement (pick : Entry → Bool) (s : State) : State :=
  ((s.cm.list.filter pick).map (·.coach.id)).foldl (fun t id => checkEntry id t) s

/-! ## The backbone clock -/

/-- How long a segment lasts, in microseconds (R152). -/
def CycleSegment.length : CycleSegment → Nat
  | .none => 0 | .beacon => 2000 | .beaconSent => 2000 | .slot _ => 2000 | .slotDone _ => 2000 | .call => 3000
  | .callDone => 3000 | .gap => 3000

/-- The symbols of a segment whose sending has begun before a moment, each lasting 4 microseconds (R147). -/
def begunBy (t : Nat) : Nat := ceilDiv t 4

/-- The bytes of a CONTENT frame that its CRC covers: kind, length byte, and the payload as sent (R149, R158). -/
def ContentFrame.span (f : ContentFrame) : List Byte := u8 contentKind ++ u8 f.len ++ f.sent

/-- The frame with the payload bytes begun before a moment, each read from its source as it is to be sent (R158); four
symbols go before the payload. A frame whose symbols have all gone is completed, its check the CRC over the kind, length
and payload sent. -/
def ContentFrame.sendTo (f : ContentFrame) (payload : List Byte) (t : Nat) : ContentFrame :=
  if f.state = .sending then
    let due := min f.len (begunBy t - 4)
    let g := { f with sent := f.sent ++ (payload.drop f.sent.length).take (due - f.sent.length) }
    if 4 * (f.len + 7) ≤ t then { g with state := .completed (crc16 g.span), endAt := 4 * (f.len + 7) } else g
  else f

/-- The symbols of a CONTENT frame whose sending has begun before a moment: those of the whole frame, or of an aborted one
those begun before the abort and the abort marker in place of the next (R158, R159). -/
def ContentFrame.symbols (f : ContentFrame) (t : Nat) : List Symbol :=
  let whole := downSymbols f.span
  match f.state with
  | .aborted => ((whole.take (f.endAt / 4 - 1)) ++ [Symbol.abort]).take (begunBy t)
  | .sending => whole.take (begunBy t)
  | .completed _ => whole.take (begunBy t)

/-- The symbols whose sending has begun in the segment in progress: the BEACON, CONTENT or CALL frame from its start on, and
nothing in a silent slot, a quiet call window or the quiet gap (R154, R157, R167, R170). With no segment the transmitters
are quiet; what they then have carried is the frame that PART RESET ended, if it ended one (R174). -/
def Bc.symbols (b : Bc) : List Symbol :=
  match b.segment with
  | .none => b.cut
  | .beacon => (downFrame beaconKind b.beacon).take (begunBy b.clock)
  | .beaconSent => (downFrame beaconKind b.beacon).take (begunBy b.clock)
  | .slot _ => (b.frame.map fun f => f.symbols b.clock).getD []
  | .slotDone _ => []
  | .call => (b.call.map fun c => (downFrame callKind (u8 c.target)).take (begunBy b.clock)).getD []
  | .callDone => []
  | .gap => []

/-- What the transmitter of each line has sent: the same symbols at the same moments (R147). -/
def Bc.sends (b : Bc) : Line → List Symbol
  | .a => b.symbols
  | .b => b.symbols

/-- The moment of the segment in progress at which the frame of the segment has gone whole; 0 with no frame (R154, R157, R159,
R167). -/
def Bc.frameEndsAt (b : Bc) : Nat :=
  match b.segment with
  | .none => 0
  | .beacon => 60
  | .beaconSent => 60
  | .slot _ => (b.frame.map fun f => if f.state = .sending then 4 * (f.len + 7) else f.endAt).getD 0
  | .slotDone _ => 0
  | .call => (b.call.map fun _ => 32).getD 0
  | .callDone => 0
  | .gap => 0

/-- A transmitter is quiet: nothing is being sent (R147). -/
def Bc.quiet (b : Bc) : Bool := b.frameEndsAt ≤ b.clock

/-- What both lines carry of the frame being sent when PART RESET ends it (R174): the symbols begun, and the abort marker,
unless that is already being sent. -/
def Bc.cutShort (b : Bc) : List Symbol :=
  if b.quiet then []
  else if b.symbols.getLast? = some .abort then b.symbols
  else b.symbols ++ [.abort]

/-- Time within the segment runs on to a moment, at most to the segment's end; the transmitters send what is due. -/
def runTo (t : Nat) (s : State) : State :=
  let now := max s.bc.clock (min t s.bc.segment.length)
  let frame := s.bc.frame.map fun f => f.sendTo (contentPayload s f.dest f.kind f.gen) now
  s.setBc { s.bc with clock := now, frame := frame }

/-! ## Commands as events -/

/-- A command as an event of the running controller: while RESETN is low nothing happens (R211), and the record of the
blocks the event has advanced begins and ends empty (R126, log entry 18). -/
def event (f : State → State) (s : State) : State :=
  if s.clc.ready = .held then s
  else
    let t := f (s.setDc { s.dc with advanced := [] })
    t.setDc { t.dc with advanced := [] }

end Sys2Proof.Machine
end

