-- ==== Sys2Proof/Machine/ConsistOps.lean ====
section
/-! DEFINITION. The shared operations of the Consist Manager (chapter 3): losses, splits, admission, the stop of the
backbone, and what they hand to the Journey Tracker and the Reservation Store. -/

namespace Sys2Proof.Machine

/-! ## What the Journey Tracker and the store are handed -/

/-- An IN_USE slot that no portion names goes back to READY (R1, R16). -/
def Jt.releaseSlot (j : Jt) (slot : Nat) : Jt :=
  let r := j.slots.get slot
  if r.state = .inUse && !j.portions.any (fun p => p.slot = slot) then
    { j with slots := j.slots.set slot { r with state := .ready } }
  else j

/-- The state of a unit's portion entry changed (R16). -/
def Jt.setPortionState (j : Jt) (unit : Nat) (st : PortionState) : Jt :=
  { j with portions := j.portions.map fun p => if p.unit = unit then { p with state := st } else p }

/-- "Split completed": the unit's entry is removed, and its slot goes back to READY if no other entry names it (R16). -/
def Jt.removePortion (j : Jt) (unit : Nat) : Jt :=
  match j.portionOf unit with
  | some p => { j with portions := j.portions.filter fun q => q.unit ≠ unit }.releaseSlot p.slot
  | none => j

/-- The records of the identities given are removed from the live bank, and from the staging bank when it is OPEN or
ARMED; in COPYING the staging removal is recorded (R112, R100). -/
def Rs.deleteVehicles (r : Rs) (ids : List Nat) : Rs :=
  let live := r.setBank r.live (withoutVehicles ids r.liveBank)
  if r.staging.open? then live.setBank r.live.other (withoutVehicles ids r.stagingBank)
  else if r.staging = .copying then { live with recorded := r.recorded ++ [.delete ids] }
  else live

/-! ## Losses -/

/-- COACH_LOST set (R71, R74, R59). -/
def Alarms.withLost (a : Alarms) : Alarms := { a with coachLost := true }

/-- An entry leaves the list for the detached set in state LOST: only what a Coach holds is kept (R71). -/
def detach (id : Nat) (s : State) : State :=
  match s.cm.entryOf id with
  | some e =>
    let t := leaveList (fun x => x.coach.id = id) s
    t.setCm { t.cm with detached := t.cm.detached ++ [e.coach] }
  | none => s

/-- An entry is lost at its 32nd miss (R71). -/
def loseEntry (id : Nat) (s : State) : State :=
  let hop := s.cm.hopByte id
  raise .consist 6 id hop (setAlarms Alarms.withLost (detach id s))

/-! ## Splits -/

/-- An identity joins the parting set of a unit whose split is pending (R78, R79, R81), as its last (DESIGN CHOICE, log entry
30). -/
def Cm.joinParting (c : Cm) (unit id : Nat) : Cm :=
  { c with partings := c.partings.map fun p => if p.unit = unit then { p with ids := p.ids ++ [id] } else p }

/-- A unit's DEPARTING entries in the list. -/
def Cm.departing (c : Cm) (unit : Nat) : List Entry :=
  c.list.filter fun e => e.coach.unit = unit && e.state = .departing

/-- The identities in the parting set of a unit. -/
def Cm.partingIds (c : Cm) (unit : Nat) : List Nat :=
  ((c.partings.find? fun p => p.unit = unit).map PartingSet.ids).getD []

/-- R79, steps 1 to 4, with the end of the parting advisory that the removal of the entry may bring (R16, R25). -/
def completeSplit (unit : Nat) (s : State) : State :=
  let gone := (s.cm.detached.filter fun c => c.unit = unit).map (·.id)
  let ids := s.cm.partingIds unit ++ gone
  let s1 := s.setCm { s.cm with detached := s.cm.detached.filter (fun c => c.unit ≠ unit)
                                partings := s.cm.partings.filter fun p => p.unit ≠ unit }
  let s2 := withAdvisory (fun t => t.setJt (t.jt.removePortion unit)) s1
  let s3 := s2.setRs (s2.rs.deleteVehicles ids)
  raise .consist 15 unit (u8 ids.length) s3

/-- R79: complete when the unit's portion entry is PARTING and no DEPARTING entry of it remains in the list. -/
def splitDone (s : State) (unit : Nat) : Bool :=
  ((s.jt.portionOf unit).any fun p => p.state = .parting) && (s.cm.departing unit).isEmpty

/-- The check for completion (R79). -/
def checkSplit (unit : Nat) (s : State) : State := if splitDone s unit then completeSplit unit s else s

/-- A DEPARTING entry is deleted, its identity joining the parting set of its unit; then the split is checked (R78). -/
def deleteDeparting (id unit : Nat) (s : State) : State :=
  let t := leaveList (fun e => e.coach.id = id) s
  checkSplit unit (t.setCm (t.cm.joinParting unit id))

/-- R80 for one unit: its DEPARTING entries become ACTIVE with pair count 0, its portion entry ATTACHED, "split not
completed" is raised, the parting set is discarded, and every valid block of the returned entries is made dirty (R129). -/
def failSplit (unit : Nat) (s : State) : State :=
  let ids := (s.cm.departing unit).map (·.coach.id)
  if ids.isEmpty then s
  else
    let s1 := ids.foldl (fun t id => setEntryState id .active (updateEntry id (fun e => { e with pairCount := 0 }) t)) s
    let s2 := dirtyBlocks (fun e => ids.contains e.coach.id) s1
    let s3 := withAdvisory (fun t => t.setJt (t.jt.setPortionState unit .attached)) s2
    let s4 := s3.setCm { s3.cm with partings := s3.cm.partings.filter fun p => p.unit ≠ unit }
    raise .consist 16 unit (u8 ids.length) s4

/-- The units that have a DEPARTING entry in the list, each once. -/
def Cm.departingUnits (c : Cm) : List Nat :=
  ((c.list.filter fun e => e.state = .departing).map (·.coach.unit)).eraseDups

/-- Every pending split that has a DEPARTING entry still in the list fails (R80). -/
def failSplits (s : State) : State := s.cm.departingUnits.foldl (fun t u => failSplit u t) s

/-! ## Admission -/

/-- What a call answer carries (section 3.3, R168). -/
structure CallAnswer where
  id : Nat
  unit : Nat
  number : Nat
  type : Nat
  orient : Orientation
  deriving DecidableEq, Repr

/-- R67: the coach given is admitted at hop n + 1 with the fields of the call answer. -/
def admitCoach (a : CallAnswer) (missed : Nat) (notices : List Notice) (s : State) : State :=
  let parting := (s.jt.portionOf a.unit).any fun p => p.state = .parting
  let st : EntryState := if parting then .departing else .probation
  let c : Coach := { id := a.id, unit := a.unit, number := a.number, type := a.type, orient := a.orient,
                     missed := missed, unitDiffers := false, notices := notices }
  let e : Entry := { coach := c, state := st, pairCount := 0, evenHeld := false, evenValid := false, oddValid := false,
                     pairHop := .none, evidenceHop := none, evidenceCount := 0, agree := .unitUnassigned,
                     blocks := .admitted s st c, refresh := .map }
  let s1 := s.setCm { s.cm with
    list := s.cm.list ++ [e]
    partings := s.cm.partings.map fun p =>
      if p.unit = a.unit then { p with ids := p.ids.filter fun i => i ≠ a.id } else p }
  checkEntry a.id s1

/-- "unknown type" for an admitted entry whose type code the table does not hold (R67). -/
def reportUnknownType (id type : Nat) (s : State) : State :=
  if (s.cm.typeOf type).isNone then raise .consist 8 id (u8 type) s else s

/-- The units that the entries of the list and the detached set name, each once, leaving out one identity (R65, R66). -/
def Cm.unitsBut (c : Cm) (id : Nat) : List Nat :=
  (((c.list.map (·.coach)) ++ c.detached).filter fun x => x.id ≠ id).map (·.unit) |>.dedup

/-- The unit differs from each that the other entries name, and they already name 4 (R65, R66). -/
def Cm.unitLimit (c : Cm) (id unit : Nat) : Bool :=
  !(c.unitsBut id).contains unit && Config.maxUnits ≤ (c.unitsBut id).length

/-- The survey changed. -/
def setSurvey (f : Survey → Survey) (s : State) : State := s.setCm { s.cm with survey := f s.cm.survey }

/-- A call answer is refused (R64 to R66): the refusal's report is raised and the survey closes with the cause; a watch
call that meets the refusal that closed the survey changes nothing (R62). -/
def refuseCall (watch : Bool) (cause : CloseCause) (code id : Nat) (data : List Byte) (s : State) : State :=
  if watch && s.cm.survey.state = .closed && s.cm.survey.cause = cause then s
  else raise .consist code id data (setSurvey (fun v => { v with state := .closed, cause := cause }) s)

/-- The handling of a call answer did not close the survey: it surveys, with the attempts loaded again (R61, R62). -/
def surveyOn (s : State) : State :=
  setSurvey (fun v => { v with state := .surveying, cause := .none, attempts := v.cfgAttempts }) s

/-- R63 to R67: the call answer of an accepted identity, with the called hop. Of an admission "coach found" or "coach
returned" is raised before "unknown type" (DESIGN CHOICE, log entry 33). -/
def handleCallAnswer (a : CallAnswer) (target : Nat) (watch : Bool) (s : State) : State :=
  match s.cm.hopOf a.id with
  | some hop => refuseCall watch (.hopConfused a.id) 10 a.id (u8 hop ++ u8 target) s
  | none =>
    match s.cm.detached.find? (fun c => c.id = a.id) with
    | some c =>
      if s.cm.unitLimit a.id a.unit then refuseCall watch (.unitLimit a.id) 12 a.id (u16 a.unit) s
      else
        let s1 := s.setCm { s.cm with detached := s.cm.detached.filter fun x => x.id ≠ a.id }
        let s2 := admitCoach a 0 c.notices s1
        let s3 := raise .consist 2 a.id (s2.cm.hopByte a.id ++ u16 a.unit) s2
        surveyOn (reportUnknownType a.id a.type s3)
    | none =>
      if Config.maxEntries ≤ s.cm.list.length + s.cm.detached.length then
        refuseCall watch (.consistFull a.id) 11 a.id [] s
      else if s.cm.unitLimit a.id a.unit then refuseCall watch (.unitLimit a.id) 12 a.id (u16 a.unit) s
      else
        let s2 := admitCoach a 0 [] s
        let s3 := raise .consist 1 a.id (s2.cm.hopByte a.id ++ u16 a.unit) s2
        surveyOn (reportUnknownType a.id a.type s3)

/-- No answer to a call: a survey call costs an attempt, and the last one closes the survey (R61); an unanswered watch
call changes nothing (R62). -/
def callUnanswered (watch : Bool) (s : State) : State :=
  if watch then s
  else
    let s1 := setSurvey (fun v => { v with attempts := v.attempts - 1 }) s
    if s1.cm.survey.attempts = 0 then
      raise .consist 13 0 (u8 (CloseCause.code .attemptsSpent))
        (setSurvey (fun v => { v with state := .closed, cause := .attemptsSpent }) s1)
    else s1

/-! ## The stop of the backbone -/

/-- R59, steps 1 to 4. -/
def stopConsist (s : State) : State :=
  let s1 := failSplits s
  let moved := s1.cm.list.map (·.coach)
  let s2 := leaveList (fun _ => true) s1
  let s3 := s2.setCm { s2.cm with detached := s2.cm.detached ++ moved
                                  survey := { s2.cm.survey with state := .off, attempts := 0, cause := .none } }
  let s4 := if moved.isEmpty then s3 else setAlarms Alarms.withLost s3
  raise .consist 14 0 (u8 moved.length) s4

end Sys2Proof.Machine
end

