-- ==== Sys2Proof/Machine/JourneyOps.lean ====
section
/-! DEFINITION. The shared operations of the Journey Tracker (chapters 1 and 2) and of the Reservation Store at its events
(section 4.5): figures formed and told, the journey notice, legs, departure and arrival. -/

namespace Sys2Proof.Machine

/-- The odometer state changed. -/
def setOdo (f : Odometer → Odometer) (s : State) : State := s.setJt { s.jt with odo := f s.jt.odo }

/-- The home phase changed. -/
def setPhase (p : Phase) (s : State) : State := s.setJt { s.jt with phase := p }

/-! ## Figures -/

/-- The position handed for a unit's coaches. -/
def Jt.handedPos (j : Jt) (unit : Nat) : Option Nat := (j.portionOf unit).bind Portion.pos

/-- pos and the position of every portion formed again (R41, R42), each change marking the MAP blocks of the coaches
concerned (R44). -/
def formPositions (s : State) : State :=
  let j := s.jt
  let t := s.setJt { j with odo := { j.odo with pos := j.homePosition }
                            portions := j.portions.map fun p => { p with pos := j.position p } }
  markBlocks (fun e k => k = .map && j.handedPos e.coach.unit ≠ t.jt.handedPos e.coach.unit) t

/-- The arrival clock of a time of day and an ETA in minutes (R40). -/
def arrivalClock (valid : Bool) (minute etaMin : Nat) : Option Nat :=
  if valid then some ((minute + etaMin) % 1440) else none

/-- eta_min and the arrival clock formed again (R40), a change of either marking the HEADER of the coaches whose portion
has a current index (R44). -/
def formEta (s : State) : State :=
  let o := s.jt.odo
  let m := ceilDiv o.etaS 60
  let k := arrivalClock s.jt.timeValid s.jt.minute m
  let t := setOdo (fun o => { o with etaMin := m, clock := k }) s
  if m = o.etaMin && k = o.clock then t else markHeaders (indexedEntry t) t

/-- The journey notice state set; a change marks the HEADER of every coach whose portion has a current index (R24), and
of those whose parting advisory begins or ends with it (R25). -/
def setNotice (n : JourneyNotice) (s : State) : State :=
  if n = s.jt.notice then s
  else
    let t := withAdvisory (fun t => t.setJt { t.jt with notice := n }) s
    markHeaders (indexedEntry t) t

/-! ## The Reservation Store at a purge and at a switch -/

/-- The purge of R110 with the slot indices given: in the live bank, whose changed seats are marked, in an OPEN or ARMED
staging bank, and recorded while a copy runs (R100). -/
def purgeBanks (indices : List (Nat × Nat)) (s : State) : State :=
  let r := s.rs
  let live := r.liveBank
  let r1 := r.setBank r.live (live.map (Vehicle.purge indices))
  let r2 :=
    if r.staging.open? then r1.setBank r.live.other (r.stagingBank.map (Vehicle.purge indices))
    else if r.staging = .copying then { r1 with recorded := r.recorded ++ [.purge indices] }
    else r1
  markSeatsOf (purgedSeats indices live) (s.setRs r2)

/-- Steps 1 to 3 of R109: the staging bank becomes live, the old live bank is emptied, staging becomes CLOSED. -/
def Rs.switch (r : Rs) : Rs :=
  { r.setBank r.live [] with live := r.live.other, staging := .closed, diverged := false }

/-- A switch (R109): its report, the agreement check for every list entry and the marks of every seat. -/
def switchBanks (code : Nat) (trigger departure : Option Nat) (s : State) : State :=
  let t := s.setRs s.rs.switch
  let u := raise .reservation code 0 (u8 t.rs.live.code ++ index? trigger ++ index? departure) t
  markSeats (fun _ => true) (checkAgreement (fun _ => true) u)

/-- The Reservation Store at a departure event from d: the switch when one is due, then the purge (R109, R110). -/
def departBanks (d : Nat) (s : State) : State :=
  let t :=
    match s.rs.staging.trigger with
    | some i => if i ≤ d then switchBanks (if i = d then 1 else 2) (some i) (some d) s else s
    | none => s
  purgeBanks t.jt.slotIndices t

/-- A departure event from home index d, handed to the Reservation Store, the Consist Manager and the Display Composer
(R21). -/
def departureEvent (d : Nat) (s : State) : State := markPhase (failSplits (departBanks d s))

/-! ## Arrival -/

/-- Notices removed from a stack, those that a test keeps being left in their order (R134). -/
def keepNotices (keep : Coach → Notice → Bool) (c : Coach) : Coach := { c with notices := c.notices.filter (keep c) }

/-- Notices expire in every stack, list and detached; the HEADER of an entry whose chosen notice is removed is marked
(R138 to R140). -/
def expireNotices (keep : Coach → Notice → Bool) (s : State) : State :=
  let hit := (s.cm.list.filter fun e =>
    match chosen s e with
    | .host _ n => !keep e.coach n
    | _ => false).map (·.coach.id)
  let t := s.setCm { s.cm with list := s.cm.list.map (Entry.mapCoach (keepNotices keep))
                               detached := s.cm.detached.map (keepNotices keep) }
  markHeaders (fun e => hit.contains e.coach.id) t

/-- R138: a notice with expiry AT_STOP(i), i at or below the current index of the coach's portion, does not stay. -/
def staysAtArrival (j : Jt) (c : Coach) (n : Notice) : Bool :=
  match n.expiry, j.unitIndex c.unit with
  | .atStop i, some x => !(i ≤ x)
  | _, _ => true

/-- "part-at passed" for each non-home entry whose part-at index is below m (R23). -/
def reportPassed (m : Nat) (s : State) : State :=
  (s.jt.portions.filter fun p => !p.home && p.partAt.any (fun i => i < m)).foldl
    (fun t p => raise .journey 4 p.unit (index? p.partAt ++ u8 m) t) s

/-- An arrival event at home index m (R23). -/
def arrivalEvent (m : Nat) (s : State) : State :=
  reportPassed m (markPhase (expireNotices (staysAtArrival s.jt) s))

/-! ## Calibration -/

/-- L' of R46. -/
def corrected (l leg dist : Nat) : Nat := (2 * l * leg + dist) / (2 * dist)

/-- L' held within lim of L (R47). -/
def limited (l lim l' : Nat) : Nat := if l + lim < l' then l + lim else if l' < l - lim then l - lim else l'

/-- The pulse length clamped to its range (R47). -/
def clampPulse (l : Nat) : Nat := min 60000 (max 1000 l)

/-- Whether the leg just run is used for calibration (R46). -/
def legUsable (c : OdoConfig) (leg dist : Nat) : Bool := c.minLeg ≤ leg && leg ≤ 2 * dist

/-- R46 and R47: the pulse length corrected within its limits, the skip counter 0. -/
def calibrate (leg : Nat) (s : State) : State :=
  let l := s.jt.config.pulseLen
  let lim := l * s.jt.config.correction / 1000
  let l' := corrected l leg s.jt.odo.dist
  let value := limited l lim l'
  let t := s.setJt { s.jt with config := { s.jt.config with pulseLen := clampPulse value }
                               odo := { s.jt.odo with skips := 0 } }
  if value = l' then t else raise .calibration 1 0 (u32 l' ++ u32 value) t

/-- "correction stale" and CALIBRATION_STALE (R48, R30). -/
def goStale (s : State) : State :=
  raise .calibration 2 0 (u8 s.jt.odo.skips) (setAlarms (fun a => { a with stale := true }) s)

/-- R48: the skip counter grows, saturating at the skip limit; the step that reaches the limit goes stale. -/
def skip (s : State) : State :=
  let limit := s.jt.config.skipLimit
  if s.jt.odo.skips < limit then
    let t := setOdo (fun o => { o with skips := o.skips + 1 }) s
    if t.jt.odo.skips = limit then goStale t else t
  else s

/-- The end of a leg (R46, R48): an untainted arrival at the next stop whose leg is usable calibrates, any other skips. -/
def endLeg (atNext : Bool) (s : State) : State :=
  if atNext && !s.jt.odo.tainted && legUsable s.jt.config s.jt.legEff s.jt.odo.dist then calibrate s.jt.legEff s
  else skip s

/-- The odometer state at the start or end of a leg (R45), with ETA_HELD as given. -/
def Odometer.newLeg (held : Bool) (o : Odometer) : Odometer :=
  { o with dist := 0, rem := 0, etaS := 0, etaHeld := held, tainted := false }

/-- The figures after an event of R45: pos and the portion positions take the phase's value at once, eta_min and the
arrival clock are formed again, and R44 is applied. -/
def formFigures (s : State) : State := formEta (formPositions s)

end Sys2Proof.Machine
end

