-- ==== Sys2Proof/Machine/Routes.lean ====
section
/-! DEFINITION. What the owning block does with each request of sections 1.1 to 1.3 and 1.6: routes, cancelled stops, the
portion table, direction and time. Each answers the result and the data of the reply (R204). -/

namespace Sys2Proof.Machine

/-- What the owning block hands back (R202): its result now, with the reply data, or later. -/
inductive Answer where
  | now (s : State) (r : ResultCode) (data : List Byte)
  | later (s : State)
  deriving DecidableEq, Repr

/-- The state an answer leaves. -/
def Answer.state : Answer → State
  | .now s _ _ => s
  | .later s => s

/-- DONE with its data. -/
def done (s : State) (data : List Byte) : Answer := .now s .done data

/-- A refusal: the state as it was, a result code and its data (R204). -/
def refuse (s : State) (r : ResultCode) (data : List Byte := []) : Answer := .now s r data

/-- A route slot changed. -/
def setSlot (n : Nat) (v : RouteSlot) (s : State) : State := s.setJt { s.jt with slots := s.jt.slots.set n v }

/-! ## Loading a route -/

/-- OPEN ROUTE (R3). -/
def doOpenRoute (slot code : Nat) (dest : Text) (s : State) : Answer :=
  if 3 < slot || !textIn 1 24 dest then refuse s .badField
  else
    match (s.jt.slots.get slot).state with
    | .edit => refuse s .wrongState
    | .inUse => refuse s .inUse
    | _ => done (setSlot slot { state := .edit, code := code, dest := dest, stops := [] } s) []

/-- A stop record taken by APPEND STOPS, the cancelled mark clear (R2); none when a field is outside its encoding (R4
check 2). -/
def takenStop (f : StopFields) : Option Stop :=
  match Side.ofCode f.side with
  | some side =>
    if textIn 1 20 f.name && f.column ≤ 1023 then
      some { code := f.code, name := f.name, leg := f.leg, side := side, approach := f.approach,
             announce := f.announce, column := f.column, cancelled := false }
    else none
  | none => none

/-- The state checks that APPEND STOPS and CLOSE ROUTE make first (R4, R5). -/
def editCheck (slot : Nat) (s : State) : Option ResultCode :=
  if 3 < slot then some .badField
  else
    match (s.jt.slots.get slot).state with
    | .empty => some .notFound
    | .ready => some .wrongState
    | .inUse => some .wrongState
    | .edit => none

/-- APPEND STOPS (R4). -/
def doAppendStops (slot : Nat) (stops : List StopFields) (s : State) : Answer :=
  match editCheck slot s with
  | some r => refuse s r
  | none =>
    if stops = [] || 6 < stops.length then refuse s .badField
    else
      match stops.findIdx? fun f => (takenStop f).isNone with
      | some i => refuse s .badField (u8 i)
      | none =>
        let r := s.jt.slots.get slot
        let all := r.stops ++ stops.filterMap takenStop
        if Config.maxStops < all.length then refuse s .noSpace
        else done (setSlot slot { r with stops := all } s) (u8 all.length)

/-- The checks of CLOSE ROUTE at index i; the number of the first that fails (R5). -/
def stopFault (stops : List Stop) (i : Nat) (p : Stop) : Option Nat :=
  if !(if i = 0 then p.leg = 0 else 100 ≤ p.leg && p.leg ≤ 250000) then some 1
  else if 20000 < p.approach || 5000 < p.announce then some 2
  else if p.approach ≠ 0 && p.announce ≠ 0 && p.approach < p.announce then some 3
  else if 0 < i && p.column ≤ columnOf stops (i - 1) then some 4
  else if (stops.take i).any fun q => q.code = p.code then some 5
  else none

/-- The bad index and the number of the failed check (R5). -/
def routeFault (stops : List Stop) : Option (Nat × Nat) :=
  if stops.length < 2 then some (stops.length, 0)
  else stops.zipIdx.findSome? fun x => (stopFault stops x.2 x.1).map fun n => (x.2, n)

/-- CLOSE ROUTE (R5). -/
def doCloseRoute (slot : Nat) (s : State) : Answer :=
  match editCheck slot s with
  | some r => refuse s r
  | none =>
    let r := s.jt.slots.get slot
    match routeFault r.stops with
    | some (i, n) => refuse s .badField (u8 i ++ u8 n)
    | none => done (setSlot slot { r with state := .ready } s) (u8 r.stops.length)

/-- DROP ROUTE (R6). -/
def doDropRoute (slot : Nat) (s : State) : Answer :=
  if 3 < slot then refuse s .badField
  else
    match (s.jt.slots.get slot).state with
    | .empty => refuse s .notFound
    | .inUse => refuse s .inUse
    | _ => done (setSlot slot .absent s) []

/-- A stop record of the READ ROUTE reply (R227). -/
def Stop.bytes (p : Stop) : List Byte :=
  u16 p.code ++ text p.name ++ u32 p.leg ++ u8 p.side.code ++ u16 p.approach ++ u16 p.announce ++ u16 p.column
    ++ flag p.cancelled

/-- READ ROUTE (R7). -/
def doReadRoute (slot first count : Nat) (s : State) : Answer :=
  if 3 < slot || count = 0 || 6 < count then refuse s .badField
  else
    let r := s.jt.slots.get slot
    if r.state = .empty then refuse s .notFound
    else if r.stops.length ≤ first && !(r.state = .edit && r.stops = [] && first = 0) then refuse s .outOfRange
    else done s (u8 r.state.code ++ u16 r.code ++ text r.dest ++ u8 r.stops.length
                  ++ counted Stop.bytes ((r.stops.drop first).take count))

/-! ## Cancelled stops -/

/-- Whether a slot is the home route's slot. -/
def Jt.isHomeSlot (j : Jt) (slot : Nat) : Bool := j.home.any fun p => p.slot = slot

/-- Checks 1 to 3 of R9. -/
def markChecks (slot index : Nat) (s : State) : Option ResultCode :=
  let r := s.jt.slots.get slot
  if 3 < slot then some .badField
  else if r.state = .empty then some .notFound
  else if r.state = .edit then some .wrongState
  else if r.stops.length ≤ index then some .outOfRange
  else if s.jt.portions.any fun p => p.slot = slot && (s.jt.currentIndex p).any (fun x => index ≤ x) then
    some .outOfRange
  else none

/-- Check 6 of R9: on a slot that is not the home slot, the index lies inside an entry's common span. -/
def insideSpan (slot index : Nat) (s : State) : Bool :=
  !s.jt.isHomeSlot slot
    && s.jt.portions.any fun p => p.slot = slot && (p.toHome index).any (fun i => s.jt.inSpan p i)

/-- Whether the mark of a stop is set. -/
def markOf (stops : List Stop) (index : Nat) : Bool := (stops[index]?.map Stop.cancelled).getD false

/-- The routes a mark at an index of a slot changes, with the index in each: the slot itself and, on the home slot, the
slots of the entries whose common span contains it (R10). -/
def markedRoutes (slot index : Nat) (s : State) : List (Nat × Nat) :=
  (slot, index) ::
    (if s.jt.isHomeSlot slot then
      ((s.jt.portions.filter fun p => !p.home && p.slot ≠ slot && s.jt.inSpan p index).map fun p =>
        (p.slot, p.own index)).eraseDups
     else [])

/-- A stop's mark changed. -/
def RouteSlot.setMark (r : RouteSlot) (index : Nat) (v : Bool) : RouteSlot :=
  { r with stops := r.stops.modify index fun p => { p with cancelled := v } }

/-- The blocks of the coaches of a slot that a cancel or restore at an index marks (R12, R127). -/
def markRoute (slot index : Nat) (s : State) : State :=
  markBlocks (fun e k =>
    (s.jt.portionOf e.coach.unit).any (fun p => p.slot = slot)
      && (k = .header || k = .map || k.isSeat || k = .names (index / 8))) s

/-- The marks of the routes given changed, with what the running journey does then (R10, R12). -/
def changeMarks (routes : List (Nat × Nat)) (v : Bool) (s : State) : State :=
  let t := s.setJt { s.jt with
    slots := routes.foldl (fun q x => q.set x.1 ((q.get x.1).setMark x.2 v)) s.jt.slots }
  let u := routes.foldl (fun w x => markRoute x.1 x.2 w) t
  match s.jt.next with
  | some n =>
    if t.jt.next ≠ some n && (s.jt.notice = .approaching n || s.jt.notice = .arriving n) then setNotice .none u else u
  | none => u

/-- CANCEL STOP (R9, R10, R12). -/
def doCancelStop (slot index : Nat) (s : State) : Answer :=
  match markChecks slot index s with
  | some r => refuse s r
  | none =>
    let stops := (s.jt.slots.get slot).stops
    if index + 1 = stops.length || markOf stops index then refuse s .wrongState
    else if s.jt.isHomeSlot slot && s.jt.partsAt index then refuse s .wrongState
    else if insideSpan slot index s then refuse s .wrongState
    else
      let routes := markedRoutes slot index s
      done (changeMarks routes true s) (u8 routes.length)

/-- RESTORE STOP (R11, R12). -/
def doRestoreStop (slot index : Nat) (s : State) : Answer :=
  match markChecks slot index s with
  | some r => refuse s r
  | none =>
    if !markOf (s.jt.slots.get slot).stops index then refuse s .wrongState
    else if insideSpan slot index s then refuse s .wrongState
    else
      let routes := markedRoutes slot index s
      done (changeMarks routes false s) (u8 routes.length)

/-! ## The portion table -/

/-- A part-at value: a home index, or 0xFF for NONE (R224). -/
def partAtOf (v : Nat) : Option Nat := if v = 0xFF then none else some v

/-- R111: the records of the slot an assignment named are purged at its slot index, and the agreement check is made afresh
for the coaches of the unit. -/
def assignPurge (unit slot : Nat) (s : State) : State :=
  let t := purgeBanks (((s.jt.slotIndex slot).map fun x => (slot, x)).toList) s
  checkAgreement (fun e => e.coach.unit = unit) t

/-- Valid kinds evaluated and every valid block marked, for the entries chosen (R127). -/
def reviseAll (pick : Entry → Bool) (s : State) : State :=
  markBlocks (fun e _ => pick e) (evaluateKinds pick s)

/-- ASSIGN UNIT with the HOME flag set (R14, R45, R111). -/
def doAssignUnitHome (unit slot index partAt : Nat) (s : State) : Answer :=
  let r := s.jt.slots.get slot
  if s.jt.phase ≠ .noJourney then refuse s .wrongState
  else if unit = 0 || 3 < slot || partAtOf partAt ≠ none then refuse s .badField
  else if r.state = .empty then refuse s .notFound
  else if r.state ≠ .ready then refuse s .wrongState
  else if r.stops.length - 1 ≤ index then refuse s .outOfRange
  else if markOf r.stops index then refuse s .wrongState
  else
    let p : Portion := { unit := unit, slot := slot, delta := 0, partAt := none, state := .attached, home := true,
                         assignedAt := index, pos := none }
    let j := { s.jt with
      slots := s.jt.slots.set slot { r with state := .inUse }
      portions := s.jt.portions ++ [p]
      phase := .atStop index
      odo := s.jt.odo.newLeg false }
    let t := setNotice (.atPlatform index) (s.setJt j)
    let u := reviseAll (fun e => e.coach.unit = unit) (formFigures t)
    done (assignPurge unit slot u) []

/-- Check 8 of R15: the own route carries the codes and marks of the home route from c to e. -/
def alignedRoutes (home own : List Stop) (j c e : Nat) : Bool :=
  j + e - c < own.length
    && (List.range (e + 1 - c)).all fun i =>
      match home[c + i]?, own[j + i]? with
      | some a, some b => a.code = b.code && a.cancelled = b.cancelled
      | _, _ => false

/-- Whether any record of a unit, in either bank, holds a segment (R15 check 10, R88). -/
def unitHoldsSegment (unit : Nat) (s : State) : Bool :=
  let ids := ((s.cm.list.map (·.coach) ++ s.cm.detached).filter fun c => c.unit = unit).map (·.id)
  (s.rs.bank0 ++ s.rs.bank1).any fun v => ids.contains v.id && 0 < v.count

/-- The checks of ASSIGN UNIT without HOME, in order (R15). -/
def assignCheck (unit slot index partAt : Nat) (c : Nat) (s : State) : Option ResultCode :=
  let j := s.jt
  let r := j.slots.get slot
  let old := j.portionOf unit
  let e := (partAtOf partAt).getD j.homeLast
  if unit = 0 || 3 < slot then some .badField
  else if old.any fun p => p.home || p.state = .parting then some .wrongState
  else if r.state = .empty then some .notFound
  else if r.state = .edit then some .wrongState
  else if old.isNone && Config.maxPortions ≤ j.portions.length then some .noSpace
  else if r.stops.length ≤ index || e < c || j.homeLast < e then some .outOfRange
  else if partAtOf partAt ≠ none && markOf j.homeStops e then some .wrongState
  else if !alignedRoutes j.homeStops r.stops index c e then some .routeMismatch
  else if j.portions.any fun p => p.unit ≠ unit && p.slot = slot && p.delta ≠ Int.ofNat index - Int.ofNat c then
    some .routeMismatch
  else if old.any (fun p => p.slot ≠ slot) && unitHoldsSegment unit s then some .inUse
  else none

/-- An entry placed in the portion table: in the place of the unit's entry if there is one, otherwise at the end. -/
def Jt.putPortion (j : Jt) (p : Portion) : Jt :=
  if j.assigned p.unit then { j with portions := j.portions.map fun q => if q.unit = p.unit then p else q }
  else { j with portions := j.portions ++ [p] }

/-- The position of the portion of a unit formed, as at a phase change (R42, log entry 16). -/
def Jt.formPosition (j : Jt) (unit : Nat) : Jt :=
  { j with portions := j.portions.map fun q => if q.unit = unit then { q with pos := j.position q } else q }

/-- ASSIGN UNIT with the HOME flag clear (R15, R111). -/
def doAssignUnit (unit slot index partAt : Nat) (s : State) : Answer :=
  match s.jt.phase with
  | .atStop c =>
    match assignCheck unit slot index partAt c s with
    | some r => refuse s r
    | none =>
      let old := (s.jt.portionOf unit).map Portion.slot
      let delta := Int.ofNat index - Int.ofNat c
      let p : Portion := { unit := unit, slot := slot, delta := delta, partAt := partAtOf partAt, state := .attached,
                           home := false, assignedAt := c, pos := none }
      let take (t : State) : State :=
        let j1 := (t.jt.putPortion p).formPosition unit
        let j2 := { j1 with slots := j1.slots.set slot { j1.slots.get slot with state := .inUse } }
        t.setJt (match old with
          | some o => j2.releaseSlot o
          | none => j2)
      let t := withAdvisory take s
      let concerned (e : Entry) : Bool :=
        e.coach.unit = unit
          || (old.any (fun o => o ≠ slot) && (t.jt.portionOf e.coach.unit).any fun q => old = some q.slot)
      done (assignPurge unit slot (reviseAll concerned t)) (i8 delta)
  | _ => refuse s .wrongState

/-- END JOURNEY (R17, R45, R117). ETA_HELD is cleared, as the table of R45 has it beside R51 (DESIGN CHOICE, log entry
29). -/
def doEndJourney (s : State) : Answer :=
  if s.jt.phase = .noJourney || s.jt.portions.any (fun p => p.state = .parting) then refuse s .wrongState
  else
    let ready (r : RouteSlot) : RouteSlot := if r.state = .inUse then { r with state := .ready } else r
    let end_ (t : State) : State :=
      t.setJt { t.jt with
        slots := t.jt.slots.mapNumbered fun _ => ready
        portions := []
        phase := .noJourney
        notice := .none
        odo := t.jt.odo.newLeg false }
    let t := formFigures (end_ s)
    let left := (t.cm.list.filter fun e => e.agree = .agreeing).map (·.coach.id)
    let u := t.setCm { t.cm with list := t.cm.list.map fun e => { e with agree := .unitUnassigned } }
    done (reviseAll (fun _ => true) (markSeats (fun e => left.contains e.coach.id) u)) []

/-! ## Direction and time -/

/-- SET DIRECTION (R27). -/
def doSetDirection (direction : Nat) (s : State) : Answer :=
  match Direction.ofCode direction with
  | none => refuse s .badField
  | some d =>
    match s.jt.phase with
    | .running _ => refuse s .wrongState
    | _ =>
      if d = s.jt.direction then done s []
      else done (markBlocks (fun _ k => k = .header || k = .map) (s.setJt { s.jt with direction := d })) []

/-- SET TIME (R28, R40). -/
def doSetTime (minute : Nat) (s : State) : Answer :=
  if 1439 < minute then refuse s .badField
  else done (formEta (s.setJt { s.jt with minute := minute, timeValid := true })) []

end Sys2Proof.Machine
end

