-- ==== Sys2Proof/Machine/Stops.lean ====
section
/-! DEFINITION. The stop events DEPARTED and ARRIVED (section 1.4) and the requests and events of chapter 2: the odometer
configuration, the odometer window, position fixes, the minute timer, READ JOURNEY. -/

namespace Sys2Proof.Machine

/-! ## Stop events -/

/-- DEPARTED (R19, R45): in AT_STOP the departure is taken; in RUNNING the reply says already running. -/
def doDeparted (s : State) : Answer :=
  match s.jt.phase with
  | .atStop c =>
    let t := setOdo (Odometer.newLeg true) (setPhase (.running c) s)
    let u := formFigures (setNotice .none t)
    done (departureEvent c u) (flag false)
  | .running _ => done s (flag true)
  | _ => refuse s .wrongState

/-- The index of the stop ARRIVED names: above c, not cancelled, with the code (R22). -/
def arrivalStop (stops : List Stop) (c code : Nat) : Option Nat :=
  (stops.zipIdx.find? fun x => c < x.2 && !x.1.cancelled && x.1.code = code).map fun x => x.2

/-- The stops that are not cancelled above c and below m (R22). -/
def skippedStops (stops : List Stop) (c m : Nat) : Nat :=
  (stops.zipIdx.filter fun x => c < x.2 && x.2 < m && !x.1.cancelled).length

/-- ARRIVED (R22, R23, R45, R46 to R48). -/
def doArrived (code : Nat) (s : State) : Answer :=
  match s.jt.phase with
  | .running c =>
    let stops := s.jt.homeStops
    match arrivalStop stops c code with
    | none => refuse s .notFound
    | some m =>
      let atNext : Bool := s.jt.next = some m
      let n := if atNext then 0 else skippedStops stops c m
      let s1 := setOdo (Odometer.newLeg false) (endLeg atNext s)
      let s2 := setPhase (if m = s.jt.homeLast then .terminated m else .atStop m) s1
      let s3 := formFigures (setNotice (.atPlatform m) s2)
      let s4 := if atNext then s3 else raise .journey 2 0 (u8 m ++ u8 n) s3
      done (arrivalEvent m s4) (u8 m ++ u8 n)
  | _ => refuse s .wrongState

/-! ## Odometer configuration -/

/-- The position, 1 to 8, of the first parameter outside its range (R29, R30). -/
def configFault (p : OdoConfig) : Option Nat :=
  let inRange (lo hi v : Nat) : Bool := lo ≤ v && v ≤ hi
  if !inRange 1000 60000 p.pulseLen then some 1
  else if !inRange 1 6 p.shift then some 2
  else if !inRange 100 5000 p.vmin then some 3
  else if !inRange 20 500 p.creep then some 4
  else if !inRange 1 50 p.correction then some 5
  else if !inRange 10 5000 p.offset then some 6
  else if !inRange 500 50000 p.minLeg then some 7
  else if !inRange 1 15 p.skipLimit then some 8
  else none

/-- CONFIGURE ODOMETER (R30). -/
def doConfigureOdometer (p : OdoConfig) (s : State) : Answer :=
  match configFault p with
  | some i => refuse s .badField (u8 i)
  | none =>
    let old := s.jt.config
    let skips := s.jt.odo.skips
    let t := s.setJt { s.jt with config := p }
    if p.pulseLen ≠ old.pulseLen then done (setOdo (fun o => { o with skips := 0 }) t) []
    else if p.skipLimit ≤ skips then
      let u := setOdo (fun o => { o with skips := p.skipLimit }) t
      if skips < old.skipLimit then done (goStale u) [] else done u []
    else done t []

/-! ## The odometer window -/

/-- Step 1 of R33: distance (R34, R35), with the flags of R32 and R35 and the report "saturation" (R52). -/
def windowDistance (p : Nat) (s : State) : State :=
  let o := s.jt.odo
  let pulseSat := 4095 ≤ p
  let moving : Bool :=
    match s.jt.phase with
    | .atStop _ => true
    | .running _ => true
    | _ => false
  let total := o.rem + p * s.jt.config.pulseLen
  let metres := total / 1000000
  let full : Bool := moving && decide (Config.maxDist < o.dist + metres)
  let dist := if !moving then o.dist else if full then Config.maxDist else o.dist + metres
  let rem := if !moving then o.rem else if full then 0 else total % 1000000
  let t := setOdo (fun o => { o with dist := dist, rem := rem, pulses := 0
                                     pulseSat := o.pulseSat || pulseSat, distSat := o.distSat || full }) s
  let newPulse : Bool := pulseSat && !o.pulseSat
  let newDist : Bool := full && !o.distSat
  if newPulse || newDist then raise .journey 5 0 (u8 (bitSet [newPulse, newDist])) t else t

/-- The speed sample (R36). -/
def speedSample (p l : Nat) : Nat := min 125000 (p * l / 100)

/-- One step of the speed filter (R37). -/
def filterStep (k v sample : Nat) : Nat :=
  if v ≤ sample then
    if sample - v < 2 ^ k then sample else v + (sample - v) / 2 ^ k
  else if v - sample < 2 ^ k then sample
  else v - (v - sample) / 2 ^ k

/-- Step 2 of R33: the speed. -/
def windowSpeed (p : Nat) (s : State) : State :=
  setOdo (fun o => { o with speed := filterStep s.jt.config.shift o.speed (speedSample p s.jt.config.pulseLen) }) s

/-- Step 3 of R33: an implied departure (R20, R45), the distance kept. -/
def windowDeparture (s : State) : State :=
  match s.jt.phase with
  | .atStop c =>
    if s.jt.config.creep < s.jt.odo.dist then
      let t := setOdo (fun o => { o with etaS := 0, etaHeld := true, tainted := false }) (setPhase (.running c) s)
      let u := formEta (setNotice .none t)
      raise .journey 1 0 (u8 c) (departureEvent c u)
    else s
  | _ => s

/-- The ETA in seconds from R and v (R39). -/
def etaOf (r v : Nat) : Nat := min 5999 (ceilDiv (r * 1000) v)

/-- Steps 4 and 5 of R33: R, and the ETA from it (R38, R39). -/
def evaluateEta (j : Jt) : Odometer :=
  let o := j.odo
  let running : Bool :=
    match j.phase with
    | .running _ => true
    | _ => false
  if !running || j.remaining = 0 then { o with etaS := 0, etaHeld := false }
  else if j.config.vmin ≤ o.speed then { o with etaS := etaOf j.remaining o.speed, etaHeld := false }
  else { o with etaHeld := true }

/-- The journey notice state after its evaluation against R (R24). -/
def evaluateNotice (j : Jt) : JourneyNotice :=
  match j.next with
  | none => j.notice
  | some n =>
    match j.homeStops[n]? with
    | none => j.notice
    | some p =>
      if p.announce ≠ 0 && j.remaining ≤ p.announce && j.notice ≠ .arriving n then .arriving n
      else if p.approach ≠ 0 && j.remaining ≤ p.approach && j.notice = .none then .approaching n
      else j.notice

/-- Step 6 of R33: a change raises the report "notice" (R24). -/
def windowNotice (s : State) : State :=
  let n := evaluateNotice s.jt
  if n = s.jt.notice then s
  else raise .journey 3 0 (u8 n.code ++ index? n.stop) (setNotice n s)

/-- The expiry of an odometer window (R33). -/
def windowExpiry (s : State) : State :=
  let p := s.jt.odo.pulses
  let s3 := windowDeparture (windowSpeed p (windowDistance p s))
  let s5 := formEta (s3.setJt { s3.jt with odo := evaluateEta s3.jt })
  formPositions (windowNotice s5)

/-- A pulse at the ODO pin (R32). -/
def pulse (s : State) : State := setOdo (fun o => { o with pulses := min 4095 (o.pulses + 1) }) s

/-- The minute timer runs out (R28, R40). -/
def minuteTick (s : State) : State := formEta (s.setJt { s.jt with minute := (s.jt.minute + 1) % 1440 })

/-! ## Position fixes and reading -/

/-- The new D of a position fix, and whether it was limited (R49). -/
def fixDistance (dist x limit : Nat) : Nat × Bool :=
  let x := min Config.maxDist x
  if dist ≤ x then if x - dist ≤ limit then (x, false) else (dist + limit, true)
  else if dist - x ≤ limit then (x, false)
  else (dist - limit, true)

/-- POSITION FIX (R49). -/
def doPositionFix (x : Nat) (s : State) : Answer :=
  match s.jt.phase with
  | .running _ =>
    let f := fixDistance s.jt.odo.dist x s.jt.config.offset
    let t := setOdo (fun o => { o with dist := f.1, rem := 0, tainted := true, fixLimited := o.fixLimited || f.2 }) s
    done (formPositions t) (u32 f.1 ++ flag f.2)
  | _ => refuse s .wrongState

/-- A portion table entry in the READ JOURNEY reply (R50). -/
def portionBytes (j : Jt) (p : Portion) : List Byte :=
  u16 p.unit ++ u8 p.slot ++ i8 p.delta ++ index? p.partAt ++ u8 p.state.code ++ flag p.home ++ u8 p.assignedAt
    ++ index? (j.currentIndex p)

/-- The odometer configuration in the order of R29 (R224). -/
def configBytes (c : OdoConfig) : List Byte :=
  u32 c.pulseLen ++ u8 c.shift ++ u32 c.vmin ++ u32 c.creep ++ u8 c.correction ++ u32 c.offset ++ u32 c.minLeg
    ++ u8 c.skipLimit

/-- READ JOURNEY (R50); the sticky flags it carries as set are cleared (R51). The bytes of the next stop and of the notice's
stop are always carried, 0xFF where there is none (DESIGN CHOICE, log entry 38). -/
def doReadJourney (s : State) : Answer :=
  let j := s.jt
  let o := j.odo
  done (setOdo (fun o => { o with pulseSat := false, distSat := false, fixLimited := false }) s)
    (u8 j.phase.code ++ index? j.phase.index ++ index? j.next ++ u8 j.notice.code ++ index? j.notice.stop
      ++ u8 j.direction.code ++ u16 j.minute ++ flag j.timeValid
      ++ u32 o.dist ++ u32 o.rem ++ u32 o.speed ++ u16 o.etaS ++ u8 o.etaMin ++ wide? o.clock ++ u16 o.pos
      ++ flag o.tainted ++ u8 o.skips ++ configBytes j.config ++ u8 o.statusSet
      ++ counted (portionBytes j) j.portions)

end Sys2Proof.Machine
end

