-- ==== Sys2Proof/Machine/Receiver.lean ====
section
/-! DEFINITION. The controller's backbone receivers (R150), what they take in a listening period, and the classification
of it (R162, R163, R169), with the fields of the frames coach nodes send (R228). -/

namespace Sys2Proof.Machine

/-- The largest payload a frame carries (R148). -/
def maxPayload : Nat := 208

/-- A body of a length begins: BODY, or TRAILER when the length is 0 (R150). -/
def BackboneRx.bodyOf (kind len : Byte) : BackboneRx := if len = 0 then .trailer kind len [] [] else .body kind len []

/-- A data byte received (R150): the next state, and how the frame in progress ended if it ended. -/
def BackboneRx.data (b : Byte) : BackboneRx → BackboneRx × Option Reception
  | .hunt => (.hunt, none)
  | .header none => (.header (some b), none)
  | .header (some k) => if maxPayload < b.toNat then (.hunt, some .malformed) else (.bodyOf k b, none)
  | .body k l p =>
    let q := p ++ [b]
    if q.length < l.toNat then (.body k l q, none) else (.trailer k l q [], none)
  | .trailer k l p c => if c.length < 2 then (.trailer k l p (c ++ [b]), none) else (.hunt, some .malformed)

/-- The end marker received (R150): a frame with both CRC bytes is complete, its CRC over kind, length and payload found
good or bad (R149). -/
def BackboneRx.stop : BackboneRx → BackboneRx × Option Reception
  | .hunt => (.hunt, none)
  | .trailer k l p [hi, lo] => (.hunt, some (.complete k p (crc16 (k :: l :: p) = wordOf hi lo)))
  | _ => (.hunt, some .malformed)

/-- Whether a frame is in progress. -/
def BackboneRx.busy : BackboneRx → Bool
  | .hunt => false
  | _ => true

/-- A symbol received (R150). -/
def BackboneRx.take (rx : BackboneRx) : Symbol → BackboneRx × Option Reception
  | .start => (.header none, if rx.busy then some .malformed else none)
  | .stop => rx.stop
  | .abort => (.hunt, if rx.busy then some .aborted else none)
  | .data b => rx.data b
  | .violation => (rx, none)

/-- A symbol taken in a listening period (R163), beginning at a moment of the segment, with what the receiver reported. -/
def Takings.take (g : Takings) (t : Nat) (sym : Symbol) (ended : Option Reception) : Takings :=
  let g1 := if g.starts = 1 && g.frame.isNone then { g with frame := ended } else g
  match sym with
  | .start => { g1 with starts := g1.starts + 1, startAt := if g1.starts = 0 then t else g1.startAt }
  | .violation => { g1 with violation := true }
  | _ => g1

/-- A run of symbols on a line, the first beginning at a moment of the segment, each lasting 4 microseconds (R147): the
receiver takes those that end within the segment; those that begin once the listening period has begun count. -/
def receive (listen : Option Nat) (segmentEnd : Nat) : Nat → List Symbol → BackboneRx × Takings → BackboneRx × Takings
  | _, [], x => x
  | t, sym :: rest, (rx, g) =>
    if t + 4 ≤ segmentEnd then
      let y := rx.take sym
      receive listen segmentEnd (t + 4) rest (y.1, if listen.any (· ≤ t) then g.take t sym y.2 else g)
    else (rx, g)

/-- The result of a line from its takings (R163): the answer window, and the kind and payload length of an answer. -/
def Takings.classify (g : Takings) (opens closes kind len : Nat) : LineResult :=
  if 2 ≤ g.starts || g.violation then .clash
  else if g.starts = 0 then .none
  else if g.startAt < opens || closes < g.startAt then .late
  else
    match g.frame with
    | none => .late
    | some (.complete k p true) => if k.toNat = kind && p.length = len then .valid else .crcError
    | some _ => .crcError

/-- The payload of a line whose result is VALID. -/
def Takings.payload (g : Takings) : List Byte :=
  match g.frame with
  | some (.complete _ p _) => p
  | _ => []

/-- A byte of a payload. -/
def byteAt (p : List Byte) (i : Nat) : Nat := ((p[i]?).getD 0).toNat

/-- An unsigned field of two bytes of a payload (R224). -/
def field16 (p : List Byte) (i : Nat) : Nat := 256 * byteAt p i + byteAt p (i + 1)

/-- An unsigned field of four bytes of a payload (R224). -/
def field32 (p : List Byte) (i : Nat) : Nat := 65536 * field16 p i + field16 p (i + 2)

/-- The orientation a node end gives: any byte but 0 is end B (R228, R76). -/
def orientOf (b : Nat) : Orientation := if b = 0 then .forward else .reversed

/-- The fields of an ANSWER frame (R160, R228). -/
structure NodeAnswer where
  id : Nat
  hop : Nat
  orient : Orientation
  type : Nat
  unit : Nat
  number : Nat
  restarted : Bool
  echoKind : Nat
  echoGen : Nat
  echoCheck : Nat
  faults : Nat
  deriving DecidableEq, Repr

/-- An ANSWER payload read (R228); of the flags byte only RESTARTED, bit 0, is read. -/
def nodeAnswer (p : List Byte) : NodeAnswer :=
  { id := field32 p 0, hop := byteAt p 4, orient := orientOf (byteAt p 5), type := byteAt p 6, unit := field16 p 7,
    number := field16 p 9, restarted := hasBit (byteAt p 11) 0, echoKind := byteAt p 12, echoGen := byteAt p 13,
    echoCheck := field16 p 14, faults := byteAt p 16 }

/-- A CALL_ANSWER payload read (R168, R228). -/
def callAnswer (p : List Byte) : CallAnswer :=
  { id := field32 p 0, unit := field16 p 7, number := field16 p 9, type := byteAt p 6, orient := orientOf (byteAt p 5) }

/-- The moment listening begins in the segment in progress: when the CONTENT frame of a slot, or the CALL frame (8 symbols,
32 microseconds), has ended (R162, R169); never in a silent slot, a quiet call window or any other segment. -/
def Bc.listenAt (b : Bc) : Option Nat :=
  match b.segment with
  | .slot _ =>
    match b.frame with
    | some f => if f.state = .sending then none else some f.endAt
    | none => none
  | .call => b.call.map fun _ => 32
  | _ => none

/-- Whether the receivers run: not while OFF, nor in the beacon segment (R151, R154, log entry 26). -/
def Bc.receiving (b : Bc) : Bool :=
  match b.segment with
  | .none => false | .beacon => false | .beaconSent => false
  | .slot _ => true | .slotDone _ => true | .call => true | .callDone => true | .gap => true

/-- Symbols arrive on a line, the first beginning at a moment of the segment in progress (R147, R150, log entry 11). Time
runs on to the end of the last. -/
def takeSymbols (line : Line) (t : Nat) (symbols : List Symbol) (s : State) : State :=
  if s.bc.receiving then
    let u := runTo (t + 4 * symbols.length) s
    let b := u.bc
    match line with
    | .a =>
      let x := receive b.listenAt b.segment.length t symbols (b.rxA, b.gotA)
      u.setBc { b with rxA := x.1, gotA := x.2 }
    | .b =>
      let x := receive b.listenAt b.segment.length t symbols (b.rxB, b.gotB)
      u.setBc { b with rxB := x.1, gotB := x.2 }
  else s

/-- A new segment begins: its time is 0 and nothing has been taken in it. -/
def Bc.enter (b : Bc) (segment : CycleSegment) : Bc :=
  { b with segment := segment, clock := 0, frame := none, call := none, gotA := .nothing, gotB := .nothing }

end Sys2Proof.Machine
end

