-- ==== Sys2Proof/Machine/Supervision.lean ====
section
/-! DEFINITION. Line and node supervision at its events (chapter 7): line flags, observations, run counts, line states and
the node status tables. -/

namespace Sys2Proof.Machine

/-- Supervision's part of one line changed. -/
def Sup.mapLine (u : Sup) (line : Line) (f : LineSup → LineSup) : Sup :=
  match line with
  | .a => { u with a := f u.a }
  | .b => { u with b := f u.b }

/-- The flags a handed result sets on its line; ok says that the answer is valid for its slot, or the call answer valid
(R177). -/
def LineFlags.after (f : LineFlags) (r : LineResult) (ok : Bool) : LineFlags :=
  match r with
  | .valid => { f with validSeen := f.validSeen || ok }
  | .crcError => { f with crcError := true }
  | .late => { f with late := true }
  | .clash => { f with clash := true }
  | .none => f

/-- The handed result sets the flags of its line (R177). -/
def LineSup.result (l : LineSup) (r : LineResult) (ok : Bool) : LineSup := { l with flags := l.flags.after r ok }

/-- The observations a slot end sets (R181): a slot that belonged to an entry, with whether the answer was valid for the
slot on this line and on the other. -/
def LineSup.observe (l : LineSup) (mine other : Bool) : LineSup :=
  { l with obs := { entrySlot := true, carried := l.obs.carried || mine, short := l.obs.short || (other && !mine) } }

/-- A run count after a cycle that is not neutral (R182). -/
def runNext (limit : Nat) (holds : Bool) (n : Nat) : Nat := if holds then min limit (n + 1) else 0

/-- The run counts at the quiet gap (R182). -/
def LineSup.runsNext (l : LineSup) : Runs :=
  if !l.obs.entrySlot then l.runs
  else
    { short := runNext 8 l.obs.short l.runs.short
      silent := runNext 32 (!l.obs.carried) l.runs.silent
      full := runNext 8 (l.obs.carried && !l.obs.short) l.runs.full }

/-- The line state evaluated from the run counts (R183). -/
def LineState.next (st : LineState) (r : Runs) : LineState :=
  if st ≠ .dead && r.silent = 32 then .dead
  else if st = .ok && r.short = 8 then .degraded
  else if st ≠ .ok && r.full = 8 then .ok
  else st

/-- A line at the quiet gap: run counts, then state (R182, R183). -/
def LineSup.gap (l : LineSup) : LineSup :=
  let r := l.runsNext
  { l with runs := r, state := l.state.next r }

/-- LINE_A or LINE_B set (R184). -/
def Alarms.withLine (line : Line) (a : Alarms) : Alarms :=
  match line with
  | .a => { a with lineA := true }
  | .b => { a with lineB := true }

/-- A change of a line's state told (R184): the LINE report, and the alarm flag when the line leaves OK. -/
def tellLine (line : Line) (old new : LineState) (s : State) : State :=
  if old = new then s
  else
    let t := if old = .ok then setAlarms (Alarms.withLine line) s else s
    raise .line 1 (match line with | .a => 1 | .b => 2) (u8 old.code ++ u8 new.code) t

/-! ## Node status tables -/

/-- The table of a cycle counter's parity (R153, R187): EVEN for an even one. -/
def Sup.table (u : Sup) (counter : Nat) : NodeTable := if counter % 2 = 0 then u.even else u.odd

/-- The table of a cycle counter's parity changed. -/
def Sup.setTable (u : Sup) (counter : Nat) (t : NodeTable) : Sup :=
  if counter % 2 = 0 then { u with even := t } else { u with odd := t }

/-- A table that the cycle beginning updates (R187). -/
def NodeTable.opened (t : NodeTable) : NodeTable :=
  { t with rows := List.replicate 16 .cleared, valid := false, cycle := none, updating := true }

/-- The decision of a beacon, and the capture setting after it (R187, R193). -/
def Sup.decide (u : Sup) (counter : Nat) : Bool × Capture :=
  let free : Bool := (u.table counter).lock = .unlocked
  match u.capture with
  | .continuous => (free, .continuous)
  | .waiting =>
    if counter % 2 = 0 && u.even.lock = .unlocked && u.odd.lock = .unlocked then (true, .evenTaken) else (false, .waiting)
  | .evenTaken =>
    if counter % 2 = 0 then (false, .evenTaken) else if free then (true, .evenTaken) else (false, .waiting)
  | .held => (false, .held)

/-- Supervision at the start of a beacon: the observations are cleared and the table update is decided (R181, R187,
R193). -/
def Sup.beacon (u : Sup) (counter : Nat) : Sup :=
  let d := u.decide counter
  let v := { u with a := { u.a with obs := .clear }, b := { u.b with obs := .clear }, capture := d.2 }
  if d.1 then v.setTable counter (v.table counter).opened else v

/-- A row written into the table of the cycle in progress, when the cycle updates it (R188). -/
def Sup.writeRow (u : Sup) (counter hop : Nat) (r : Row) : Sup :=
  let t := u.table counter
  if t.updating then u.setTable counter { t with rows := t.rows.set (hop - 1) r } else u

/-- A table completed at the quiet gap of the cycle given (R189). -/
def NodeTable.completed (t : NodeTable) (counter : Nat) : NodeTable :=
  { t with valid := true, cycle := some counter, updating := false
           lock := if t.lock = .pending then .locked else t.lock }

/-- The table of the cycle completed, with the capture that ends there (R189, R193). -/
def Sup.complete (u : Sup) (counter : Nat) : Sup :=
  let t := u.table counter
  if t.updating then
    let v := u.setTable counter (t.completed counter)
    if counter % 2 = 1 && u.capture = .evenTaken then { v with capture := .held } else v
  else u

/-- Supervision at the quiet gap event (R170, R182 to R184, R189). When both lines change, line A's report is raised first
(DESIGN CHOICE, log entry 34). -/
def supervisionGap (s : State) : State :=
  let a := s.sup.a
  let b := s.sup.b
  let t := s.setSup { s.sup with a := a.gap, b := b.gap }
  let u := tellLine .b b.state b.gap.state (tellLine .a a.state a.gap.state t)
  u.setSup (u.sup.complete u.bc.counter)

end Sys2Proof.Machine
end

