-- ==== Sys2Proof/Machine/Slots.lean ====
section
/-! DEFINITION. The coach slot (chapter 6): its start, its CONTENT frame, the slot outcome at the Consist Manager (R68 to
R71, R76, R78), the acknowledgement at the Display Composer (R132, R133) and the slot end (R163 to R166). -/

namespace Sys2Proof.Machine

/-! ## The slot start -/

/-- The slot that begins next (R152). -/
def CycleSegment.nextSlot : CycleSegment → Option Nat
  | .beaconSent => some 1
  | .slotDone n => if n < 16 then some (n + 1) else Option.none
  | _ => Option.none

/-- A slot that belongs to an entry (R157): the composer chooses the block, the length byte is what the block needs now,
the CONTENT frame begins and is counted (R175). -/
def beginContent (n : Nat) (e : Entry) (s : State) : State :=
  let c := choose e
  let id := e.coach.id
  let gen := (e.blocks.get c.1).gen
  let f : ContentFrame := { dest := id, kind := c.1, gen := gen, len := (contentPayload s id c.1 gen).length, sent := [],
                            state := .sending, endAt := 0 }
  let t := updateEntry id (fun x => { x with refresh := c.2 }) s
  t.setBc { t.bc.enter (.slot n) with frame := some f, sent := countUp t.bc.sent }

/-- The start of the next coach slot (R156). -/
def slotStart (s : State) : State :=
  match s.bc.segment.nextSlot with
  | none => s
  | some n =>
    match s.cm.list[n - 1]? with
    | some e => beginContent n e s
    | none => s.setBc (s.bc.enter (.slot n))

/-- The CONTENT frame being sent runs to its end marker, and is completed (R158). -/
def contentComplete (s : State) : State :=
  match s.bc.frame with
  | some f => if f.state = .sending then runTo (4 * (f.len + 7)) s else s
  | none => s

/-! ## The slot outcome at the Consist Manager -/

/-- A hop seen added to the pair hop record (R69), whatever byte it is (DESIGN CHOICE, log entry 32). -/
def PairHop.add (h : Nat) : PairHop → PairHop
  | .none => .hop h
  | .hop k => if k = h then .hop k else .disagreeing
  | .disagreeing => .disagreeing

/-- The pair record notes the outcome of the entry's slot in an even or odd cycle (R54, R68, R72). -/
def Entry.note (even valid : Bool) (e : Entry) : Entry :=
  if even then { e with evenHeld := true, evenValid := valid } else { e with oddValid := valid }

/-- The orientation of an answer (R76). -/
def takeOrientation (id : Nat) (o : Orientation) (s : State) : State :=
  match s.cm.entryOf id with
  | none => s
  | some e =>
    if e.coach.orient = o then s
    else
      markBlocks (fun x k => x.coach.id = id && (k = .header || k = .map))
        (updateEntry id (Entry.mapCoach fun c => { c with orient := o }) s)

/-- The type code of an answer (R69): a different one replaces the entry's; the valid kinds are evaluated and every valid
SEAT block marked (R128), the agreement check is made afresh (R117), and a code not in the table is reported. -/
def takeType (id type : Nat) (s : State) : State :=
  match s.cm.entryOf id with
  | none => s
  | some e =>
    if e.coach.type = type then s
    else
      let t := updateEntry id (Entry.mapCoach fun c => { c with type := type }) s
      let u := markSeats (fun x => x.coach.id = id) (evaluateKinds (fun x => x.coach.id = id) t)
      reportUnknownType id type (checkEntry id u)

/-- The printed number of an answer (R69). -/
def takeNumber (id number : Nat) (s : State) : State :=
  match s.cm.entryOf id with
  | none => s
  | some e =>
    if e.coach.number = number || 999 < number then s
    else markHeaders (fun x => x.coach.id = id) (updateEntry id (Entry.mapCoach fun c => { c with number := number }) s)

/-- The unit identity of an answer (R69): never taken; a difference is reported once, until an answer agrees again. -/
def takeUnit (id unit : Nat) (s : State) : State :=
  match s.cm.entryOf id with
  | none => s
  | some e =>
    if e.coach.unit = unit then updateEntry id (Entry.mapCoach fun c => { c with unitDiffers := false }) s
    else if e.coach.unitDiffers then s
    else
      raise .consist 9 id (u16 e.coach.unit ++ u16 unit)
        (updateEntry id (Entry.mapCoach fun c => { c with unitDiffers := true }) s)

/-- A MUTE entry that answers becomes ACTIVE (R69). -/
def unmute (id : Nat) (s : State) : State :=
  match s.cm.entryOf id with
  | none => s
  | some e =>
    if e.state = .mute then raise .consist 5 id (s.cm.hopByte id) (setEntryState id .active s) else s

/-- A valid slot outcome at the Consist Manager (R69). -/
def slotAnswered (id : Nat) (a : NodeAnswer) (s : State) : State :=
  let even : Bool := s.bc.counter % 2 = 0
  let noted (e : Entry) : Entry :=
    { (e.note even true).mapCoach (fun c => { c with missed := 0 }) with pairHop := e.pairHop.add a.hop }
  let s1 := unmute id (updateEntry id noted s)
  takeUnit id a.unit (takeNumber id a.number (takeType id a.type (takeOrientation id a.orient s1)))

/-- What a miss makes of an entry's own fields (R70): the missed count rises, the pair count of a PROBATION or ACTIVE entry
becomes 0, the pair record notes the miss. -/
def Entry.miss (even : Bool) (e : Entry) : Entry :=
  { (e.note even false).mapCoach (fun c => { c with missed := c.missed + 1 }) with
    pairCount := if e.state = .probation || e.state = .active then 0 else e.pairCount }

/-- COACH_MUTE set (R70). -/
def Alarms.withMute (a : Alarms) : Alarms := { a with coachMute := true }

/-- An ACTIVE entry's third miss (R70). -/
def muteEntry (id : Nat) (s : State) : State :=
  raise .consist 4 id (s.cm.hopByte id) (setAlarms Alarms.withMute (setEntryState id .mute s))

/-- A miss at the Consist Manager (R70, R71, R78). -/
def slotMissed (id : Nat) (s : State) : State :=
  match s.cm.entryOf id with
  | none => s
  | some e =>
    let missed := e.coach.missed + 1
    let t := updateEntry id (Entry.miss (s.bc.counter % 2 = 0)) s
    match e.state with
    | .probation => if missed = 32 then loseEntry id t else t
    | .active => if missed = 3 then muteEntry id t else t
    | .mute => if missed = 32 then loseEntry id t else t
    | .departing => if missed = 3 then deleteDeparting id e.coach.unit t else t

/-- The slot outcome at the Consist Manager; one for an identity that is no list entry is discarded (R68). -/
def consistOutcome (id : Nat) (a : Option NodeAnswer) (s : State) : State :=
  match s.cm.entryOf id, a with
  | none, _ => s
  | some _, some n => slotAnswered id n s
  | some _, none => slotMissed id s

/-! ## The acknowledgement -/

/-- The answer echoes the kind, the generation and the check sent, of a frame that completed (R132, R133, R228). -/
def ContentFrame.echoed (f : ContentFrame) (a : NodeAnswer) : Bool :=
  match f.state with
  | .completed check => a.echoKind = f.kind.code && a.echoGen = f.gen && a.echoCheck = check.toNat
  | _ => false

/-- The result handed to the node status tables for an outcome that is not discarded (R133). -/
def ContentFrame.ack (f : ContentFrame) : Option NodeAnswer → Ack
  | none => .none
  | some a => if f.echoed a then .matched else .notMatched

/-- The dirty mark of one kind cleared. -/
def Entry.clean (k : BlockKind) (e : Entry) : Entry :=
  { e with blocks := .ofKinds fun x => if x = k then { e.blocks.get x with dirty := false } else e.blocks.get x }

/-- The block's dirty mark cleared when the frame was echoed and the block's generation is still the one sent (R132 step
2). -/
def acknowledge (f : ContentFrame) (a : NodeAnswer) (s : State) : State :=
  match s.cm.entryOf f.dest with
  | none => s
  | some e => if f.echoed a && (e.blocks.get f.kind).gen = f.gen then updateEntry f.dest (Entry.clean f.kind) s else s

/-- The acknowledgement outcome at the Display Composer (R132), with its result for the tables (R133). -/
def composerOutcome (f : ContentFrame) (a : Option NodeAnswer) (s : State) : State × Ack :=
  match s.cm.entryOf f.dest, a with
  | none, _ => (s, .none)
  | some _, none => (s, .none)
  | some _, some n =>
    let t := if n.restarted then dirtyBlocks (fun e => e.coach.id = f.dest) s else s
    (acknowledge f n t, f.ack a)

/-! ## The slot end -/

/-- The result and the payload of a line at the end of a slot or of a call window. -/
structure Heard where
  result : LineResult
  payload : List Byte
  deriving DecidableEq, Repr

/-- A line's takings in a slot whose frame ended at a moment (R162, R163). -/
def heardInSlot (endAt : Nat) (g : Takings) : Heard :=
  { result := g.classify (endAt + 40) 1900 0x81 17, payload := g.payload }

/-- A line's answer is valid for the slot: VALID, with the identity the slot belongs to (R163). -/
def Heard.validFor (h : Heard) (id : Nat) : Bool := h.result = .valid && (nodeAnswer h.payload).id = id

/-- The line whose answer is used (R164, R169). -/
def usedLine (okA okB : Bool) : Option Line := if okA then some .a else if okB then some .b else none

/-- The payload of the line used. -/
def usedPayload (a b : Heard) (used : Option Line) : Option (List Byte) :=
  used.map fun l => match l with | .a => a.payload | .b => b.payload

/-- A line part of a row (R186, R188). -/
def Heard.part (h : Heard) : LinePart :=
  { result := h.result
    seen := if h.result = .valid then
        let n := nodeAnswer h.payload
        some { id := n.id, hop := n.hop, faults := n.faults }
      else none }

/-- Supervision takes the results of both lines at a slot end (R177, R178, R181). -/
def Sup.slot (u : Sup) (a b : Heard) (okA okB : Bool) : Sup :=
  { u with a := (u.a.result a.result okA).observe okA okB
           b := (u.b.result b.result okB).observe okB okA
           mismatch := u.mismatch || (okA && okB && a.payload ≠ b.payload) }

/-- The end of a slot that belongs to an entry (R163 to R166, R188): classification, then the hand-overs to the Consist
Manager, the Display Composer and supervision, in this order (log entry 20). -/
def slotOutcome (n : Nat) (f : ContentFrame) (s : State) : State :=
  let a := heardInSlot f.endAt s.bc.gotA
  let b := heardInSlot f.endAt s.bc.gotB
  let okA := a.validFor f.dest
  let okB := b.validFor f.dest
  let used := usedLine okA okB
  let answer := (usedPayload a b used).map nodeAnswer
  let t := composerOutcome f answer (consistOutcome f.dest answer s)
  let row : Row := { addressed := some f.dest, partA := a.part, partB := b.part, used := used, ack := t.2 }
  t.1.setSup ((t.1.sup.slot a b okA okB).writeRow s.bc.counter n row)

/-- The end of a coach slot (R156, R163): a silent slot hands nothing to anyone. -/
def slotEnd (s : State) : State :=
  match s.bc.segment with
  | .slot n =>
    let t := runTo 2000 s
    let u := match t.bc.frame with
      | some f => slotOutcome n f t
      | none => t
    u.setBc { u.bc with segment := .slotDone n, frame := none }
  | _ => s

end Sys2Proof.Machine
end

