-- ==== Sys2Proof/Machine/Cycle.lean ====
section
/-! DEFINITION. The cycle outside its coach slots: the beacon (R153, R154), the cycle start at the composer (R139, R144), the
call window (R61, R62, R167, R169), the pair end (R72 to R75) and the end of the cycle (R151 to R153, R173). -/

namespace Sys2Proof.Machine

/-! ## The beacon -/

/-- The start of a beacon segment (R153, R154, R181, R187), the counter already that of the cycle beginning. -/
def beaconStart (s : State) : State :=
  let t := s.setSup (s.sup.beacon s.bc.counter)
  t.setBc { t.bc.enter .beacon with beacon := beaconPayload t }

/-- The Backbone Controller goes from OFF to RUNNING (R172). -/
def startBackbone (s : State) : State :=
  beaconStart ((s.setBc { Bc.reset with state := .running }).setSup .reset)

/-! ## The cycle start at the composer -/

/-- A notice counted down; one whose count reaches 0 is removed (R139). -/
def Notice.countDown (n : Notice) : Option Notice :=
  match n.expiry with
  | .cycles r => if r ≤ 1 then none else some { n with expiry := .cycles (r - 1) }
  | _ => some n

/-- The notices of a coach counted down (R139). -/
def Coach.countDown (c : Coach) : Coach := { c with notices := c.notices.filterMap Notice.countDown }

/-- The countdown in every stack, list and detached (R139); the HEADER of an entry whose chosen notice is removed is marked
(R140). -/
def countNotices (s : State) : State :=
  let hit := (s.cm.list.filter fun e =>
    match chosen s e with
    | .host _ n => n.countDown.isNone
    | _ => false).map (·.coach.id)
  let t := s.setCm { s.cm with list := s.cm.list.map (Entry.mapCoach Coach.countDown)
                               detached := s.cm.detached.map Coach.countDown }
  markHeaders (fun e => hit.contains e.coach.id) t

/-- The entry of the rotation table at an index. -/
def Dc.entryAt (d : Dc) (i : Nat) : RotationEntry := (d.table[i]?).getD { page := .empty, dwell := 1, next := 0 }

/-- The fallback of R144. -/
def Dc.fallback (d : Dc) : Dc := { d with current := none, page := .nextStop, dwell := 1 }

/-- Candidates examined one at a time, as many as given (R144). -/
def Dc.search (d : Dc) (anyNotice : Bool) : Nat → Nat → Dc
  | 0, _ => d.fallback
  | left + 1, i =>
    let e := d.entryAt i
    if e.page = .empty then d.search anyNotice left d.start
    else if e.page = .notice && !anyNotice then d.search anyNotice left e.next
    else { d with current := some i, page := e.page, dwell := e.dwell }

/-- The first candidate of an advance (R144). -/
def Dc.first (d : Dc) : Nat :=
  match d.current with
  | some i => (d.entryAt i).next
  | none => d.start

/-- The rotation at a cycle start (R144). -/
def Dc.rotate (d : Dc) (anyNotice : Bool) : Dc :=
  if d.dwell ≤ 1 then { d with dwell := 0 }.search anyNotice Config.rotationSize d.first
  else { d with dwell := d.dwell - 1 }

/-- Whether some list entry has a notice (R144). -/
def Cm.anyNotice (c : Cm) : Bool := c.list.any fun e => !e.coach.notices.isEmpty

/-- The cycle start event (R155): the countdown, then the rotation. -/
def composerCycle (s : State) : State :=
  let t := countNotices s
  t.setDc (t.dc.rotate t.cm.anyNotice)

/-- The end marker of the BEACON frame, 15 symbols after the start of the segment, has been sent (R154, R155). -/
def beaconEnd (s : State) : State :=
  match s.bc.segment with
  | .beacon =>
    let t := runTo 60 s
    composerCycle (t.setBc { t.bc with segment := .beaconSent })
  | _ => s

/-! ## The call window -/

/-- The call of this cycle handed by the Consist Manager (R61, R62, R167), with what the survey does at the start of the
window: at 16 entries SURVEYING closes with LIST_FULL. -/
def callOfCycle (s : State) : State × Option Call :=
  let n := s.cm.list.length
  match s.cm.survey.state with
  | .off => (s, none)
  | .surveying =>
    if Config.maxEntries ≤ n then
      (raise .consist 13 0 (u8 (CloseCause.code .listFull))
        (setSurvey (fun v => { v with state := .closed, cause := .listFull }) s), none)
    else (s, some { target := n + 1, watch := false })
  | .closed =>
    if s.bc.counter = 0 && n < Config.maxEntries then (s, some { target := n + 1, watch := true }) else (s, none)

/-- The start of the call window (R167). -/
def callStart (s : State) : State :=
  match s.bc.segment with
  | .slotDone 16 =>
    let c := callOfCycle s
    c.1.setBc { c.1.bc.enter .call with call := c.2 }
  | _ => s

/-- A line's takings in a call window (R169): 32 microseconds of CALL frame, the window from 72 to 2,900. -/
def heardInCall (g : Takings) : Heard := { result := g.classify 72 2900 0x83 12, payload := g.payload }

/-- A line's call answer is valid: VALID, with the hop seen equal to the target (R169). -/
def Heard.validCall (h : Heard) (target : Nat) : Bool := h.result = .valid && byteAt h.payload 4 = target

/-- Supervision takes the results of both lines of a call window (R177, R178). -/
def Sup.call (u : Sup) (a b : Heard) (okA okB : Bool) : Sup :=
  { u with a := u.a.result a.result okA, b := u.b.result b.result okB
           mismatch := u.mismatch || (okA && okB && a.payload ≠ b.payload) }

/-- A call answer whose identity, unit or printed number is outside its values is handled as no answer (R63). -/
def CallAnswer.accepted (a : CallAnswer) : Bool := a.id ≠ 0 && a.unit ≠ 0 && a.number ≤ 999

/-- The call outcome at the Consist Manager (R61 to R67). -/
def callOutcome (c : Call) (a : Option CallAnswer) (s : State) : State :=
  match a with
  | some x => if x.accepted then handleCallAnswer x c.target c.watch s else callUnanswered c.watch s
  | none => callUnanswered c.watch s

/-- The end of a window in which a call was sent (R169, R175, R177). -/
def callClose (c : Call) (s : State) : State :=
  let a := heardInCall s.bc.gotA
  let b := heardInCall s.bc.gotB
  let okA := a.validCall c.target
  let okB := b.validCall c.target
  let answer := (usedPayload a b (usedLine okA okB)).map callAnswer
  let record : CallRecord :=
    { target := c.target, resultA := a.result, resultB := b.result, handed := answer.isSome }
  callOutcome c answer ((s.setBc { s.bc with lastCall := record }).setSup (s.sup.call a b okA okB))

/-- The end of the call window (R169); a quiet window hands nothing to anyone (R167). -/
def callEnd (s : State) : State :=
  match s.bc.segment with
  | .call =>
    let t := runTo 3000 s
    let u := match t.bc.call with
      | some c => callClose c t
      | none => t
    u.setBc { u.bc with segment := .callDone, call := none }
  | _ => s

/-! ## The pair end -/

/-- The pair of an entry qualifies (R72). -/
def Entry.qualifies (e : Entry) : Bool := e.evenHeld && e.evenValid && e.oddValid

/-- R72 for one entry. -/
def pairStep (id : Nat) (s : State) : State :=
  match s.cm.entryOf id with
  | none => s
  | some e =>
    if e.state = .probation then
      let n := if e.qualifies then e.pairCount + 1 else e.pairCount
      if s.cm.survey.cfgPairs ≤ n then
        raise .consist 3 id (s.cm.hopByte id)
          (setEntryState id .active (updateEntry id (fun e => { e with pairCount := 0 }) s))
      else updateEntry id (fun e => { e with pairCount := n }) s
    else s

/-- R73 for an entry at a list hop; a hop seen of 0 or above 16 is evidence like any other (DESIGN CHOICE, log entry 32). -/
def Entry.evidence (e : Entry) (hop : Nat) : Entry :=
  match e.pairHop with
  | .hop h =>
    if h = hop then { e with evidenceHop := none, evidenceCount := 0 }
    else if e.evidenceHop = some h then { e with evidenceCount := 2 }
    else { e with evidenceHop := some h, evidenceCount := 1 }
  | _ => { e with evidenceHop := none, evidenceCount := 0 }

/-- The list with each entry's hop. -/
def Cm.numbered (c : Cm) : List (Entry × Nat) := c.list.zipIdx.map fun x => (x.1, x.2 + 1)

/-- R73 for the whole list. -/
def Cm.withEvidence (c : Cm) : Cm := { c with list := c.numbered.map fun x => x.1.evidence x.2 }

/-- The pair hop record as one hop (R74 step 1). -/
def Entry.seenHop (e : Entry) : Option Nat :=
  match e.pairHop with
  | .hop h => some h
  | _ => none

/-- The removal set of R74 step 2: MUTE entries whose list hop is the proposed hop of another entry. -/
def Cm.bypassed (c : Cm) : List (Entry × Nat) :=
  c.numbered.filter fun x =>
    x.1.state = .mute && c.list.any fun o => o.coach.id ≠ x.1.coach.id && o.seenHop = some x.2

/-- The entries outside the removal set with their proposed hops (R74 steps 1 and 3). -/
def Cm.proposals (c : Cm) : List (Entry × Option Nat) :=
  let gone := c.bypassed.map fun x => x.1.coach.id
  (c.numbered.filter fun x => !gone.contains x.1.coach.id).map fun x =>
    (x.1, if x.1.state = .mute then some x.2 else x.1.seenHop)

/-- The list in the order of the proposed hops, when they are exactly 1 to m (R74 step 4). -/
def Cm.reordered (c : Cm) : Option (List Entry) :=
  let p := c.proposals
  let sorted := (List.range p.length).filterMap fun i => (p.find? fun x => x.2 = some (i + 1)).map Prod.fst
  if sorted.length = p.length && p.all fun x => x.2.isSome then some sorted else none

/-- An entry of the removal set leaves the list (R74). -/
def bypassEntry (id hop : Nat) (s : State) : State :=
  raise .consist 7 id (u8 hop) (setAlarms Alarms.withLost (detach id s))

/-- The evidence of an entry cleared. -/
def Entry.noEvidence (e : Entry) : Entry := { e with evidenceHop := none, evidenceCount := 0 }

/-- R74 and R75. -/
def reorder (s : State) : State :=
  if s.cm.list.any fun e => e.evidenceCount = 2 then
    match s.cm.reordered with
    | some list =>
      let t := s.cm.bypassed.foldl (fun t x => bypassEntry x.1.coach.id x.2 t) s
      t.setCm { t.cm with list := list.map Entry.noEvidence, confused := false }
    | none =>
      if s.cm.confused then s else raise .consist 10 0 [] (s.setCm { s.cm with confused := true })
  else s.setCm { s.cm with confused := false }

/-- The pair record and the pair hop record of an entry emptied (R72). -/
def Entry.noPair (e : Entry) : Entry :=
  { e with evenHeld := false, evenValid := false, oddValid := false, pairHop := .none }

/-- The pair end (R72 to R75). -/
def pairEnd (s : State) : State :=
  let s1 := (s.cm.list.map (·.coach.id)).foldl (fun t id => pairStep id t) s
  let s2 := reorder (s1.setCm s1.cm.withEvidence)
  s2.setCm { s2.cm with list := s2.cm.list.map Entry.noPair }

/-- The start of the quiet gap (R170): in an odd cycle the pair end, and supervision. -/
def gapStart (s : State) : State :=
  match s.bc.segment with
  | .callDone =>
    let t := s.setBc (s.bc.enter .gap)
    supervisionGap (if t.bc.counter % 2 = 1 then pairEnd t else t)
  | _ => s

/-! ## The end of the cycle -/

/-- The backbone goes OFF at the end of the cycle in which it was stopped (R173, R59), and the reply to STOP BACKBONE is
built. -/
def backboneOff (s : State) : State :=
  let t := s.setBc { s.bc.enter .none with state := .off, rxA := .hunt, rxB := .hunt }
  finishHead .done [] (stopConsist t)

/-- The end of the quiet gap (R152, R153, R173). -/
def cycleClose (s : State) : State :=
  match s.bc.segment, s.bc.state with
  | .gap, .running => beaconStart (s.setBc { s.bc with counter := (s.bc.counter + 1) % 32 })
  | .gap, .stopping => backboneOff s
  | _, _ => s

/-- One symbol time passes on the backbone, 4 microseconds (R147), with nothing else happening: what a step does when no
command waits (log entry 3). Nothing changes while OFF or at the end of a segment. -/
def symbolTime (s : State) : State := runTo (s.bc.clock + 4) s

end Sys2Proof.Machine
end

