-- ==== Sys2Proof/Machine/ConsistRequests.lean ====
section
/-! DEFINITION. What the Consist Manager does with each of its requests (chapter 3). -/

namespace Sys2Proof.Machine

/-! ## The survey and the backbone -/

/-- CONFIGURE SURVEY (R57). With both values out of range the position is 1 (DESIGN CHOICE, log entry 39). -/
def doConfigureSurvey (attempts pairs : Nat) (s : State) : Answer :=
  if attempts < 1 || 31 < attempts then refuse s .badField (u8 1)
  else if pairs < 1 || 15 < pairs then refuse s .badField (u8 2)
  else done (setSurvey (fun v => { v with cfgAttempts := attempts, cfgPairs := pairs }) s) []

/-- START BACKBONE (R58, R172). -/
def doStartBackbone (s : State) : Answer :=
  if s.cm.survey.state ≠ .off then refuse s .wrongState
  else
    let t := s.setCm { s.cm with
      survey := { s.cm.survey with state := .surveying, attempts := s.cm.survey.cfgAttempts, cause := .none }
      confused := false }
    done (startBackbone t) []

/-- STOP BACKBONE (R59, R173): taken, its result comes back at the end of the cycle in progress. -/
def doStopBackbone (s : State) : Answer :=
  if s.cm.survey.state = .off then refuse s .wrongState
  else .later (s.setBc { s.bc with state := .stopping })

/-- SURVEY (R60). -/
def doSurvey (s : State) : Answer :=
  match s.cm.survey.state with
  | .off => refuse s .wrongState
  | .surveying => done s []
  | .closed => done (surveyOn s) []

/-! ## Split -/

/-- A list entry of a parting unit becomes DEPARTING with pair count 0, and is deleted at once when its missed count is
already 3 or more (R77, R78). -/
def departEntry (id unit : Nat) (s : State) : State :=
  let t := setEntryState id .departing (updateEntry id (fun e => { e with pairCount := 0 }) s)
  match t.cm.entryOf id with
  | some e => if 3 ≤ e.coach.missed then leaveList (fun x => x.coach.id = id)
      (t.setCm (t.cm.joinParting unit id)) else t
  | none => t

/-- SPLIT taken (R77, R16): the portion entry PARTING, an empty parting set, the last of them (DESIGN CHOICE, log entry 30), the
unit's list entries DEPARTING. -/
def takeSplit (unit : Nat) (s : State) : State :=
  let ids := (s.cm.list.filter fun e => e.coach.unit = unit).map (·.coach.id)
  let s1 := withAdvisory (fun t => t.setJt (t.jt.setPortionState unit .parting)) s
  let s2 := s1.setCm { s1.cm with partings := s1.cm.partings ++ [{ unit := unit, ids := [] }] }
  ids.foldl (fun t id => departEntry id unit t) s2

/-- SPLIT (R77). -/
def doSplit (unit : Nat) (s : State) : Answer :=
  match s.jt.phase with
  | .atStop _ =>
    if unit = 0 then refuse s .badField
    else
      match s.jt.portionOf unit with
      | none => refuse s .notFound
      | some p =>
        if p.home || p.state = .parting then refuse s .wrongState
        else
          let n := (s.cm.list.filter fun e => e.coach.unit = unit).length
          let t := takeSplit unit s
          done (checkSplit unit t) (u8 n ++ flag (splitDone t unit))
  | _ => refuse s .wrongState

/-! ## Removing and reading entries -/

/-- REMOVE ENTRY (R81). -/
def doRemoveEntry (id : Nat) (s : State) : Answer :=
  if id = 0 then refuse s .badField
  else if (s.cm.entryOf id).isSome then refuse s .wrongState
  else
    match s.cm.detached.find? fun c => c.id = id with
    | none => refuse s .notFound
    | some c =>
      let cm := { s.cm with detached := s.cm.detached.filter fun x => x.id ≠ id }
      done (s.setCm (cm.joinParting c.unit id)) []

/-- Whether the coach type table holds the code a coach reports. -/
def Cm.known (c : Cm) (code : Nat) : Bool := (c.typeOf code).isSome

/-- The fields READ CONSIST gives of a list entry at a hop (R82): 18 bytes. -/
def entryBytes (c : Cm) (e : Entry) (hop : Nat) : List Byte :=
  let k := e.coach
  u32 k.id ++ u16 k.unit ++ u16 k.number ++ u8 k.type ++ flag (c.known k.type) ++ u8 k.orient.code ++ u8 hop
    ++ u8 e.state.code ++ u8 k.missed ++ u8 e.pairCount
    ++ (match e.evidenceHop with | some h => u8 h | none => [Config.noHop]) ++ u8 e.evidenceCount ++ flag k.unitDiffers

/-- The fields READ CONSIST gives of a detached entry (R82): no hop and no evidence; the state is LOST, the pair count
empty (R54). -/
def coachBytes (c : Cm) (k : Coach) : List Byte :=
  u32 k.id ++ u16 k.unit ++ u16 k.number ++ u8 k.type ++ flag (c.known k.type) ++ u8 k.orient.code
    ++ u8 4 ++ u8 k.missed ++ u8 0 ++ flag k.unitDiffers

/-- A coach placed by increasing identity. -/
def insertCoach (k : Coach) : List Coach → List Coach
  | [] => [k]
  | x :: rest => if k.id < x.id then k :: x :: rest else x :: insertCoach k rest

/-- The detached entries in increasing order of identity (R82). -/
def Cm.detachedSorted (c : Cm) : List Coach := c.detached.foldr insertCoach []

/-- An identity field that may be absent, its absent code a free value (log entry 12). -/
def identity? (i : Option Nat) : List Byte :=
  match i with
  | some n => u32 n
  | none => [Config.noIdentity.extractLsb' 24 8, Config.noIdentity.extractLsb' 16 8, Config.noIdentity.extractLsb' 8 8,
             Config.noIdentity.extractLsb' 0 8]

/-- READ CONSIST (R82). The parting sets stand in the order of their SPLIT (DESIGN CHOICE, log entry 30). -/
def doReadConsist (s : State) : Answer :=
  let c := s.cm
  done s (counted (fun x => entryBytes c x.1 x.2) c.numbered ++ counted (coachBytes c) c.detachedSorted
    ++ u8 c.survey.state.code ++ u8 c.survey.attempts ++ u8 c.survey.cause.code ++ identity? c.survey.cause.identity
    ++ flag c.confused ++ u8 c.survey.cfgAttempts ++ u8 c.survey.cfgPairs
    ++ counted (fun p => u16 p.unit ++ counted u32 p.ids) c.partings)

/-! ## The coach type table -/

/-- A type code is in use (R83): a consist entry reports it, or a vehicle record in either bank names it. -/
def typeInUse (s : State) (code : Nat) : Bool :=
  (s.cm.list.any fun e => e.coach.type = code) || (s.cm.detached.any fun c => c.type = code)
    || (s.rs.bank0 ++ s.rs.bank1).any fun v => v.type = code

/-- The index of the first bad label (R84 check 2). -/
def badLabel (labels : List Text) : Option Nat := labels.findIdx? fun l => !textIn 1 4 l

/-- A record written: in the place of the record with its code, or added. -/
def Cm.putType (c : Cm) (r : TypeRecord) : Cm :=
  if c.known r.code then { c with types := c.types.map fun x => if x.code = r.code then r else x }
  else { c with types := c.types ++ [r] }

/-- DEFINE TYPE (R84). A label count that differs goes before a bad label (DESIGN CHOICE, log entry 31). -/
def doDefineType (code seats : Nat) (labels : List Text) (s : State) : Answer :=
  if code = 0 || seats < 1 || 96 < seats then refuse s .badField (u8 0)
  else if labels.length ≠ seats then refuse s .badField (u8 labels.length)
  else
    match badLabel labels with
    | some i => refuse s .badField (u8 i)
    | none =>
      if s.cm.known code && typeInUse s code then refuse s .inUse
      else if !s.cm.known code && Config.maxTypes ≤ s.cm.types.length then refuse s .noSpace
      else
        let t := s.setCm (s.cm.putType { code := code, seats := seats, labels := labels })
        done (evaluateKinds (fun e => e.coach.type = code) t) []

/-- DELETE TYPE (R85). -/
def doDeleteType (code : Nat) (s : State) : Answer :=
  if code = 0 then refuse s .badField
  else if !s.cm.known code then refuse s .notFound
  else if typeInUse s code then refuse s .inUse
  else done (s.setCm { s.cm with types := s.cm.types.filter fun r => r.code ≠ code }) []

/-- The coach type record (R227). -/
def TypeRecord.bytes (r : TypeRecord) : List Byte := u8 r.code ++ u8 r.seats ++ counted text r.labels

/-- READ TYPE (R86, R227): the in-use byte, then the record cut to the requested length. -/
def doReadType (code length : Nat) (s : State) : Answer :=
  if code = 0 || length = 0 then refuse s .badField
  else
    match s.cm.typeOf code with
    | none => refuse s .notFound
    | some r => done s (flag (typeInUse s code) ++ r.bytes.take length)

end Sys2Proof.Machine
end

