-- ==== Sys2Proof/Machine/Reservations.lean ====
section
/-! DEFINITION. What the Reservation Store does with each of its requests (chapter 4). -/

namespace Sys2Proof.Machine

/-! ## Edits of one bank -/

/-- What an edit does to a bank: the bank and the data of the reply, or the refusal with its data. -/
inductive BankEdit where
  | taken (bank : List Vehicle) (data : List Byte)
  | refused (r : ResultCode) (data : List Byte)
  deriving DecidableEq, Repr

/-- An edit of a bank, in a state. -/
abbrev BankOp := State → List Vehicle → BankEdit

/-- DECLARE VEHICLE in a bank: checks 3 to 5 of R91. The new record is the last of the bank (DESIGN CHOICE, log entry 30). -/
def declareIn (id type slot : Nat) : BankOp := fun s bank =>
  if (vehicleIn bank id).isSome then .refused .inUse []
  else
    match s.cm.typeOf type with
    | none => .refused .notFound []
    | some t =>
      if Config.maxVehicles ≤ bank.length then .refused .noSpace []
      else
        let v : Vehicle := { id := id, type := type, slot := slot, seats := List.replicate t.seats [] }
        .taken (bank ++ [v]) (u8 (bank.length + 1))

/-- REMOVE VEHICLE in a bank (R95). -/
def removeIn (id : Nat) : BankOp := fun _ bank =>
  match vehicleIn bank id with
  | none => .refused .notFound []
  | some v => .taken (bank.filter fun x => x.id ≠ id) (u16 v.count)

/-- The last index a segment of a slot's record may end at (R92 check 6). -/
def Jt.lastTo (j : Jt) (slot : Nat) : Nat :=
  match (j.slots.get slot).state with
  | .ready => (j.slots.get slot).stops.length - 1
  | .inUse => (j.slots.get slot).stops.length - 1
  | _ => 39

/-- ADD SEGMENT in a bank: checks 3 to 10 of R92. The segment's position in the seat list is carried in one byte (DESIGN CHOICE,
log entry 40). -/
def addIn (id seat : Nat) (g : Segment) : BankOp := fun s bank =>
  match vehicleIn bank id with
  | none => .refused .notFound []
  | some v =>
    match v.seats[seat]? with
    | none => .refused .outOfRange []
    | some l =>
      if g.toIx ≤ g.fromIx then .refused .outOfRange []
      else if s.jt.lastTo v.slot < g.toIx then .refused .outOfRange []
      else if (s.jt.slotIndex v.slot).any fun x => g.toIx ≤ x then .refused .outOfRange []
      else
        match l.find? fun h => h.overlaps g.fromIx g.toIx with
        | some h => .refused .overlap (u8 h.fromIx ++ u8 h.toIx)
        | none =>
          if Config.maxSeatSegments ≤ l.length then .refused .noSpace []
          else if Config.maxBankSegments ≤ segmentCount bank then .refused .noSpace []
          else
            .taken (updateVehicle id (fun x => x.setSeat seat (insertSegment g l)) bank)
              (u8 (l.filter fun h => h.fromIx < g.fromIx).length ++ u16 (segmentCount bank + 1))

/-- DROP SEGMENT in a bank (R93). -/
def dropIn (id seat fromIx : Nat) : BankOp := fun _ bank =>
  match vehicleIn bank id with
  | none => .refused .notFound []
  | some v =>
    match v.seats[seat]? with
    | none => .refused .outOfRange []
    | some l =>
      if l.any fun h => h.fromIx = fromIx then
        .taken (updateVehicle id (fun x => x.setSeat seat (l.eraseP fun h => h.fromIx = fromIx)) bank)
          (u16 (segmentCount bank - 1))
      else .refused .notFound []

/-- CLEAR SEAT in a bank (R94). -/
def clearIn (id seat : Nat) : BankOp := fun _ bank =>
  match vehicleIn bank id with
  | none => .refused .notFound []
  | some v =>
    match v.seats[seat]? with
    | none => .refused .outOfRange []
    | some l =>
      .taken (updateVehicle id (fun x => x.setSeat seat []) bank) (u16 l.length ++ u16 (segmentCount bank - l.length))

/-! ## The bank target, the hand-on and the mirror -/

/-- LIVE or STAGING (R90, R225); no other value names a bank. -/
inductive Target where
  | live
  | staging
  deriving DecidableEq, Repr

/-- A bank target from its code (R90). -/
def Target.ofCode : Nat → Option Target
  | 0 => some .live | 1 => some .staging | _ => none

/-- Whether an edit with the target is taken (R90). -/
def Target.edits (t : Target) (st : Staging) : Bool :=
  match t, st with
  | .live, _ => true
  | .staging, .openEmpty => true
  | .staging, .openCopy => true
  | .staging, _ => false

/-- Whether READ SEAT with the target is taken (R90). -/
def Target.reads (t : Target) (st : Staging) : Bool := t = .live || st.open?

/-- The bank a target names. -/
def Rs.targetNo (r : Rs) : Target → BankNo
  | .live => r.live
  | .staging => r.live.other

/-- What a live edit tells (R96): the seat of a vehicle has changed, or the records of an identity have. -/
inductive Told where
  | nothing
  | seat (id seat : Nat)
  | record (id : Nat)
  deriving DecidableEq, Repr

/-- A live edit handed on (R96, R117, R128). -/
def tell (t : Told) (s : State) : State :=
  match t with
  | .nothing => s
  | .seat id seat => markSeatsOf [(id, seat)] s
  | .record id => checkEntry id s

/-- A bank replaced. -/
def putBank (n : BankNo) (bank : List Vehicle) (s : State) : State := s.setRs (s.rs.setBank n bank)

/-- The mirror of a live edit (R106), with the divergence byte of the reply (R224). -/
def mirrorEdit (op : BankOp) (s : State) : State × List Byte :=
  if s.rs.staging.mirrored then
    match op s s.rs.stagingBank with
    | .taken bank _ => (putBank s.rs.live.other bank s, u8 0)
    | .refused r _ => (s.setRs { s.rs with diverged := true }, u8 r.code)
  else (s, u8 0)

/-- An edit (R90, R96, R106): the field check, the state check, the bank's own checks; then, on the live bank, what it tells
and its mirror. -/
def editBank (bad : Bool) (target : Nat) (op : BankOp) (told : Told) (s : State) : Answer :=
  match Target.ofCode target with
  | none => refuse s .badField
  | some t =>
    if bad then refuse s .badField
    else if !t.edits s.rs.staging then refuse s .wrongState
    else
      let n := s.rs.targetNo t
      match op s (s.rs.bank n) with
      | .refused r data => refuse s r data
      | .taken bank data =>
        let u := putBank n bank s
        match t with
        | .staging => done u (u8 0 ++ data)
        | .live =>
          let m := mirrorEdit op (tell told u)
          done m.1 (m.2 ++ data)

/-! ## The edits -/

/-- DECLARE VEHICLE (R91). -/
def doDeclareVehicle (bank id type slot : Nat) (s : State) : Answer :=
  editBank (id = 0 || type = 0 || 3 < slot) bank (declareIn id type slot) (.record id) s

/-- REMOVE VEHICLE (R95). -/
def doRemoveVehicle (bank id : Nat) (s : State) : Answer :=
  editBank (id = 0) bank (removeIn id) (.record id) s

/-- ADD SEGMENT (R92). -/
def doAddSegment (bank id seat fromIx toIx kind : Nat) (label : Text) (s : State) : Answer :=
  match SegmentKind.ofCode kind with
  | none => refuse s .badField
  | some k =>
    editBank (id = 0 || !textIn 0 8 label) bank
      (addIn id seat { fromIx := fromIx, toIx := toIx, kind := k, label := label }) (.seat id seat) s

/-- DROP SEGMENT (R93). -/
def doDropSegment (bank id seat fromIx : Nat) (s : State) : Answer :=
  editBank (id = 0) bank (dropIn id seat fromIx) (.seat id seat) s

/-- Whether a live seat holds a segment (R96: CLEAR SEAT tells with a count above 0). -/
def liveSeatHeld (s : State) (id seat : Nat) : Bool :=
  match vehicleIn s.rs.liveBank id with
  | some v => (v.seats[seat]?).any fun l => !l.isEmpty
  | none => false

/-- CLEAR SEAT (R94). -/
def doClearSeat (bank id seat : Nat) (s : State) : Answer :=
  editBank (id = 0) bank (clearIn id seat) (if liveSeatHeld s id seat then .seat id seat else .nothing) s

/-! ## Reading -/

/-- The agreement status READ SEAT carries (R107): reckoned for the list entry of the identity with the record of the target
bank; a free value where no list entry has it (R116, log entry 24). -/
def agreementByte (s : State) (bank : List Vehicle) (id : Nat) : List Byte :=
  match s.cm.entryOf id with
  | some e => u8 (agreement s bank e).code
  | none => [Config.noEntryAgreement]

/-- The seat state READ SEAT carries (R107); UNKNOWN for an identity with no list entry, which cannot agree (R114 case 1). -/
def seatOf (s : State) (bank : List Vehicle) (id q : Nat) : SeatState :=
  match s.cm.entryOf id with
  | some e => seatState s bank e q
  | none => .unknown

/-- READ SEAT (R107). -/
def doReadSeat (bank id seat : Nat) (s : State) : Answer :=
  match Target.ofCode bank with
  | none => refuse s .badField
  | some t =>
    if id = 0 then refuse s .badField
    else if !t.reads s.rs.staging then refuse s .wrongState
    else
      let b := s.rs.bank (s.rs.targetNo t)
      match vehicleIn b id with
      | none => refuse s .notFound
      | some v =>
        match v.seats[seat]? with
        | none => refuse s .outOfRange
        | some l =>
          done s (u8 v.type ++ u8 v.slot ++ counted Segment.bytes l ++ agreementByte s b id ++ (seatOf s b id seat).bytes)

/-- A record in the READ BANKS reply (R108). -/
def vehicleBytes (v : Vehicle) : List Byte := u32 v.id ++ u8 v.type ++ u8 v.slot ++ u16 v.count

/-- A bank in the READ BANKS reply (R108): its counts, then its records. -/
def bankBytes (b : List Vehicle) : List Byte := u8 b.length ++ u16 (segmentCount b) ++ b.flatMap vehicleBytes

/-- READ BANKS (R108). -/
def doReadBanks (s : State) : Answer :=
  let r := s.rs
  done s (u8 r.live.code ++ u8 r.staging.code ++ index? r.staging.trigger ++ flag r.diverged ++ bankBytes r.bank0
    ++ bankBytes r.bank1)

/-! ## Staging -/

/-- The staging state changed. -/
def setStaging (st : Staging) (s : State) : State := s.setRs { s.rs with staging := st }

/-- OPEN STAGING EMPTY (R98). -/
def doOpenStagingEmpty (s : State) : Answer :=
  if s.rs.staging = .closed then done (s.setRs { s.rs with staging := .openEmpty, diverged := false }) []
  else refuse s .wrongState

/-- OPEN STAGING COPY (R99): the staging bank is filled from the live bank as it stands; the result comes back at the
completion (log entry 17). -/
def doOpenStagingCopy (s : State) : Answer :=
  if s.rs.staging = .closed then
    let r := s.rs.setBank s.rs.live.other s.rs.liveBank
    .later (s.setRs { r with staging := .copying, diverged := false, recorded := [] })
  else refuse s .wrongState

/-- The completion of the copy (R100): the recorded purges and deletions are applied in their order, staging becomes
OPEN_COPY, and the reply to OPEN STAGING COPY is built. -/
def completeCopy (s : State) : State :=
  if s.rs.staging = .copying then
    let bank := s.rs.recorded.foldl (fun b x => x.apply b) s.rs.stagingBank
    let r := s.rs.setBank s.rs.live.other bank
    let t := s.setRs { r with staging := .openCopy, diverged := false, recorded := [] }
    finishHead .done (u8 bank.length ++ u16 (segmentCount bank)) t
  else s

/-- The checks of ARM STAGING for a home index (R101). -/
def armCheck (i : Nat) (s : State) : Option ResultCode :=
  match s.jt.phase with
  | .atStop c =>
    if s.jt.homeLast ≤ i then some .outOfRange else if i < c then some .outOfRange else none
  | .running c =>
    if s.jt.homeLast ≤ i then some .outOfRange else if i ≤ c then some .outOfRange else none
  | _ => some .wrongState

/-- The armed state an open state becomes (R101). -/
def Staging.armed (t : Trigger) : Staging → Option Staging
  | .openEmpty => some (.armedEmpty t)
  | .openCopy => some (.armedCopy t)
  | _ => none

/-- ARM STAGING with a home index (R101). -/
def armAt (i : Nat) (s : State) : Answer :=
  match s.rs.staging.armed (.home i) with
  | none => refuse s .wrongState
  | some st =>
    match armCheck i s with
    | some r => refuse s r
    | none => done (setStaging st s) []

/-- ARM STAGING with trigger IMMEDIATE (R102): the switch of R109 at once from the armed state. -/
def doArmStagingImmediate (s : State) : Answer :=
  match s.rs.staging.armed .immediate with
  | none => refuse s .wrongState
  | some st =>
    let t := switchBanks 1 none none (setStaging st s)
    done t (u8 t.rs.live.code)

/-- ARM STAGING (R101, R224): a home index 0 to 39, or 0xFF for IMMEDIATE; any other value is no trigger. -/
def doArmStaging (trigger : Nat) (s : State) : Answer :=
  if trigger = 0xFF then doArmStagingImmediate s
  else if 39 < trigger then refuse s .badField
  else armAt trigger s

/-- DISARM STAGING (R103). -/
def doDisarmStaging (s : State) : Answer :=
  match s.rs.staging with
  | .armedEmpty _ => done (setStaging .openEmpty s) []
  | .armedCopy _ => done (setStaging .openCopy s) []
  | _ => refuse s .wrongState

/-- ABANDON STAGING (R104); in COPYING no request is handled. -/
def doAbandonStaging (s : State) : Answer :=
  if s.rs.staging.open? then
    let r := s.rs.setBank s.rs.live.other []
    done (s.setRs { r with staging := .closed, diverged := false }) (u16 (segmentCount s.rs.stagingBank))
  else refuse s .wrongState

end Sys2Proof.Machine
end

