-- ==== Sys2Proof/Machine/DisplayRequests.lean ====
section
/-! DEFINITION. What the Display Composer does with each of its requests (chapter 5). -/

namespace Sys2Proof.Machine

/-! ## Targets -/

/-- A target that may be ALL (R224): 0 a single identity, 1 ALL; any other value is outside its set (log entry 22). -/
inductive Aim where
  | one
  | all
  deriving DecidableEq, Repr

/-- A target from its code (R224). -/
def Aim.ofCode : Nat → Option Aim
  | 0 => some .one | 1 => some .all | _ => none

/-- Where an identity stands. -/
inductive Place where
  | list (e : Entry)
  | detached (c : Coach)
  | nowhere
  deriving DecidableEq, Repr

/-- The place of an identity: the list, the detached set, or neither. -/
def Cm.placeOf (c : Cm) (id : Nat) : Place :=
  match c.entryOf id with
  | some e => .list e
  | none =>
    match c.detached.find? fun k => k.id = id with
    | some k => .detached k
    | none => .nowhere

/-- The coach at a place. -/
def Place.coach : Place → Option Coach
  | .list e => some e.coach
  | .detached c => some c
  | .nowhere => none

/-! ## Refresh -/

/-- How many kinds of an entry's set are valid. -/
def BlockSet.validCount (b : BlockSet) : Nat := (BlockKind.all.filter fun k => (b.get k).valid).length

/-- REFRESH COACH (R130). -/
def doRefreshCoach (target id : Nat) (s : State) : Answer :=
  match Aim.ofCode target with
  | none => refuse s .badField
  | some .all => done (dirtyBlocks (fun _ => true) s) (u8 s.cm.list.length)
  | some .one =>
    if id = 0 then refuse s .badField
    else
      match s.cm.placeOf id with
      | .nowhere => refuse s .notFound
      | .detached _ => refuse s .wrongState
      | .list e => done (dirtyBlocks (fun x => x.coach.id = id) s) (u8 e.blocks.validCount)

/-! ## Notice stacks -/

/-- The stack of every coach chosen changed, list and detached; the HEADER of a list entry chosen by the test before or
after is marked (R140). -/
def changeStacks (pick : Coach → Bool) (f : List Notice → List Notice) (before after : State → Entry → Bool) (s : State) :
    State :=
  let g (c : Coach) : Coach := if pick c then { c with notices := f c.notices } else c
  let picked := s.cm.list.filter fun e => pick e.coach
  let ids := picked.map (·.coach.id)
  let hit := (picked.filter (before s)).map (·.coach.id)
  let t := s.setCm { s.cm with list := s.cm.list.map (Entry.mapCoach g), detached := s.cm.detached.map g }
  markHeaders (fun e => hit.contains e.coach.id || (ids.contains e.coach.id && after t e)) t

/-- A notice pushed on the stacks chosen; it is chosen for the HEADER exactly when the notice at the top then is. -/
def pushOn (pick : Coach → Bool) (n : Notice) (s : State) : State :=
  changeStacks pick (fun l => n :: l) (fun _ _ => false) (fun t e => chosenPlace t e = some 0) s

/-- The AT_STOP expiry would be over before the notice was shown (R135 check 3). -/
def expiredFor (s : State) (n : Notice) (c : Coach) : Bool :=
  match n.expiry, s.jt.unitIndex c.unit with
  | .atStop i, some x => i ≤ x
  | _, _ => false

/-- A stack that holds 4 notices (R135 check 4). -/
def Coach.full (c : Coach) : Bool := Config.maxNotices ≤ c.notices.length

/-- Every coach, list and detached. -/
def Cm.coaches (c : Cm) : List Coach := c.list.map (·.coach) ++ c.detached

/-- The field checks of PUSH NOTICE (R135 check 1), with the notice carried. -/
def pushedNotice (t : Text) (priority expiry value : Nat) : Option Notice :=
  match Priority.ofCode priority, Expiry.ofFields expiry value with
  | some p, some x => if textIn 1 64 t then some { text := t, priority := p, expiry := x } else none
  | _, _ => none

/-- PUSH NOTICE (R135). -/
def doPushNotice (target id : Nat) (t : Text) (priority expiry value : Nat) (s : State) : Answer :=
  match Aim.ofCode target, pushedNotice t priority expiry value with
  | some .all, some n =>
    let all := s.cm.coaches
    let fresh := all.filter fun c => !expiredFor s n c
    let open_ := fresh.filter fun c => !c.full
    done (pushOn (fun c => !expiredFor s n c && !c.full) n s)
      (u8 open_.length ++ u8 (fresh.length - open_.length) ++ u8 (all.length - fresh.length))
  | some .one, some n =>
    if id = 0 then refuse s .badField
    else
      match (s.cm.placeOf id).coach with
      | none => refuse s .notFound
      | some c =>
        if expiredFor s n c then refuse s .outOfRange
        else if c.full then refuse s .noSpace
        else done (pushOn (fun x => x.id = id) n s) (u8 (c.notices.length + 1))
  | _, _ => refuse s .badField

/-- A notice in a reply: text, priority, expiry (R136, R146, R224). -/
def Notice.bytes (n : Notice) : List Byte := Sys2Proof.Machine.text n.text ++ u8 n.priority.code ++ n.expiry.bytes

/-- POP NOTICE (R136). -/
def doPopNotice (id : Nat) (s : State) : Answer :=
  if id = 0 then refuse s .badField
  else
    match (s.cm.placeOf id).coach with
    | none => refuse s .notFound
    | some c =>
      match c.notices with
      | [] => refuse s .notFound
      | n :: rest =>
        done (changeStacks (fun x => x.id = id) List.tail (fun t e => chosenPlace t e = some 0) (fun _ _ => false) s)
          (n.bytes ++ u8 rest.length)

/-- Every notice of the stacks chosen removed. -/
def clearStacks (pick : Coach → Bool) (s : State) : State :=
  changeStacks pick (fun _ => []) (fun t e => (chosenPlace t e).isSome) (fun _ _ => false) s

/-- CLEAR NOTICES (R137). -/
def doClearNotices (target id : Nat) (s : State) : Answer :=
  match Aim.ofCode target with
  | none => refuse s .badField
  | some .all => done (clearStacks (fun _ => true) s) (u8 (s.cm.coaches.map fun c => c.notices.length).sum)
  | some .one =>
    if id = 0 then refuse s .badField
    else
      match (s.cm.placeOf id).coach with
      | none => refuse s .notFound
      | some c => done (clearStacks (fun x => x.id = id) s) (u8 c.notices.length)

/-! ## Page rotation -/

/-- SET ROTATION ENTRY (R142). -/
def doSetRotationEntry (index page dwell next : Nat) (s : State) : Answer :=
  match PageKind.ofCode page with
  | none => refuse s .badField
  | some p =>
    if 11 < index || 11 < next || dwell < 1 || 255 < dwell then refuse s .badField
    else done (s.setDc { s.dc with table := s.dc.table.set index { page := p, dwell := dwell, next := next } }) []

/-- SET ROTATION START (R143). -/
def doSetRotationStart (index : Nat) (s : State) : Answer :=
  if 11 < index then refuse s .badField else done (s.setDc { s.dc with start := index }) []

/-- READ ROTATION (R145). The fallback is carried as a rotation index that is none, 0xFF (log entry 13). -/
def doReadRotation (s : State) : Answer :=
  let d := s.dc
  done s (d.table.flatMap (fun e => u8 e.page.code ++ u8 e.dwell ++ u8 e.next) ++ u8 d.start ++ index? d.current
    ++ u8 d.dwell ++ u8 d.page.code)

/-! ## Reading a coach's display state -/

/-- The kind of the notice chosen (R140, R225), with the place in the stack of a host notice (R146), 0 at the top
(DESIGN CHOICE, log entry 35). -/
def Chosen.bytes : Chosen → List Byte
  | .none => u8 0
  | .host i _ => u8 1 ++ u8 i
  | .journey (.approaching _) => u8 2
  | .journey (.arriving _) => u8 3
  | .journey (.atPlatform _) => u8 4
  | .journey (.advisory _ _) => u8 5
  | .parted => u8 6

/-- A block in the READ DISPLAY reply (R146). -/
def Block.bytes (b : Block) : List Byte := flag b.valid ++ u8 b.gen ++ flag b.dirty

/-- READ DISPLAY (R146). -/
def doReadDisplay (id : Nat) (s : State) : Answer :=
  if id = 0 then refuse s .badField
  else
    match s.cm.placeOf id with
    | .nowhere => refuse s .notFound
    | .detached c => done s (u8 4 ++ counted Notice.bytes c.notices)
    | .list e =>
      done s (u8 e.state.code ++ s.cm.hopByte id ++ BlockKind.all.flatMap (fun k => (e.blocks.get k).bytes)
        ++ u8 e.refresh.code ++ (chosen s e).bytes ++ counted Notice.bytes e.coach.notices)

end Sys2Proof.Machine
end

