-- ==== Sys2Proof/Machine/LinkRequests.lean ====
section
/-! DEFINITION. What the Backbone Controller does with its reading and supervision requests (chapters 6 and 7), and the
Computer Link Controller with its own (chapters 8 and 9). -/

namespace Sys2Proof.Machine

/-! ## Backbone and supervision -/

/-- READ BACKBONE (R175). -/
def doReadBackbone (s : State) : Answer :=
  let b := s.bc
  done s (u8 b.state.code ++ u8 b.counter ++ u16 b.sent ++ u16 b.aborted ++ u8 b.lastCall.target
    ++ u8 b.lastCall.resultA.code ++ u8 b.lastCall.resultB.code ++ flag b.lastCall.handed)

/-- No flag of a line. -/
def noFlags : LineFlags := .clear

/-- A line in the READ LINE FLAGS reply (R179): its flags in their places of the set, its state, its run counts (log entry
13). -/
def lineBytes (flags : Nat) (l : LineSup) : List Byte :=
  u16 flags ++ u8 l.state.code ++ u8 l.runs.short ++ u8 l.runs.silent ++ u8 l.runs.full

/-- READ LINE FLAGS (R179). -/
def doReadLineFlags (s : State) : Answer :=
  let u := s.sup
  done s (lineBytes (lineSet u.a.flags noFlags false) u.a ++ lineBytes (lineSet noFlags u.b.flags false) u.b
    ++ flag u.mismatch)

/-- Whether a mask names a bit that is no line flag (R224, R225). -/
def strayMask (mask : Nat) : Bool := [5, 6, 7, 13, 14].any fun n => hasBit mask n

/-- A flag named by a mask cleared. -/
def unset (f m : Bool) : Bool := f && !m

/-- CLEAR LINE FLAGS (R180, R224). -/
def doClearLineFlags (mask : Nat) (s : State) : Answer :=
  if strayMask mask then refuse s .badField (u8 1)
  else
    let u := s.sup
    let ma := LineFlags.ofSet mask 0
    let mb := LineFlags.ofSet mask 8
    let mm := hasBit mask 15
    let held := lineSet (u.a.flags.zip (· && ·) ma) (u.b.flags.zip (· && ·) mb) (u.mismatch && mm)
    done (s.setSup { u with a := { u.a with flags := u.a.flags.zip unset ma }
                            b := { u.b with flags := u.b.flags.zip unset mb }
                            mismatch := unset u.mismatch mm }) (u16 held)

/-- A table name, EVEN 0 or ODD 1 (R225). -/
def tableNamed : Nat → Option Nat
  | 0 => some 0 | 1 => some 1 | _ => none

/-- A table's lock state changed. -/
def setLock (which : Nat) (l : LockState) (s : State) : State :=
  s.setSup (s.sup.setTable which { s.sup.table which with lock := l })

/-- The lock state after LOCK TABLE (R190). -/
def NodeTable.lockTaken (t : NodeTable) : LockState :=
  if t.lock = .unlocked then if t.updating then .pending else .locked else t.lock

/-- LOCK TABLE (R190). -/
def doLockTable (table : Nat) (s : State) : Answer :=
  match tableNamed table with
  | none => refuse s .badField
  | some n =>
    let l := (s.sup.table n).lockTaken
    done (setLock n l s) (u8 l.code)

/-- UNLOCK TABLE (R191). -/
def doUnlockTable (table : Nat) (s : State) : Answer :=
  match tableNamed table with
  | none => refuse s .badField
  | some n => done (setLock n .unlocked s) (u8 (LockState.code .unlocked))

/-- SET CAPTURE (R192). -/
def doSetCapture (mode : Nat) (s : State) : Answer :=
  match mode with
  | 0 => done (s.setSup { s.sup with capture := .continuous }) []
  | 1 => done (s.setSup { s.sup with capture := .waiting }) []
  | _ => refuse s .badField

/-- A line part in the READ TABLE reply (R194, R186): 7 bytes; without VALID the absent fields carry free values (log entry
12). -/
def LinePart.bytes (p : LinePart) : List Byte :=
  u8 p.result.code ++
    match p.seen with
    | some x => u32 x.id ++ u8 x.hop ++ u8 x.faults
    | none => identity? none ++ [Config.noHop, Config.noFaults]

/-- A row in the READ TABLE reply (R194): 20 bytes. -/
def Row.bytes (r : Row) : List Byte :=
  identity? r.addressed ++ r.partA.bytes ++ r.partB.bytes ++ u8 (lineCode r.used) ++ u8 r.ack.code

/-- A cycle number that may be none (R194, log entry 12). -/
def cycle? : Option Nat → List Byte
  | some n => u8 n
  | none => [Config.noCycle]

/-- READ TABLE (R194). -/
def doReadTable (table : Nat) (s : State) : Answer :=
  match tableNamed table with
  | none => refuse s .badField
  | some n =>
    let t := s.sup.table n
    done s (flag t.valid ++ cycle? t.cycle ++ flag t.updating ++ u8 t.lock.code ++ u8 s.sup.capture.code
      ++ s.sup.capture.progress ++ t.rows.flatMap Row.bytes)

/-! ## Computer Link Controller -/

/-- The characters of the part name, "Scelvia P16" (R207). -/
def partName : Text := bytesOf [0x53, 0x63, 0x65, 0x6C, 0x76, 0x69, 0x61, 0x20, 0x50, 0x31, 0x36]

/-- The part description (R207, R227). -/
def description (rate : Nat) : List Byte :=
  u16 29 ++ text partName ++ u8 Config.revision ++ u8 rate ++ u8 4 ++ u8 Config.maxStops ++ u8 Config.maxPortions
    ++ u8 Config.maxEntries ++ u8 Config.maxTypes ++ u8 Config.maxVehicles ++ u8 Config.maxSeatSegments
    ++ u16 Config.maxBankSegments ++ u8 Config.maxNotices ++ u8 Config.rotationSize ++ u8 Config.maxRequests
    ++ u8 Config.maxReports

/-- DESCRIBE PART (R207). -/
def doDescribePart (length : Nat) (s : State) : Answer :=
  if length = 0 then refuse s .badField (u8 1) else done s ((description s.clc.rate).take length)

/-- LINK RESET (R208): the requests behind the head, the reports, the settings and LINK_ERROR. -/
def doLinkReset (s : State) : Answer :=
  done (s.setClc { s.clc with queue := s.clc.queue.take 1, reports := [], overflow := false, drops := 0, enabled := .all,
                              order := .a, linkError := false }) []

/-- PART RESET (R209): its reply first; the reset follows when the reply has been sent. -/
def doPartReset (s : State) : Answer := done s []

/-- The sending order from its code (R224). -/
def Order.ofCode : Nat → Option Order
  | 0 => some .a | 1 => some .b | _ => none

/-- A set of classes that SET REPORTING refuses: READY or a class above 5 (R218). -/
def strayClasses (classes : Nat) : Bool := [0, 6, 7].any fun n => hasBit classes n

/-- SET REPORTING (R218). -/
def doSetReporting (classes order : Nat) (s : State) : Answer :=
  match Order.ofCode order with
  | none => refuse s .badField
  | some o =>
    if strayClasses classes then refuse s .badField
    else
      let on := Enabled.ofSet classes
      let kept := s.clc.reports.filter fun r => on.has r.cls
      done (s.setClc { s.clc with enabled := on, order := o, reports := kept })
        (u8 (s.clc.reports.length - kept.length))

/-- ACK ALARMS (R220, R221): the named flags whose condition does not hold are cleared. -/
def doAckAlarms (flags : Nat) (s : State) : Answer :=
  if 64 ≤ flags then refuse s .badField
  else
    let a := s.clc.alarms
    let named := (Alarms.ofSet flags).zip (· && ·) a
    let holds := conditions s
    let cleared := named.zip unset holds
    let left := named.zip (· && ·) holds
    let after := a.zip unset cleared
    done (s.setClc { s.clc with alarms := after }) (u8 (bitSet cleared.bits) ++ u8 (bitSet left.bits)
      ++ u8 (bitSet after.bits))

/-- The number of list entries in a state. -/
def Cm.countOf (c : Cm) (st : EntryState) : Nat := (c.list.filter fun e => e.state = st).length

/-- SUMMARY (R223); a reply that carries LINK_ERROR as set clears it (R200). -/
def doSummary (s : State) : Answer :=
  let c := s.clc
  done (s.setClc { c with linkError := false })
    (u8 (bitSet c.alarms.bits) ++ u8 (bitSet (conditions s).bits)
      ++ flag s.sup.a.flags.any ++ flag s.sup.b.flags.any ++ flag s.sup.mismatch
      ++ u8 s.sup.a.state.code ++ u8 s.sup.b.state.code ++ flag c.linkError
      ++ u8 c.reports.length ++ flag c.overflow ++ u8 c.drops
      ++ u8 (s.cm.countOf .probation) ++ u8 (s.cm.countOf .active) ++ u8 (s.cm.countOf .mute)
      ++ u8 (s.cm.countOf .departing) ++ u8 s.cm.detached.length
      ++ u8 s.jt.phase.code ++ u8 s.rs.staging.code)

end Sys2Proof.Machine
end

