-- ==== Sys2Proof/WellFormed.lean ====
section
/-! DEFINITION. Well-formed commands: each operand fits the field that carries it on the link (R196, R224), the length
of a frame's payload is at most 638 (R196), and an operand that selects the row has the value that selects it. A value
outside its SET (a slot 7) is well formed: the owning block refuses it. -/

namespace Sys2Proof

/-- Fits a field of one byte. -/
def fits8 (n : Nat) : Bool := n < 256
/-- Fits a field of two bytes. -/
def fits16 (n : Nat) : Bool := n < 65536
/-- Fits a field of four bytes. -/
def fits32 (n : Nat) : Bool := n < 4294967296
/-- A text's length fits its length byte (R224). -/
def fitsText (t : Text) : Bool := t.length < 256

/-- Bytes of a stop record of APPEND STOPS (R227). -/
def StopFields.size (f : StopFields) : Nat := 14 + f.name.length

/-- The fields of a stop record fit (R224, R227). -/
def StopFields.wf (f : StopFields) : Bool :=
  fits16 f.code && fitsText f.name && fits32 f.leg && fits8 f.side && fits16 f.approach && fits16 f.announce
    && fits16 f.column

/-- The fields of the odometer configuration fit (R224). -/
def OdoConfig.wf (c : OdoConfig) : Bool :=
  fits32 c.pulseLen && fits8 c.shift && fits32 c.vmin && fits32 c.creep && fits8 c.correction && fits32 c.offset
    && fits32 c.minLeg && fits8 c.skipLimit

/-- The request kinds of section 8.8, in increasing order. -/
def requestKinds : List Nat :=
  [0x01, 0x02, 0x03, 0x04, 0x05, 0x06] ++
  [0x10, 0x11, 0x12, 0x13, 0x14, 0x15, 0x16, 0x17, 0x18, 0x19, 0x1A, 0x1B, 0x1C, 0x1D, 0x1E, 0x1F] ++
  [0x20, 0x21, 0x22, 0x23, 0x24, 0x25, 0x26, 0x27, 0x28, 0x29] ++
  [0x30, 0x31, 0x32, 0x33, 0x34, 0x35, 0x36, 0x37, 0x38, 0x39, 0x3A, 0x3B] ++
  [0x40, 0x41, 0x42, 0x43, 0x44, 0x45, 0x46, 0x47] ++
  [0x50, 0x51, 0x52, 0x53, 0x54, 0x55, 0x56]

/-- A command whose operands its frame or its pins can carry. -/
def Instr.wf : Instr → Bool
  | .describePart tag length => fits8 tag && fits16 length
  | .linkReset tag => fits8 tag
  | .partReset tag => fits8 tag
  | .setReporting tag classes order => fits8 tag && fits8 classes && fits8 order
  | .ackAlarms tag flags => fits8 tag && fits8 flags
  | .summary tag => fits8 tag
  | .unknownRequestKind kind tag => fits8 tag && decide (kind < 0x60) && !requestKinds.contains kind
  | .openRoute tag slot code dest => fits8 tag && fits8 slot && fits16 code && fitsText dest
  | .appendStops tag slot stops =>
      fits8 tag && fits8 slot && decide (stops.length < 256) && stops.all StopFields.wf
        && decide (2 + (stops.map StopFields.size).sum ≤ 638)
  | .closeRoute tag slot => fits8 tag && fits8 slot
  | .dropRoute tag slot => fits8 tag && fits8 slot
  | .readRoute tag slot first count => fits8 tag && fits8 slot && fits8 first && fits8 count
  | .cancelStop tag slot index => fits8 tag && fits8 slot && fits8 index
  | .restoreStop tag slot index => fits8 tag && fits8 slot && fits8 index
  | .assignUnitHome tag unit slot index partAt =>
      fits8 tag && fits16 unit && fits8 slot && fits8 index && fits8 partAt
  | .assignUnit tag unit slot index partAt =>
      fits8 tag && fits16 unit && fits8 slot && fits8 index && fits8 partAt
  | .endJourney tag => fits8 tag
  | .departed tag => fits8 tag
  | .arrived tag code => fits8 tag && fits16 code
  | .setDirection tag direction => fits8 tag && fits8 direction
  | .setTime tag minute => fits8 tag && fits16 minute
  | .configureOdometer tag params => fits8 tag && params.wf
  | .positionFix tag x => fits8 tag && fits32 x
  | .readJourney tag => fits8 tag
  | .configureSurvey tag attempts pairs => fits8 tag && fits8 attempts && fits8 pairs
  | .startBackbone tag => fits8 tag
  | .stopBackbone tag => fits8 tag
  | .survey tag => fits8 tag
  | .split tag unit => fits8 tag && fits16 unit
  | .removeEntry tag vehicle => fits8 tag && fits32 vehicle
  | .readConsist tag => fits8 tag
  | .defineType tag code seats labels =>
      fits8 tag && fits8 code && fits8 seats && decide (labels.length < 256) && labels.all fitsText
        && decide (3 + (labels.map fun l => 1 + l.length).sum ≤ 638)
  | .deleteType tag code => fits8 tag && fits8 code
  | .readType tag code length => fits8 tag && fits8 code && fits16 length
  | .declareVehicle tag bank vehicle type slot =>
      fits8 tag && fits8 bank && fits32 vehicle && fits8 type && fits8 slot
  | .removeVehicle tag bank vehicle => fits8 tag && fits8 bank && fits32 vehicle
  | .addSegment tag bank vehicle seat fromIx toIx kind label =>
      fits8 tag && fits8 bank && fits32 vehicle && fits8 seat && fits8 fromIx && fits8 toIx && fits8 kind
        && fitsText label
  | .dropSegment tag bank vehicle seat fromIx =>
      fits8 tag && fits8 bank && fits32 vehicle && fits8 seat && fits8 fromIx
  | .clearSeat tag bank vehicle seat => fits8 tag && fits8 bank && fits32 vehicle && fits8 seat
  | .readSeat tag bank vehicle seat => fits8 tag && fits8 bank && fits32 vehicle && fits8 seat
  | .readBanks tag => fits8 tag
  | .openStagingEmpty tag => fits8 tag
  | .openStagingCopy tag => fits8 tag
  | .copyCompletion => true
  | .armStaging tag trigger => fits8 tag && fits8 trigger && trigger != 0xFF
  | .armStagingImmediate tag => fits8 tag
  | .disarmStaging tag => fits8 tag
  | .abandonStaging tag => fits8 tag
  | .refreshCoach tag target vehicle => fits8 tag && fits8 target && fits32 vehicle
  | .pushNotice tag target vehicle text priority expiry value =>
      fits8 tag && fits8 target && fits32 vehicle && fitsText text && fits8 priority && fits8 expiry && fits16 value
  | .popNotice tag vehicle => fits8 tag && fits32 vehicle
  | .clearNotices tag target vehicle => fits8 tag && fits8 target && fits32 vehicle
  | .setRotationEntry tag index page dwell next =>
      fits8 tag && fits8 index && fits8 page && fits8 dwell && fits8 next
  | .setRotationStart tag index => fits8 tag && fits8 index
  | .readRotation tag => fits8 tag
  | .readDisplay tag vehicle => fits8 tag && fits32 vehicle
  | .readBackbone tag => fits8 tag
  | .readLineFlags tag => fits8 tag
  | .clearLineFlags tag mask => fits8 tag && fits16 mask
  | .lockTable tag table => fits8 tag && fits8 table
  | .unlockTable tag table => fits8 tag && fits8 table
  | .setCapture tag mode => fits8 tag && fits8 mode
  | .readTable tag table => fits8 tag && fits8 table
  | .odoPulse => true
  | .odometerWindowExpiry => true
  | .minuteTimerExpiry => true
  | .cycleEnd => true
  | .cycleStart => true
  | .coachSlotStart => true
  | .contentFrameComplete => true
  | .backboneFrameReceived _ at_ _ => decide (at_ < 3000)
  | .coachSlotEnd => true
  | .callWindowStart => true
  | .callWindowEnd => true
  | .quietGapStart => true
  | .linkCharacterReceived _ => true
  | .linkGapTimerExpiry => true
  | .transmitterFrameEnd => true
  | .resetnLow => true
  | .resetnHigh _ _ => true
  | .ready => true

end Sys2Proof
end

