-- ==== Sys2Proof/Machine/Operands.lean ====
section
/-! DEFINITION. The payload of a request read as the command it spells (R203, R224, R227): none where the payload does not
match the layout of its kind. -/

namespace Sys2Proof.Machine

/-- A big-endian number (R224). -/
def numberOf (bytes : List Byte) : Nat := bytes.foldl (fun n b => 256 * n + b.toNat) 0

/-- A field of a width read from the front of a payload. -/
def takeField (w : Nat) (p : List Byte) : Option (Nat × List Byte) :=
  if w ≤ p.length then some (numberOf (p.take w), p.drop w) else none

/-- A text with its length byte read from the front of a payload (R224). -/
def takeText : List Byte → Option (Text × List Byte)
  | [] => none
  | n :: p => if n.toNat ≤ p.length then some (p.take n.toNat, p.drop n.toNat) else none

/-- Fields of the widths given read from the front of a payload. -/
def takeFields : List Nat → List Byte → Option (List Nat × List Byte)
  | [], p => some ([], p)
  | w :: ws, p =>
    match takeField w p with
    | some (n, q) => (takeFields ws q).map fun x => (n :: x.1, x.2)
    | none => none

/-- A fixed layout: fields of the widths given, and nothing after them (R203). -/
def fields (ws : List Nat) (p : List Byte) : Option (List Nat) :=
  match takeFields ws p with
  | some (ns, []) => some ns
  | _ => none

/-- A number of records, one after another. -/
def takeMany {α : Type} (f : List Byte → Option (α × List Byte)) : Nat → List Byte → Option (List α × List Byte)
  | 0, p => some ([], p)
  | n + 1, p =>
    match f p with
    | some (x, q) => (takeMany f n q).map fun y => (x :: y.1, y.2)
    | none => none

/-- A list: a count byte, then the entries, and nothing after them (R203, R224). -/
def listOf {α : Type} (f : List Byte → Option (α × List Byte)) : List Byte → Option (List α)
  | [] => none
  | n :: p =>
    match takeMany f n.toNat p with
    | some (l, []) => some l
    | _ => none

/-- A stop record of APPEND STOPS (R227). -/
def takeStop (p : List Byte) : Option (StopFields × List Byte) :=
  match takeField 2 p with
  | none => none
  | some (code, p1) =>
    match takeText p1 with
    | none => none
    | some (name, p2) =>
      match takeFields [4, 1, 2, 2, 2] p2 with
      | some ([leg, side, approach, announce, column], p3) =>
        some ({ code := code, name := name, leg := leg, side := side, approach := approach, announce := announce,
                column := column }, p3)
      | _ => none

/-- Fixed fields, then a text, then nothing. -/
def fieldsText (ws : List Nat) (p : List Byte) : Option (List Nat × Text) :=
  match takeFields ws p with
  | some (ns, q) =>
    match takeText q with
    | some (t, []) => some (ns, t)
    | _ => none
  | none => none

/-- Kinds with no field. -/
def bare (c : Instr) (p : List Byte) : Option Instr := if p = [] then some c else none

/-- Kinds with one field of a width. -/
def one (w : Nat) (c : Nat → Instr) (p : List Byte) : Option Instr :=
  match fields [w] p with
  | some [a] => some (c a)
  | _ => none

/-- Kinds with two fields. -/
def two (w x : Nat) (c : Nat → Nat → Instr) (p : List Byte) : Option Instr :=
  match fields [w, x] p with
  | some [a, b] => some (c a b)
  | _ => none

/-- Kinds with three fields. -/
def three (w x y : Nat) (c : Nat → Nat → Nat → Instr) (p : List Byte) : Option Instr :=
  match fields [w, x, y] p with
  | some [a, b, d] => some (c a b d)
  | _ => none

/-- Kinds with four fields. -/
def four (w x y z : Nat) (c : Nat → Nat → Nat → Nat → Instr) (p : List Byte) : Option Instr :=
  match fields [w, x, y, z] p with
  | some [a, b, d, e] => some (c a b d e)
  | _ => none

/-- ASSIGN UNIT (R14): unit, slot, own index, part-at, HOME flag; any flag but 0 is set (R224). -/
def parseAssign (tag : Nat) (p : List Byte) : Option Instr :=
  match fields [2, 1, 1, 1, 1] p with
  | some [unit, slot, index, partAt, home] =>
    if home = 0 then some (.assignUnit tag unit slot index partAt) else some (.assignUnitHome tag unit slot index partAt)
  | _ => none

/-- OPEN ROUTE (R3): slot, route code, destination. -/
def parseOpenRoute (tag : Nat) (p : List Byte) : Option Instr :=
  match fieldsText [1, 2] p with
  | some ([slot, code], dest) => some (.openRoute tag slot code dest)
  | _ => none

/-- APPEND STOPS (R4, R227): slot, list of stop records. -/
def parseAppendStops (tag : Nat) (p : List Byte) : Option Instr :=
  match takeField 1 p with
  | some (slot, q) => (listOf takeStop q).map fun stops => .appendStops tag slot stops
  | none => none

/-- CONFIGURE ODOMETER (R30): the eight parameters in the order of R29. -/
def parseOdometer (tag : Nat) (p : List Byte) : Option Instr :=
  match fields [4, 1, 4, 4, 1, 4, 4, 1] p with
  | some [l, k, vmin, creep, correction, offset, minLeg, skipLimit] =>
    some (.configureOdometer tag { pulseLen := l, shift := k, vmin := vmin, creep := creep, correction := correction,
                                   offset := offset, minLeg := minLeg, skipLimit := skipLimit })
  | _ => none

/-- DEFINE TYPE (R84, R227): code, seat count, list of labels. -/
def parseDefineType (tag : Nat) (p : List Byte) : Option Instr :=
  match takeFields [1, 1] p with
  | some ([code, seats], q) => (listOf takeText q).map fun labels => .defineType tag code seats labels
  | _ => none

/-- ADD SEGMENT (R92, R227): bank, identity, seat, then the segment record. -/
def parseAddSegment (tag : Nat) (p : List Byte) : Option Instr :=
  match fieldsText [1, 4, 1, 1, 1, 1] p with
  | some ([bank, id, seat, fromIx, toIx, kind], label) => some (.addSegment tag bank id seat fromIx toIx kind label)
  | _ => none

/-- ARM STAGING (R101, R224): 0xFF is IMMEDIATE. -/
def parseArm (tag : Nat) (p : List Byte) : Option Instr :=
  one 1 (fun t => if t = 0xFF then .armStagingImmediate tag else .armStaging tag t) p

/-- PUSH NOTICE (R135, R224): target, identity, text, priority, expiry kind and value. -/
def parsePush (tag : Nat) (p : List Byte) : Option Instr :=
  match takeFields [1, 4] p with
  | some ([target, id], q) =>
    match takeText q with
    | some (t, r) =>
      match fields [1, 1, 2] r with
      | some [priority, expiry, value] => some (.pushNotice tag target id t priority expiry value)
      | _ => none
    | none => none
  | _ => none

/-- The command a request frame of a kind spells (section 8.8). -/
def parseRequest (kind tag : Nat) (p : List Byte) : Option Instr :=
  match kind with
  | 0x01 => one 2 (.describePart tag) p
  | 0x02 => bare (.linkReset tag) p
  | 0x03 => bare (.partReset tag) p
  | 0x04 => two 1 1 (.setReporting tag) p
  | 0x05 => one 1 (.ackAlarms tag) p
  | 0x06 => bare (.summary tag) p
  | 0x10 => parseOpenRoute tag p
  | 0x11 => parseAppendStops tag p
  | 0x12 => one 1 (.closeRoute tag) p
  | 0x13 => one 1 (.dropRoute tag) p
  | 0x14 => three 1 1 1 (.readRoute tag) p
  | 0x15 => two 1 1 (.cancelStop tag) p
  | 0x16 => two 1 1 (.restoreStop tag) p
  | 0x17 => parseAssign tag p
  | 0x18 => bare (.endJourney tag) p
  | 0x19 => bare (.departed tag) p
  | 0x1A => one 2 (.arrived tag) p
  | 0x1B => one 1 (.setDirection tag) p
  | 0x1C => one 2 (.setTime tag) p
  | 0x1D => parseOdometer tag p
  | 0x1E => one 4 (.positionFix tag) p
  | 0x1F => bare (.readJourney tag) p
  | 0x20 => two 1 1 (.configureSurvey tag) p
  | 0x21 => bare (.startBackbone tag) p
  | 0x22 => bare (.stopBackbone tag) p
  | 0x23 => bare (.survey tag) p
  | 0x24 => one 2 (.split tag) p
  | 0x25 => one 4 (.removeEntry tag) p
  | 0x26 => bare (.readConsist tag) p
  | 0x27 => parseDefineType tag p
  | 0x28 => one 1 (.deleteType tag) p
  | 0x29 => two 1 2 (.readType tag) p
  | 0x30 => four 1 4 1 1 (.declareVehicle tag) p
  | 0x31 => two 1 4 (.removeVehicle tag) p
  | 0x32 => parseAddSegment tag p
  | 0x33 => four 1 4 1 1 (.dropSegment tag) p
  | 0x34 => three 1 4 1 (.clearSeat tag) p
  | 0x35 => three 1 4 1 (.readSeat tag) p
  | 0x36 => bare (.readBanks tag) p
  | 0x37 => bare (.openStagingEmpty tag) p
  | 0x38 => bare (.openStagingCopy tag) p
  | 0x39 => parseArm tag p
  | 0x3A => bare (.disarmStaging tag) p
  | 0x3B => bare (.abandonStaging tag) p
  | 0x40 => two 1 4 (.refreshCoach tag) p
  | 0x41 => parsePush tag p
  | 0x42 => one 4 (.popNotice tag) p
  | 0x43 => two 1 4 (.clearNotices tag) p
  | 0x44 => four 1 1 1 1 (.setRotationEntry tag) p
  | 0x45 => one 1 (.setRotationStart tag) p
  | 0x46 => bare (.readRotation tag) p
  | 0x47 => one 4 (.readDisplay tag) p
  | 0x50 => bare (.readBackbone tag) p
  | 0x51 => bare (.readLineFlags tag) p
  | 0x52 => one 2 (.clearLineFlags tag) p
  | 0x53 => one 1 (.lockTable tag) p
  | 0x54 => one 1 (.unlockTable tag) p
  | 0x55 => one 1 (.setCapture tag) p
  | 0x56 => one 1 (.readTable tag) p
  | _ => none

/-! ## The payload of a request frame -/

/-- A stop record as APPEND STOPS carries it (R227). -/
def stopRecord (f : StopFields) : List Byte :=
  u16 f.code ++ text f.name ++ u32 f.leg ++ u8 f.side ++ u16 f.approach ++ u16 f.announce ++ u16 f.column

/-- The payload of the frame of a request (R224, R227); empty for a command that is no request. -/
def requestPayload : Instr → List Byte
  | .describePart _ length => u16 length
  | .linkReset _ => []
  | .partReset _ => []
  | .setReporting _ classes order => u8 classes ++ u8 order
  | .ackAlarms _ flags => u8 flags
  | .summary _ => []
  | .unknownRequestKind _ _ => []
  | .openRoute _ slot code dest => u8 slot ++ u16 code ++ text dest
  | .appendStops _ slot stops => u8 slot ++ counted stopRecord stops
  | .closeRoute _ slot => u8 slot
  | .dropRoute _ slot => u8 slot
  | .readRoute _ slot first count => u8 slot ++ u8 first ++ u8 count
  | .cancelStop _ slot index => u8 slot ++ u8 index
  | .restoreStop _ slot index => u8 slot ++ u8 index
  | .assignUnitHome _ unit slot index partAt => u16 unit ++ u8 slot ++ u8 index ++ u8 partAt ++ u8 1
  | .assignUnit _ unit slot index partAt => u16 unit ++ u8 slot ++ u8 index ++ u8 partAt ++ u8 0
  | .endJourney _ => []
  | .departed _ => []
  | .arrived _ code => u16 code
  | .setDirection _ direction => u8 direction
  | .setTime _ minute => u16 minute
  | .configureOdometer _ c =>
    u32 c.pulseLen ++ u8 c.shift ++ u32 c.vmin ++ u32 c.creep ++ u8 c.correction ++ u32 c.offset ++ u32 c.minLeg
      ++ u8 c.skipLimit
  | .positionFix _ x => u32 x
  | .readJourney _ => []
  | .configureSurvey _ attempts pairs => u8 attempts ++ u8 pairs
  | .startBackbone _ => []
  | .stopBackbone _ => []
  | .survey _ => []
  | .split _ unit => u16 unit
  | .removeEntry _ vehicle => u32 vehicle
  | .readConsist _ => []
  | .defineType _ code seats labels => u8 code ++ u8 seats ++ counted text labels
  | .deleteType _ code => u8 code
  | .readType _ code length => u8 code ++ u16 length
  | .declareVehicle _ bank vehicle type slot => u8 bank ++ u32 vehicle ++ u8 type ++ u8 slot
  | .removeVehicle _ bank vehicle => u8 bank ++ u32 vehicle
  | .addSegment _ bank vehicle seat fromIx toIx kind label =>
    u8 bank ++ u32 vehicle ++ u8 seat ++ u8 fromIx ++ u8 toIx ++ u8 kind ++ text label
  | .dropSegment _ bank vehicle seat fromIx => u8 bank ++ u32 vehicle ++ u8 seat ++ u8 fromIx
  | .clearSeat _ bank vehicle seat => u8 bank ++ u32 vehicle ++ u8 seat
  | .readSeat _ bank vehicle seat => u8 bank ++ u32 vehicle ++ u8 seat
  | .readBanks _ => []
  | .openStagingEmpty _ => []
  | .openStagingCopy _ => []
  | .copyCompletion => []
  | .armStaging _ trigger => u8 trigger
  | .armStagingImmediate _ => u8 0xFF
  | .disarmStaging _ => []
  | .abandonStaging _ => []
  | .refreshCoach _ target vehicle => u8 target ++ u32 vehicle
  | .pushNotice _ target vehicle t priority expiry value =>
    u8 target ++ u32 vehicle ++ text t ++ u8 priority ++ u8 expiry ++ u16 value
  | .popNotice _ vehicle => u32 vehicle
  | .clearNotices _ target vehicle => u8 target ++ u32 vehicle
  | .setRotationEntry _ index page dwell next => u8 index ++ u8 page ++ u8 dwell ++ u8 next
  | .setRotationStart _ index => u8 index
  | .readRotation _ => []
  | .readDisplay _ vehicle => u32 vehicle
  | .readBackbone _ => []
  | .readLineFlags _ => []
  | .clearLineFlags _ mask => u16 mask
  | .lockTable _ table => u8 table
  | .unlockTable _ table => u8 table
  | .setCapture _ mode => u8 mode
  | .readTable _ table => u8 table
  | .odoPulse => []
  | .odometerWindowExpiry => []
  | .minuteTimerExpiry => []
  | .cycleEnd => []
  | .cycleStart => []
  | .coachSlotStart => []
  | .contentFrameComplete => []
  | .backboneFrameReceived _ _ _ => []
  | .coachSlotEnd => []
  | .callWindowStart => []
  | .callWindowEnd => []
  | .quietGapStart => []
  | .linkCharacterReceived _ => []
  | .linkGapTimerExpiry => []
  | .transmitterFrameEnd => []
  | .resetnLow => []
  | .resetnHigh _ _ => []
  | .ready => []

end Sys2Proof.Machine
end

