-- ==== Sys2Proof/Machine/Link.lean ====
section
/-! DEFINITION. The computer link (chapter 8): the hand-over of a request to the block that owns its kind (section 8.8), the
request queue (R201 to R203), the receiver (R198, R199), the transmitter (R206), the frames it sends (R226), the characters
on its two pins (R195) and the resets (R210 to R212). -/

namespace Sys2Proof.Machine

/-! ## The request queue -/

/-- What the owning block of a request does with it (section 8.8). A command that is no request has no owning block. -/
def act : Instr → State → Answer
  | .describePart _ length, s => doDescribePart length s
  | .linkReset _, s => doLinkReset s
  | .partReset _, s => doPartReset s
  | .setReporting _ classes order, s => doSetReporting classes order s
  | .ackAlarms _ flags, s => doAckAlarms flags s
  | .summary _, s => doSummary s
  | .openRoute _ slot code dest, s => doOpenRoute slot code dest s
  | .appendStops _ slot stops, s => doAppendStops slot stops s
  | .closeRoute _ slot, s => doCloseRoute slot s
  | .dropRoute _ slot, s => doDropRoute slot s
  | .readRoute _ slot first count, s => doReadRoute slot first count s
  | .cancelStop _ slot index, s => doCancelStop slot index s
  | .restoreStop _ slot index, s => doRestoreStop slot index s
  | .assignUnitHome _ unit slot index partAt, s => doAssignUnitHome unit slot index partAt s
  | .assignUnit _ unit slot index partAt, s => doAssignUnit unit slot index partAt s
  | .endJourney _, s => doEndJourney s
  | .departed _, s => doDeparted s
  | .arrived _ code, s => doArrived code s
  | .setDirection _ direction, s => doSetDirection direction s
  | .setTime _ minute, s => doSetTime minute s
  | .configureOdometer _ params, s => doConfigureOdometer params s
  | .positionFix _ x, s => doPositionFix x s
  | .readJourney _, s => doReadJourney s
  | .configureSurvey _ attempts pairs, s => doConfigureSurvey attempts pairs s
  | .startBackbone _, s => doStartBackbone s
  | .stopBackbone _, s => doStopBackbone s
  | .survey _, s => doSurvey s
  | .split _ unit, s => doSplit unit s
  | .removeEntry _ vehicle, s => doRemoveEntry vehicle s
  | .readConsist _, s => doReadConsist s
  | .defineType _ code seats labels, s => doDefineType code seats labels s
  | .deleteType _ code, s => doDeleteType code s
  | .readType _ code length, s => doReadType code length s
  | .declareVehicle _ bank vehicle type slot, s => doDeclareVehicle bank vehicle type slot s
  | .removeVehicle _ bank vehicle, s => doRemoveVehicle bank vehicle s
  | .addSegment _ bank vehicle seat fromIx toIx kind label, s => doAddSegment bank vehicle seat fromIx toIx kind label s
  | .dropSegment _ bank vehicle seat fromIx, s => doDropSegment bank vehicle seat fromIx s
  | .clearSeat _ bank vehicle seat, s => doClearSeat bank vehicle seat s
  | .readSeat _ bank vehicle seat, s => doReadSeat bank vehicle seat s
  | .readBanks _, s => doReadBanks s
  | .openStagingEmpty _, s => doOpenStagingEmpty s
  | .openStagingCopy _, s => doOpenStagingCopy s
  | .armStaging _ trigger, s => doArmStaging trigger s
  | .armStagingImmediate _, s => doArmStagingImmediate s
  | .disarmStaging _, s => doDisarmStaging s
  | .abandonStaging _, s => doAbandonStaging s
  | .refreshCoach _ target vehicle, s => doRefreshCoach target vehicle s
  | .pushNotice _ target vehicle t priority expiry value, s => doPushNotice target vehicle t priority expiry value s
  | .popNotice _ vehicle, s => doPopNotice vehicle s
  | .clearNotices _ target vehicle, s => doClearNotices target vehicle s
  | .setRotationEntry _ index page dwell next, s => doSetRotationEntry index page dwell next s
  | .setRotationStart _ index, s => doSetRotationStart index s
  | .readRotation _, s => doReadRotation s
  | .readDisplay _ vehicle, s => doReadDisplay vehicle s
  | .readBackbone _, s => doReadBackbone s
  | .readLineFlags _, s => doReadLineFlags s
  | .clearLineFlags _ mask, s => doClearLineFlags mask s
  | .lockTable _ table, s => doLockTable table s
  | .unlockTable _ table, s => doUnlockTable table s
  | .setCapture _ mode, s => doSetCapture mode s
  | .readTable _ table, s => doReadTable table s
  | .unknownRequestKind _ _, s => refuse s .unknownKind
  | .copyCompletion, s => refuse s .unknownKind
  | .odoPulse, s => refuse s .unknownKind
  | .odometerWindowExpiry, s => refuse s .unknownKind
  | .minuteTimerExpiry, s => refuse s .unknownKind
  | .cycleEnd, s => refuse s .unknownKind
  | .cycleStart, s => refuse s .unknownKind
  | .coachSlotStart, s => refuse s .unknownKind
  | .contentFrameComplete, s => refuse s .unknownKind
  | .backboneFrameReceived _ _ _, s => refuse s .unknownKind
  | .coachSlotEnd, s => refuse s .unknownKind
  | .callWindowStart, s => refuse s .unknownKind
  | .callWindowEnd, s => refuse s .unknownKind
  | .quietGapStart, s => refuse s .unknownKind
  | .linkCharacterReceived _, s => refuse s .unknownKind
  | .linkGapTimerExpiry, s => refuse s .unknownKind
  | .transmitterFrameEnd, s => refuse s .unknownKind
  | .resetnLow, s => refuse s .unknownKind
  | .resetnHigh _ _, s => refuse s .unknownKind
  | .ready, s => refuse s .unknownKind

/-- The two checks of R203, then the owning block. -/
def answerOf (q : Queued) (s : State) : Answer :=
  if !requestKinds.contains q.kind then refuse s .unknownKind
  else
    match q.command with
    | none => refuse s .badField (u8 0)
    | some c => act c s

/-- A result that came back at once makes the reply (R202, R204). -/
def settle : Answer → State
  | .now s r data => finishHead r data s
  | .later s => s

/-- A WAITING head begins to be handled (R202). -/
def beginHead (s : State) : State :=
  match s.clc.queue with
  | q :: rest =>
    if q.state = .waiting then
      settle (answerOf q (s.setClc { s.clc with queue := { q with state := .handling } :: rest }))
    else s
  | [] => s

/-- LINK_ERROR set (R199, R200). -/
def setLinkError (s : State) : State := s.setClc { s.clc with linkError := true }

/-- Whether the transmitter sends a reply. -/
def Transmitter.replying : Transmitter → Bool
  | .reply _ => true
  | _ => false

/-- The QUEUE_FULL replies in the reply list. -/
def Clc.refusals (c : Clc) : Nat := (c.replies.filter fun r => !r.forHead).length

/-- The arrival of a well-formed frame (R201, R202). No frame arrives before the controller takes frames (R211, R212). -/
def arrive (q : Queued) (s : State) : State :=
  if s.clc.ready ≠ .up then s
  else if s.clc.queue.length < Config.maxRequests then
    let t := s.setClc { s.clc with queue := s.clc.queue ++ [q] }
    if s.clc.queue = [] && !s.clc.tx.replying then beginHead t else t
  else if s.clc.refusals < Config.maxRefusals then
    addReply { kind := q.kind + 0x80, tag := q.tag, result := .queueFull, data := [], forHead := false } s
  else setLinkError s

/-- The command row of a request: the arrival of its frame (log entry 1). -/
def submit (kind tag : Nat) (c : Instr) (s : State) : State :=
  arrive { kind := kind, tag := tag, command := some c, state := .waiting } s

/-! ## The receiver -/

/-- The receiver's state changed. -/
def setRx (rx : LinkRx) (s : State) : State := s.setClc { s.clc with rx := rx }

/-- A frame that has begun is discarded (R199). -/
def discard (s : State) : State := setLinkError (setRx .hunt s)

/-- The bytes a link frame's CRC covers: length, kind, tag, payload (R197); the bytes from the kind on are given. -/
def linkSpan (len : Nat) (taken : List Byte) : List Byte := u16 len ++ taken

/-- A complete frame (R198, R199): kind and tag are its first two bytes. -/
def frameDone (len : Nat) (taken : List Byte) (crc : BitVec 16) (s : State) : State :=
  match taken with
  | kind :: tag :: payload =>
    if crc16 (linkSpan len taken) = crc && kind.toNat < 0x60 then
      arrive { kind := kind.toNat, tag := tag.toNat, command := parseRequest kind.toNat tag.toNat payload,
               state := .waiting } (setRx .hunt s)
    else discard s
  | _ => discard s

/-- A byte received (R198). -/
def linkByte (b : Byte) (s : State) : State :=
  match s.clc.rx with
  | .hunt => if b = 0xB6#8 then setRx (.length none) s else s
  | .length none => setRx (.length (some b)) s
  | .length (some hi) =>
    let len := 256 * hi.toNat + b.toNat
    if 2 ≤ len && len ≤ 640 then setRx (.body len []) s else discard s
  | .body len taken =>
    let more := taken ++ [b]
    setRx (if more.length < len then .body len more else .check len more none) s
  | .check len taken none => setRx (.check len taken (some b)) s
  | .check len taken (some hi) => frameDone len taken (wordOf hi b) s

/-- A character received (R198, R199); the receiver takes nothing before the controller is ready (R211). -/
def linkChar (c : LinkChar) (s : State) : State :=
  if s.clc.ready ≠ .up then s
  else
    match c with
    | .byte b => linkByte b s
    | .framingError => if s.clc.rx = .hunt then s else discard s

/-- The gap timer expires (R199); in HUNT none runs. -/
def gapExpiry (s : State) : State := if s.clc.rx = .hunt then s else discard s

/-! ## Resets -/

/-- The reset of PART RESET (R210): every block as after power-on, but for the coach type table, the odometer configuration
and the link rate; a frame being sent on the backbone ends with the abort marker (R174); READY with cause PART_RESET is to
come. -/
def partReset (s : State) : State :=
  { jt := .reset s.jt.config, cm := .reset s.cm.types, rs := .reset, dc := .reset, bc := { Bc.reset with cut := s.bc.cutShort },
    sup := .reset, clc := .reset s.clc.rate .partReset, pending := s.pending }

/-- RESETN low (R211): the controller is held in reset; what power-on resets is reset (log entry 9). -/
def holdReset (s : State) : State :=
  let t := State.powerOn s.clc.rate s.pending
  t.setClc { t.clc with ready := .held }

/-- The rate as the strap value 0 to 3 of R195. -/
def strapRate (lrate1 lrate0 : Bool) : Nat := (if lrate1 then 2 else 0) + (if lrate0 then 1 else 0)

/-- The bit rate of a strap value, in baud (R195). -/
def baud (rate : Nat) : Nat := 115200 * 2 ^ rate

/-- RESETN high (R211): the straps are read and every block takes its state after power-on. -/
def releaseReset (lrate1 lrate0 : Bool) (s : State) : State := State.powerOn (strapRate lrate1 lrate0) s.pending

/-- The READY report is raised, once after each reset (R212), and the controller takes frames and sends from then on. -/
def becomeReady (s : State) : State :=
  match s.clc.ready with
  | .starting cause =>
    raise .ready 1 0 (u8 cause.code ++ u8 Config.revision) (s.setClc { s.clc with ready := .up })
  | _ => s

/-! ## The transmitter -/

/-- The head leaves the queue when its reply has been sent (R206). -/
def dropHead (s : State) : State := s.setClc { s.clc with queue := s.clc.queue.tail }

/-- The transmitter falls free and takes the next frame (R206). -/
def freeTx (s : State) : State := s.setClc { s.clc with tx := .idle }.transmit

/-- Whether a reply is the DONE of PART RESET, after which the controller is reset (R209, R210). -/
def Reply.resets (r : Reply) : Bool := r.forHead && r.kind = 0x83 && r.result = .done

/-- The last byte of a frame has been sent (R202, R206, R209). -/
def frameEnd (s : State) : State :=
  match s.clc.tx with
  | .idle => s
  | .report _ _ _ => beginHead (freeTx s)
  | .reply r =>
    if r.resets then partReset s
    else
      let t := s.setClc { s.clc with replies := s.clc.replies.erase r }
      beginHead (freeTx (if r.forHead then dropHead t else t))

/-! ## The frames sent -/

/-- A link frame (R196, R197, R226). -/
def frameBytes (kind tag : Nat) (payload : List Byte) : List Byte :=
  let body := u8 kind ++ u8 tag ++ payload
  u8 0xB6 ++ u16 body.length ++ body ++ wordBytes (crc16 (linkSpan body.length body))

/-- The bytes of the frame being sent on LTXD (R204, R213, R226); none while IDLE. -/
def Transmitter.frame : Transmitter → List Byte
  | .idle => []
  | .reply r => frameBytes r.kind r.tag (u8 r.result.code ++ r.data)
  | .report r mark drops =>
    frameBytes (0xE0 + r.cls.number) 0 (u32 r.subject ++ u8 r.code ++ flag mark ++ u8 drops ++ r.data)

/-! ## Characters on the two pins -/

/-- What a pin of the computer link carries in one bit time (R195). -/
inductive LinkBit where
  | start
  | data (value : Bool)
  | stop
  deriving DecidableEq, Repr

/-- The data bits of a character in the order sent, least significant first (R195). -/
def dataBits (b : Byte) : List Bool := (List.range 8).map b.getLsbD

/-- The ten bit times of a character: one start bit, 8 data bits, no parity bit, one stop bit (R195). -/
def characterBits (b : Byte) : List LinkBit := .start :: (dataBits b).map .data ++ [.stop]

/-- The bit times of the frame being sent on LTXD, with no gap between its characters (R195, R206). -/
def Transmitter.bits (t : Transmitter) : List LinkBit := t.frame.flatMap characterBits

/-- LTXD in a bit time counted from the beginning of the frame being sent: at the level of a stop bit when no character is
being sent (R195). -/
def Transmitter.ltxd (t : Transmitter) (bitTime : Nat) : LinkBit := (t.bits[bitTime]?).getD .stop

/-- The byte whose data bits are given in the order received (R195). -/
def byteOf (bits : List Bool) : Byte := BitVec.ofNat 8 (bits.foldr (fun b n => (if b then 1 else 0) + 2 * n) 0)

/-- What a character time on LRXD delivers, from its data bits and whether its stop bit is found at the right level; a line
held at the start-bit level is found so in no character time (R195). -/
def received (bits : List Bool) (stopRight : Bool) : LinkChar := if stopRight then .byte (byteOf bits) else .framingError

end Sys2Proof.Machine
end

