-- ==== Sys2Proof/Machine/Commands.lean ====
section
/-! DEFINITION. The meaning of each request: the arrival of its well-formed frame (log entry 1). The request joins the request
queue and is handled at once, by the owning block's do… definition (section 8.8), when the queue is empty and no reply is
being sent; otherwise it waits, or is answered QUEUE_FULL (R201, R202). -/

namespace Sys2Proof.Machine

/-! ## Computer Link Controller -/

/-- DESCRIBE PART (R207). -/
def execDescribePart (tag length : Nat) (s : State) : Host.Outcome State Fault Refusal :=
  .next (event (submit 0x01 tag (.describePart tag length)) s)

/-- LINK RESET (R208). -/
def execLinkReset (tag : Nat) (s : State) : Host.Outcome State Fault Refusal :=
  .next (event (submit 0x02 tag (.linkReset tag)) s)

/-- PART RESET (R209). -/
def execPartReset (tag : Nat) (s : State) : Host.Outcome State Fault Refusal :=
  .next (event (submit 0x03 tag (.partReset tag)) s)

/-- SET REPORTING (R218). -/
def execSetReporting (tag classes order : Nat) (s : State) : Host.Outcome State Fault Refusal :=
  .next (event (submit 0x04 tag (.setReporting tag classes order)) s)

/-- ACK ALARMS (R221). -/
def execAckAlarms (tag flags : Nat) (s : State) : Host.Outcome State Fault Refusal :=
  .next (event (submit 0x05 tag (.ackAlarms tag flags)) s)

/-- SUMMARY (R223). -/
def execSummary (tag : Nat) (s : State) : Host.Outcome State Fault Refusal :=
  .next (event (submit 0x06 tag (.summary tag)) s)

/-- A request whose kind is not in section 8.8 (R203). -/
def execUnknownRequestKind (kind tag : Nat) (s : State) : Host.Outcome State Fault Refusal :=
  .next (event (arrive { kind := kind, tag := tag, command := none, state := .waiting }) s)

/-! ## Journey Tracker -/

/-- OPEN ROUTE (R3). -/
def execOpenRoute (tag slot code : Nat) (dest : Text) (s : State) : Host.Outcome State Fault Refusal :=
  .next (event (submit 0x10 tag (.openRoute tag slot code dest)) s)

/-- APPEND STOPS (R4). -/
def execAppendStops (tag slot : Nat) (stops : List StopFields) (s : State) : Host.Outcome State Fault Refusal :=
  .next (event (submit 0x11 tag (.appendStops tag slot stops)) s)

/-- CLOSE ROUTE (R5). -/
def execCloseRoute (tag slot : Nat) (s : State) : Host.Outcome State Fault Refusal :=
  .next (event (submit 0x12 tag (.closeRoute tag slot)) s)

/-- DROP ROUTE (R6). -/
def execDropRoute (tag slot : Nat) (s : State) : Host.Outcome State Fault Refusal :=
  .next (event (submit 0x13 tag (.dropRoute tag slot)) s)

/-- READ ROUTE (R7). -/
def execReadRoute (tag slot first count : Nat) (s : State) : Host.Outcome State Fault Refusal :=
  .next (event (submit 0x14 tag (.readRoute tag slot first count)) s)

/-- CANCEL STOP (R9). -/
def execCancelStop (tag slot index : Nat) (s : State) : Host.Outcome State Fault Refusal :=
  .next (event (submit 0x15 tag (.cancelStop tag slot index)) s)

/-- RESTORE STOP (R11). -/
def execRestoreStop (tag slot index : Nat) (s : State) : Host.Outcome State Fault Refusal :=
  .next (event (submit 0x16 tag (.restoreStop tag slot index)) s)

/-- ASSIGN UNIT HOME (R14). -/
def execAssignUnitHome (tag unit slot index partAt : Nat) (s : State) : Host.Outcome State Fault Refusal :=
  .next (event (submit 0x17 tag (.assignUnitHome tag unit slot index partAt)) s)

/-- ASSIGN UNIT (R15). -/
def execAssignUnit (tag unit slot index partAt : Nat) (s : State) : Host.Outcome State Fault Refusal :=
  .next (event (submit 0x17 tag (.assignUnit tag unit slot index partAt)) s)

/-- END JOURNEY (R17). -/
def execEndJourney (tag : Nat) (s : State) : Host.Outcome State Fault Refusal :=
  .next (event (submit 0x18 tag (.endJourney tag)) s)

/-- DEPARTED (R19). -/
def execDeparted (tag : Nat) (s : State) : Host.Outcome State Fault Refusal :=
  .next (event (submit 0x19 tag (.departed tag)) s)

/-- ARRIVED (R22). -/
def execArrived (tag code : Nat) (s : State) : Host.Outcome State Fault Refusal :=
  .next (event (submit 0x1A tag (.arrived tag code)) s)

/-- SET DIRECTION (R27). -/
def execSetDirection (tag direction : Nat) (s : State) : Host.Outcome State Fault Refusal :=
  .next (event (submit 0x1B tag (.setDirection tag direction)) s)

/-- SET TIME (R28). -/
def execSetTime (tag minute : Nat) (s : State) : Host.Outcome State Fault Refusal :=
  .next (event (submit 0x1C tag (.setTime tag minute)) s)

/-- CONFIGURE ODOMETER (R30). -/
def execConfigureOdometer (tag : Nat) (params : OdoConfig) (s : State) : Host.Outcome State Fault Refusal :=
  .next (event (submit 0x1D tag (.configureOdometer tag params)) s)

/-- POSITION FIX (R49). -/
def execPositionFix (tag x : Nat) (s : State) : Host.Outcome State Fault Refusal :=
  .next (event (submit 0x1E tag (.positionFix tag x)) s)

/-- READ JOURNEY (R50). -/
def execReadJourney (tag : Nat) (s : State) : Host.Outcome State Fault Refusal :=
  .next (event (submit 0x1F tag (.readJourney tag)) s)

/-! ## Consist Manager -/

/-- CONFIGURE SURVEY (R57). -/
def execConfigureSurvey (tag attempts pairs : Nat) (s : State) : Host.Outcome State Fault Refusal :=
  .next (event (submit 0x20 tag (.configureSurvey tag attempts pairs)) s)

/-- START BACKBONE (R58). -/
def execStartBackbone (tag : Nat) (s : State) : Host.Outcome State Fault Refusal :=
  .next (event (submit 0x21 tag (.startBackbone tag)) s)

/-- STOP BACKBONE (R59). -/
def execStopBackbone (tag : Nat) (s : State) : Host.Outcome State Fault Refusal :=
  .next (event (submit 0x22 tag (.stopBackbone tag)) s)

/-- SURVEY (R60). -/
def execSurvey (tag : Nat) (s : State) : Host.Outcome State Fault Refusal :=
  .next (event (submit 0x23 tag (.survey tag)) s)

/-- SPLIT (R77). -/
def execSplit (tag unit : Nat) (s : State) : Host.Outcome State Fault Refusal :=
  .next (event (submit 0x24 tag (.split tag unit)) s)

/-- REMOVE ENTRY (R81). -/
def execRemoveEntry (tag vehicle : Nat) (s : State) : Host.Outcome State Fault Refusal :=
  .next (event (submit 0x25 tag (.removeEntry tag vehicle)) s)

/-- READ CONSIST (R82). -/
def execReadConsist (tag : Nat) (s : State) : Host.Outcome State Fault Refusal :=
  .next (event (submit 0x26 tag (.readConsist tag)) s)

/-- DEFINE TYPE (R84). -/
def execDefineType (tag code seats : Nat) (labels : List Text) (s : State) : Host.Outcome State Fault Refusal :=
  .next (event (submit 0x27 tag (.defineType tag code seats labels)) s)

/-- DELETE TYPE (R85). -/
def execDeleteType (tag code : Nat) (s : State) : Host.Outcome State Fault Refusal :=
  .next (event (submit 0x28 tag (.deleteType tag code)) s)

/-- READ TYPE (R86). -/
def execReadType (tag code length : Nat) (s : State) : Host.Outcome State Fault Refusal :=
  .next (event (submit 0x29 tag (.readType tag code length)) s)

/-! ## Reservation Store -/

/-- DECLARE VEHICLE (R91). -/
def execDeclareVehicle (tag bank vehicle type slot : Nat) (s : State) : Host.Outcome State Fault Refusal :=
  .next (event (submit 0x30 tag (.declareVehicle tag bank vehicle type slot)) s)

/-- REMOVE VEHICLE (R95). -/
def execRemoveVehicle (tag bank vehicle : Nat) (s : State) : Host.Outcome State Fault Refusal :=
  .next (event (submit 0x31 tag (.removeVehicle tag bank vehicle)) s)

/-- ADD SEGMENT (R92). -/
def execAddSegment (tag bank vehicle seat fromIx toIx kind : Nat) (label : Text) (s : State) :
    Host.Outcome State Fault Refusal :=
  .next (event (submit 0x32 tag (.addSegment tag bank vehicle seat fromIx toIx kind label)) s)

/-- DROP SEGMENT (R93). -/
def execDropSegment (tag bank vehicle seat fromIx : Nat) (s : State) : Host.Outcome State Fault Refusal :=
  .next (event (submit 0x33 tag (.dropSegment tag bank vehicle seat fromIx)) s)

/-- CLEAR SEAT (R94). -/
def execClearSeat (tag bank vehicle seat : Nat) (s : State) : Host.Outcome State Fault Refusal :=
  .next (event (submit 0x34 tag (.clearSeat tag bank vehicle seat)) s)

/-- READ SEAT (R107). -/
def execReadSeat (tag bank vehicle seat : Nat) (s : State) : Host.Outcome State Fault Refusal :=
  .next (event (submit 0x35 tag (.readSeat tag bank vehicle seat)) s)

/-- READ BANKS (R108). -/
def execReadBanks (tag : Nat) (s : State) : Host.Outcome State Fault Refusal :=
  .next (event (submit 0x36 tag (.readBanks tag)) s)

/-- OPEN STAGING EMPTY (R98). -/
def execOpenStagingEmpty (tag : Nat) (s : State) : Host.Outcome State Fault Refusal :=
  .next (event (submit 0x37 tag (.openStagingEmpty tag)) s)

/-- OPEN STAGING COPY (R99). -/
def execOpenStagingCopy (tag : Nat) (s : State) : Host.Outcome State Fault Refusal :=
  .next (event (submit 0x38 tag (.openStagingCopy tag)) s)

/-- ARM STAGING (R101). -/
def execArmStaging (tag trigger : Nat) (s : State) : Host.Outcome State Fault Refusal :=
  .next (event (submit 0x39 tag (.armStaging tag trigger)) s)

/-- ARM STAGING IMMEDIATE (R102). -/
def execArmStagingImmediate (tag : Nat) (s : State) : Host.Outcome State Fault Refusal :=
  .next (event (submit 0x39 tag (.armStagingImmediate tag)) s)

/-- DISARM STAGING (R103). -/
def execDisarmStaging (tag : Nat) (s : State) : Host.Outcome State Fault Refusal :=
  .next (event (submit 0x3A tag (.disarmStaging tag)) s)

/-- ABANDON STAGING (R104). -/
def execAbandonStaging (tag : Nat) (s : State) : Host.Outcome State Fault Refusal :=
  .next (event (submit 0x3B tag (.abandonStaging tag)) s)

/-! ## Display Composer -/

/-- REFRESH COACH (R130). -/
def execRefreshCoach (tag target vehicle : Nat) (s : State) : Host.Outcome State Fault Refusal :=
  .next (event (submit 0x40 tag (.refreshCoach tag target vehicle)) s)

/-- PUSH NOTICE (R135). -/
def execPushNotice (tag target vehicle : Nat) (text : Text) (priority expiry value : Nat) (s : State) :
    Host.Outcome State Fault Refusal :=
  .next (event (submit 0x41 tag (.pushNotice tag target vehicle text priority expiry value)) s)

/-- POP NOTICE (R136). -/
def execPopNotice (tag vehicle : Nat) (s : State) : Host.Outcome State Fault Refusal :=
  .next (event (submit 0x42 tag (.popNotice tag vehicle)) s)

/-- CLEAR NOTICES (R137). -/
def execClearNotices (tag target vehicle : Nat) (s : State) : Host.Outcome State Fault Refusal :=
  .next (event (submit 0x43 tag (.clearNotices tag target vehicle)) s)

/-- SET ROTATION ENTRY (R142). -/
def execSetRotationEntry (tag index page dwell next : Nat) (s : State) : Host.Outcome State Fault Refusal :=
  .next (event (submit 0x44 tag (.setRotationEntry tag index page dwell next)) s)

/-- SET ROTATION START (R143). -/
def execSetRotationStart (tag index : Nat) (s : State) : Host.Outcome State Fault Refusal :=
  .next (event (submit 0x45 tag (.setRotationStart tag index)) s)

/-- READ ROTATION (R145). -/
def execReadRotation (tag : Nat) (s : State) : Host.Outcome State Fault Refusal :=
  .next (event (submit 0x46 tag (.readRotation tag)) s)

/-- READ DISPLAY (R146). -/
def execReadDisplay (tag vehicle : Nat) (s : State) : Host.Outcome State Fault Refusal :=
  .next (event (submit 0x47 tag (.readDisplay tag vehicle)) s)

/-! ## Backbone Controller and supervision -/

/-- READ BACKBONE (R175). -/
def execReadBackbone (tag : Nat) (s : State) : Host.Outcome State Fault Refusal :=
  .next (event (submit 0x50 tag (.readBackbone tag)) s)

/-- READ LINE FLAGS (R179). -/
def execReadLineFlags (tag : Nat) (s : State) : Host.Outcome State Fault Refusal :=
  .next (event (submit 0x51 tag (.readLineFlags tag)) s)

/-- CLEAR LINE FLAGS (R180). -/
def execClearLineFlags (tag mask : Nat) (s : State) : Host.Outcome State Fault Refusal :=
  .next (event (submit 0x52 tag (.clearLineFlags tag mask)) s)

/-- LOCK TABLE (R190). -/
def execLockTable (tag table : Nat) (s : State) : Host.Outcome State Fault Refusal :=
  .next (event (submit 0x53 tag (.lockTable tag table)) s)

/-- UNLOCK TABLE (R191). -/
def execUnlockTable (tag table : Nat) (s : State) : Host.Outcome State Fault Refusal :=
  .next (event (submit 0x54 tag (.unlockTable tag table)) s)

/-- SET CAPTURE (R192). -/
def execSetCapture (tag mode : Nat) (s : State) : Host.Outcome State Fault Refusal :=
  .next (event (submit 0x55 tag (.setCapture tag mode)) s)

/-- READ TABLE (R194). -/
def execReadTable (tag table : Nat) (s : State) : Host.Outcome State Fault Refusal :=
  .next (event (submit 0x56 tag (.readTable tag table)) s)

end Sys2Proof.Machine
end

