-- ==== Sys2Proof/Machine/Events.lean ====
section
/-! DEFINITION. The meaning of each event at the pins and of the controller's clocks. An event out of its place in the cycle
leaves the state as it was (log entry 4). -/

namespace Sys2Proof.Machine

/-- The copy of OPEN STAGING COPY completes (R100). -/
def execCopyCompletion (s : State) : Host.Outcome State Fault Refusal :=
  .next (event completeCopy s)

/-- A pulse at the ODO pin (R32). -/
def execOdoPulse (s : State) : Host.Outcome State Fault Refusal :=
  .next (event pulse s)

/-- The odometer window expires (R33). -/
def execOdometerWindowExpiry (s : State) : Host.Outcome State Fault Refusal :=
  .next (event windowExpiry s)

/-- The minute timer expires (R28). -/
def execMinuteTimerExpiry (s : State) : Host.Outcome State Fault Refusal :=
  .next (event minuteTick s)

/-- The quiet gap ends (R152). -/
def execCycleEnd (s : State) : Host.Outcome State Fault Refusal :=
  .next (event cycleClose s)

/-- The end marker of the BEACON frame has been sent (R155). -/
def execCycleStart (s : State) : Host.Outcome State Fault Refusal :=
  .next (event beaconEnd s)

/-- The next coach slot starts (R156). -/
def execCoachSlotStart (s : State) : Host.Outcome State Fault Refusal :=
  .next (event slotStart s)

/-- The end marker of the CONTENT frame has been sent (R158). -/
def execContentFrameComplete (s : State) : Host.Outcome State Fault Refusal :=
  .next (event contentComplete s)

/-- Symbols are received on a line (R150). -/
def execBackboneFrameReceived (line : Line) (at_ : Nat) (symbols : List Symbol) (s : State) :
    Host.Outcome State Fault Refusal :=
  .next (event (takeSymbols line at_ symbols) s)

/-- The coach slot ends (R163). -/
def execCoachSlotEnd (s : State) : Host.Outcome State Fault Refusal :=
  .next (event slotEnd s)

/-- The call window starts (R167). -/
def execCallWindowStart (s : State) : Host.Outcome State Fault Refusal :=
  .next (event callStart s)

/-- The call window ends (R169). -/
def execCallWindowEnd (s : State) : Host.Outcome State Fault Refusal :=
  .next (event callEnd s)

/-- The quiet gap starts (R170). -/
def execQuietGapStart (s : State) : Host.Outcome State Fault Refusal :=
  .next (event gapStart s)

/-- A character is received on LRXD (R198). -/
def execLinkCharacterReceived (char : LinkChar) (s : State) : Host.Outcome State Fault Refusal :=
  .next (event (linkChar char) s)

/-- The gap timer of the link receiver expires (R199). -/
def execLinkGapTimerExpiry (s : State) : Host.Outcome State Fault Refusal :=
  .next (event gapExpiry s)

/-- The last byte of a frame has been sent on LTXD (R206). -/
def execTransmitterFrameEnd (s : State) : Host.Outcome State Fault Refusal :=
  .next (event frameEnd s)

/-- RESETN goes low (R211). -/
def execResetnLow (s : State) : Host.Outcome State Fault Refusal :=
  .next (holdReset s)

/-- RESETN goes high (R211). -/
def execResetnHigh (lrate1 lrate0 : Bool) (s : State) : Host.Outcome State Fault Refusal :=
  .next (releaseReset lrate1 lrate0 s)

/-- The READY report is raised (R212). -/
def execReady (s : State) : Host.Outcome State Fault Refusal :=
  .next (event becomeReady s)

end Sys2Proof.Machine
end

