-- ==== Sys2Proof/Machine/Dispatch.lean ====
section
/-! DEFINITION. The dispatch of a command to its meaning: one arm for each constructor of Instr. -/

namespace Sys2Proof.Machine

def exec (i : Instr) (s : State) : Host.Outcome State Fault Refusal :=
  match i with
  | .describePart tag length => Sys2Proof.Machine.execDescribePart tag length s
  | .linkReset tag => Sys2Proof.Machine.execLinkReset tag s
  | .partReset tag => Sys2Proof.Machine.execPartReset tag s
  | .setReporting tag classes order => Sys2Proof.Machine.execSetReporting tag classes order s
  | .ackAlarms tag flags => Sys2Proof.Machine.execAckAlarms tag flags s
  | .summary tag => Sys2Proof.Machine.execSummary tag s
  | .unknownRequestKind kind tag => Sys2Proof.Machine.execUnknownRequestKind kind tag s
  | .openRoute tag slot code dest => Sys2Proof.Machine.execOpenRoute tag slot code dest s
  | .appendStops tag slot stops => Sys2Proof.Machine.execAppendStops tag slot stops s
  | .closeRoute tag slot => Sys2Proof.Machine.execCloseRoute tag slot s
  | .dropRoute tag slot => Sys2Proof.Machine.execDropRoute tag slot s
  | .readRoute tag slot first count => Sys2Proof.Machine.execReadRoute tag slot first count s
  | .cancelStop tag slot index => Sys2Proof.Machine.execCancelStop tag slot index s
  | .restoreStop tag slot index => Sys2Proof.Machine.execRestoreStop tag slot index s
  | .assignUnitHome tag unit slot index partAt => Sys2Proof.Machine.execAssignUnitHome tag unit slot index partAt s
  | .assignUnit tag unit slot index partAt => Sys2Proof.Machine.execAssignUnit tag unit slot index partAt s
  | .endJourney tag => Sys2Proof.Machine.execEndJourney tag s
  | .departed tag => Sys2Proof.Machine.execDeparted tag s
  | .arrived tag code => Sys2Proof.Machine.execArrived tag code s
  | .setDirection tag direction => Sys2Proof.Machine.execSetDirection tag direction s
  | .setTime tag minute => Sys2Proof.Machine.execSetTime tag minute s
  | .configureOdometer tag params => Sys2Proof.Machine.execConfigureOdometer tag params s
  | .positionFix tag x => Sys2Proof.Machine.execPositionFix tag x s
  | .readJourney tag => Sys2Proof.Machine.execReadJourney tag s
  | .configureSurvey tag attempts pairs => Sys2Proof.Machine.execConfigureSurvey tag attempts pairs s
  | .startBackbone tag => Sys2Proof.Machine.execStartBackbone tag s
  | .stopBackbone tag => Sys2Proof.Machine.execStopBackbone tag s
  | .survey tag => Sys2Proof.Machine.execSurvey tag s
  | .split tag unit => Sys2Proof.Machine.execSplit tag unit s
  | .removeEntry tag vehicle => Sys2Proof.Machine.execRemoveEntry tag vehicle s
  | .readConsist tag => Sys2Proof.Machine.execReadConsist tag s
  | .defineType tag code seats labels => Sys2Proof.Machine.execDefineType tag code seats labels s
  | .deleteType tag code => Sys2Proof.Machine.execDeleteType tag code s
  | .readType tag code length => Sys2Proof.Machine.execReadType tag code length s
  | .declareVehicle tag bank vehicle type slot => Sys2Proof.Machine.execDeclareVehicle tag bank vehicle type slot s
  | .removeVehicle tag bank vehicle => Sys2Proof.Machine.execRemoveVehicle tag bank vehicle s
  | .addSegment tag bank vehicle seat fromIx toIx kind label => Sys2Proof.Machine.execAddSegment tag bank vehicle seat fromIx toIx kind label s
  | .dropSegment tag bank vehicle seat fromIx => Sys2Proof.Machine.execDropSegment tag bank vehicle seat fromIx s
  | .clearSeat tag bank vehicle seat => Sys2Proof.Machine.execClearSeat tag bank vehicle seat s
  | .readSeat tag bank vehicle seat => Sys2Proof.Machine.execReadSeat tag bank vehicle seat s
  | .readBanks tag => Sys2Proof.Machine.execReadBanks tag s
  | .openStagingEmpty tag => Sys2Proof.Machine.execOpenStagingEmpty tag s
  | .openStagingCopy tag => Sys2Proof.Machine.execOpenStagingCopy tag s
  | .copyCompletion => Sys2Proof.Machine.execCopyCompletion s
  | .armStaging tag trigger => Sys2Proof.Machine.execArmStaging tag trigger s
  | .armStagingImmediate tag => Sys2Proof.Machine.execArmStagingImmediate tag s
  | .disarmStaging tag => Sys2Proof.Machine.execDisarmStaging tag s
  | .abandonStaging tag => Sys2Proof.Machine.execAbandonStaging tag s
  | .refreshCoach tag target vehicle => Sys2Proof.Machine.execRefreshCoach tag target vehicle s
  | .pushNotice tag target vehicle text priority expiry value => Sys2Proof.Machine.execPushNotice tag target vehicle text priority expiry value s
  | .popNotice tag vehicle => Sys2Proof.Machine.execPopNotice tag vehicle s
  | .clearNotices tag target vehicle => Sys2Proof.Machine.execClearNotices tag target vehicle s
  | .setRotationEntry tag index page dwell next => Sys2Proof.Machine.execSetRotationEntry tag index page dwell next s
  | .setRotationStart tag index => Sys2Proof.Machine.execSetRotationStart tag index s
  | .readRotation tag => Sys2Proof.Machine.execReadRotation tag s
  | .readDisplay tag vehicle => Sys2Proof.Machine.execReadDisplay tag vehicle s
  | .readBackbone tag => Sys2Proof.Machine.execReadBackbone tag s
  | .readLineFlags tag => Sys2Proof.Machine.execReadLineFlags tag s
  | .clearLineFlags tag mask => Sys2Proof.Machine.execClearLineFlags tag mask s
  | .lockTable tag table => Sys2Proof.Machine.execLockTable tag table s
  | .unlockTable tag table => Sys2Proof.Machine.execUnlockTable tag table s
  | .setCapture tag mode => Sys2Proof.Machine.execSetCapture tag mode s
  | .readTable tag table => Sys2Proof.Machine.execReadTable tag table s
  | .odoPulse => Sys2Proof.Machine.execOdoPulse s
  | .odometerWindowExpiry => Sys2Proof.Machine.execOdometerWindowExpiry s
  | .minuteTimerExpiry => Sys2Proof.Machine.execMinuteTimerExpiry s
  | .cycleEnd => Sys2Proof.Machine.execCycleEnd s
  | .cycleStart => Sys2Proof.Machine.execCycleStart s
  | .coachSlotStart => Sys2Proof.Machine.execCoachSlotStart s
  | .contentFrameComplete => Sys2Proof.Machine.execContentFrameComplete s
  | .backboneFrameReceived line at_ symbols => Sys2Proof.Machine.execBackboneFrameReceived line at_ symbols s
  | .coachSlotEnd => Sys2Proof.Machine.execCoachSlotEnd s
  | .callWindowStart => Sys2Proof.Machine.execCallWindowStart s
  | .callWindowEnd => Sys2Proof.Machine.execCallWindowEnd s
  | .quietGapStart => Sys2Proof.Machine.execQuietGapStart s
  | .linkCharacterReceived char => Sys2Proof.Machine.execLinkCharacterReceived char s
  | .linkGapTimerExpiry => Sys2Proof.Machine.execLinkGapTimerExpiry s
  | .transmitterFrameEnd => Sys2Proof.Machine.execTransmitterFrameEnd s
  | .resetnLow => Sys2Proof.Machine.execResetnLow s
  | .resetnHigh lrate1 lrate0 => Sys2Proof.Machine.execResetnHigh lrate1 lrate0 s
  | .ready => Sys2Proof.Machine.execReady s

end Sys2Proof.Machine
end

