-- ==== Sys2Proof/Safety.lean ====
section
/-! DEFINITION. What a safe run keeps: the invariants the rules state of each part of the state, and the terms in which the
statements are made. -/

namespace Sys2Proof

/-- The kind and the tag of a request's frame (section 8.8); none for an event, and for the row of unknown kinds. -/
def Instr.request : Instr → Option (Nat × Nat)
  | .describePart tag _ => some (0x01, tag)
  | .linkReset tag => some (0x02, tag)
  | .partReset tag => some (0x03, tag)
  | .setReporting tag _ _ => some (0x04, tag)
  | .ackAlarms tag _ => some (0x05, tag)
  | .summary tag => some (0x06, tag)
  | .openRoute tag _ _ _ => some (0x10, tag)
  | .appendStops tag _ _ => some (0x11, tag)
  | .closeRoute tag _ => some (0x12, tag)
  | .dropRoute tag _ => some (0x13, tag)
  | .readRoute tag _ _ _ => some (0x14, tag)
  | .cancelStop tag _ _ => some (0x15, tag)
  | .restoreStop tag _ _ => some (0x16, tag)
  | .assignUnitHome tag _ _ _ _ => some (0x17, tag)
  | .assignUnit tag _ _ _ _ => some (0x17, tag)
  | .endJourney tag => some (0x18, tag)
  | .departed tag => some (0x19, tag)
  | .arrived tag _ => some (0x1A, tag)
  | .setDirection tag _ => some (0x1B, tag)
  | .setTime tag _ => some (0x1C, tag)
  | .configureOdometer tag _ => some (0x1D, tag)
  | .positionFix tag _ => some (0x1E, tag)
  | .readJourney tag => some (0x1F, tag)
  | .configureSurvey tag _ _ => some (0x20, tag)
  | .startBackbone tag => some (0x21, tag)
  | .stopBackbone tag => some (0x22, tag)
  | .survey tag => some (0x23, tag)
  | .split tag _ => some (0x24, tag)
  | .removeEntry tag _ => some (0x25, tag)
  | .readConsist tag => some (0x26, tag)
  | .defineType tag _ _ _ => some (0x27, tag)
  | .deleteType tag _ => some (0x28, tag)
  | .readType tag _ _ => some (0x29, tag)
  | .declareVehicle tag _ _ _ _ => some (0x30, tag)
  | .removeVehicle tag _ _ => some (0x31, tag)
  | .addSegment tag _ _ _ _ _ _ _ => some (0x32, tag)
  | .dropSegment tag _ _ _ _ => some (0x33, tag)
  | .clearSeat tag _ _ _ => some (0x34, tag)
  | .readSeat tag _ _ _ => some (0x35, tag)
  | .readBanks tag => some (0x36, tag)
  | .openStagingEmpty tag => some (0x37, tag)
  | .openStagingCopy tag => some (0x38, tag)
  | .armStaging tag _ => some (0x39, tag)
  | .armStagingImmediate tag => some (0x39, tag)
  | .disarmStaging tag => some (0x3A, tag)
  | .abandonStaging tag => some (0x3B, tag)
  | .refreshCoach tag _ _ => some (0x40, tag)
  | .pushNotice tag _ _ _ _ _ _ => some (0x41, tag)
  | .popNotice tag _ => some (0x42, tag)
  | .clearNotices tag _ _ => some (0x43, tag)
  | .setRotationEntry tag _ _ _ _ => some (0x44, tag)
  | .setRotationStart tag _ => some (0x45, tag)
  | .readRotation tag => some (0x46, tag)
  | .readDisplay tag _ => some (0x47, tag)
  | .readBackbone tag => some (0x50, tag)
  | .readLineFlags tag => some (0x51, tag)
  | .clearLineFlags tag _ => some (0x52, tag)
  | .lockTable tag _ => some (0x53, tag)
  | .unlockTable tag _ => some (0x54, tag)
  | .setCapture tag _ => some (0x55, tag)
  | .readTable tag _ => some (0x56, tag)
  | .unknownRequestKind _ _ => none
  | .copyCompletion => none
  | .odoPulse => none
  | .odometerWindowExpiry => none
  | .minuteTimerExpiry => none
  | .cycleEnd => none
  | .cycleStart => none
  | .coachSlotStart => none
  | .contentFrameComplete => none
  | .backboneFrameReceived _ _ _ => none
  | .coachSlotEnd => none
  | .callWindowStart => none
  | .callWindowEnd => none
  | .quietGapStart => none
  | .linkCharacterReceived _ => none
  | .linkGapTimerExpiry => none
  | .transmitterFrameEnd => none
  | .resetnLow => none
  | .resetnHigh _ _ => none
  | .ready => none

end Sys2Proof

namespace Sys2Proof.Machine

/-! ## Journey Tracker -/

/-- The portion table (R13 to R15, R18): at most 4 entries, no unit twice; empty in NO_JOURNEY, otherwise with one home entry,
which is ATTACHED. -/
abbrev PortionsOk (j : Jt) : Prop :=
  j.portions.length ≤ Config.maxPortions ∧ (j.portions.map (·.unit)).Nodup
    ∧ (j.portions.filter (·.home)).length = (if j.phase = .noJourney then 0 else 1)
    ∧ (j.phase = .noJourney → j.portions = [])
    ∧ ∀ p ∈ j.portions, p.home = true → p.state = .attached

/-- The ranges of the odometer configuration and state (R28, R29, R31, R32, R36, R39, R40). -/
abbrev OdometerOk (j : Jt) : Prop :=
  configFault j.config = none ∧ j.minute < 1440 ∧ j.odo.dist ≤ Config.maxDist ∧ j.odo.rem < 1000000
    ∧ j.odo.speed ≤ 125000 ∧ j.odo.etaS ≤ 5999 ∧ j.odo.etaMin ≤ 100 ∧ j.odo.pulses ≤ 4095
    ∧ j.odo.skips ≤ j.config.skipLimit ∧ ∀ k ∈ j.odo.clock, k < 1440

/-! ## Consist Manager and Display Composer -/

/-- The consist and the coach type table (R53, R66, R83, R134). -/
abbrev ConsistOk (c : Cm) : Prop :=
  c.list.length + c.detached.length ≤ Config.maxEntries ∧ (c.coaches.map (·.id)).Nodup
    ∧ (c.coaches.map (·.unit)).dedup.length ≤ Config.maxUnits
    ∧ (∀ k ∈ c.coaches, k.notices.length ≤ Config.maxNotices)
    ∧ c.types.length ≤ Config.maxTypes ∧ (c.types.map (·.code)).Nodup

/-- The content block sets (R119 to R121, R126, R131): the HEADER is valid, only valid blocks are dirty, every generation is
one byte. -/
abbrev BlocksOk (c : Cm) : Prop :=
  ∀ e ∈ c.list, e.blocks.header.valid = true
    ∧ ∀ k ∈ BlockKind.all, ((e.blocks.get k).dirty = true → (e.blocks.get k).valid = true) ∧ (e.blocks.get k).gen < 256

/-- The page rotation (R141): 12 entries with next indices in the table; the page in force is one of the five showable
kinds. -/
abbrev RotationOk (d : Dc) : Prop :=
  d.table.length = Config.rotationSize ∧ (∀ e ∈ d.table, e.next < Config.rotationSize ∧ 1 ≤ e.dwell ∧ e.dwell ≤ 255)
    ∧ d.start < Config.rotationSize ∧ (∀ i ∈ d.current, i < Config.rotationSize) ∧ d.dwell ≤ 255 ∧ d.page ≠ .empty

/-! ## Reservation Store -/

/-- The segments of a seat (R89): at most 6, each with from below to, ordered and without overlap. -/
abbrev SeatOk (l : List Segment) : Prop :=
  l.length ≤ Config.maxSeatSegments ∧ (∀ g ∈ l, g.fromIx < g.toIx) ∧ l.Pairwise fun a b => a.toIx ≤ b.fromIx

/-- A bank (R87 to R89). -/
abbrev BankOk (b : List Vehicle) : Prop :=
  b.length ≤ Config.maxVehicles ∧ (b.map (·.id)).Nodup ∧ segmentCount b ≤ Config.maxBankSegments
    ∧ ∀ v ∈ b, ∀ l ∈ v.seats, SeatOk l

/-- Both banks, the staging bank empty in CLOSED (R97). -/
abbrev BanksOk (r : Rs) : Prop := BankOk r.bank0 ∧ BankOk r.bank1 ∧ (r.staging = .closed → r.stagingBank = [])

/-! ## Backbone Controller and supervision -/

/-- The survey is OFF exactly while the backbone is (R56), which is when no segment runs (R151, R152); the cycle counter, the
counts and the time within a segment stay in range (R153, R175, R152). -/
abbrev BackboneOk (s : State) : Prop :=
  (s.cm.survey.state = .off ↔ s.bc.state = .off) ∧ (s.bc.state = .off ↔ s.bc.segment = .none)
    ∧ s.bc.counter < 32 ∧ s.bc.sent ≤ 65535 ∧ s.bc.aborted ≤ 65535 ∧ s.bc.clock ≤ s.bc.segment.length

/-- A node status table (R186, R187, R189): 16 rows; valid only when not being written, with the number of a cycle. -/
abbrev TableOk (t : NodeTable) : Prop :=
  t.rows.length = 16 ∧ (t.valid = true → t.updating = false ∧ t.cycle.isSome = true) ∧ (t.updating = true → t.cycle = none)

/-- The run counts of a line (R182). -/
abbrev RunsOk (r : Runs) : Prop := r.short ≤ 8 ∧ r.silent ≤ 32 ∧ r.full ≤ 8

/-- Supervision (R182, R186). -/
abbrev SupervisionOk (u : Sup) : Prop := TableOk u.even ∧ TableOk u.odd ∧ RunsOk u.a.runs ∧ RunsOk u.b.runs

/-! ## Computer Link Controller -/

/-- Whether the head of the request queue is REPLYING. -/
def Clc.headReplying (c : Clc) : Bool := c.queue.head?.any fun q => q.state = .replying

/-- The request queue and the reply list (R201, R206): at most 4 requests, those behind the head WAITING; at most 4 QUEUE_FULL
replies, and the head's reply exactly while the head is REPLYING; the reply being sent is the oldest. -/
abbrev QueueOk (c : Clc) : Prop :=
  c.queue.length ≤ Config.maxRequests ∧ (∀ q ∈ c.queue.tail, q.state = .waiting) ∧ c.refusals ≤ Config.maxRefusals
    ∧ (c.replies.filter (·.forHead)).length = (if c.headReplying then 1 else 0)
    ∧ ∀ r, c.tx = .reply r → c.replies.head? = some r

/-- The report queue (R214, R215, R218): at most 24 reports, no two with the same key, each of an enabled class; the drop count
is one byte, and 0 while the overflow mark is clear. -/
abbrev ReportsOk (c : Clc) : Prop :=
  c.reports.length ≤ Config.maxReports ∧ c.reports.Pairwise (fun a b => a.sameKey b = false)
    ∧ (∀ r ∈ c.reports, c.enabled.has r.cls = true) ∧ c.drops ≤ 255 ∧ (c.overflow = false → c.drops = 0)

/-- Every flag of a set is a flag of another. -/
abbrev Alarms.within (a b : Alarms) : Prop := a.zip (· && ·) b = a

/-- While a condition holds, its alarm flag is set (R219). -/
abbrev AlarmsOk (s : State) : Prop := (conditions s).within s.clc.alarms

/-! ## A request handled at once -/

/-- The controller is up, its request queue and reply list are empty and its transmitter is IDLE, so that a request whose frame
arrives is handled at once (R201, R202, R206); and no command is in progress (log entry 18). -/
abbrev Free (s : State) : Prop :=
  s.clc.ready = .up ∧ s.clc.queue = [] ∧ s.clc.replies = [] ∧ s.clc.tx = .idle ∧ s.dc.advanced = []

/-- The state with another request queue. -/
def State.withQueue (s : State) (q : List Queued) : State := s.setClc { s.clc with queue := q }

/-- The reply of the head to a request of a kind and a tag (R204). -/
def replyTo (kind tag : Nat) (r : ResultCode) (data : List Byte) : Reply :=
  { kind := kind + 0x80, tag := tag, result := r, data := data, forHead := true }

/-- The state once a request has been answered: the owning block left t, the request is the REPLYING head, its reply is in the
reply list, and the transmitter sends it unless it has begun a report that the request raised (R202, R204, R206). -/
def answered (kind tag : Nat) (c : Option Instr) (r : ResultCode) (data : List Byte) (t : State) : State :=
  (t.setClc { t.clc with queue := [{ kind := kind, tag := tag, command := c, state := .replying }],
                         replies := [replyTo kind tag r data],
                         tx := if t.clc.tx = .idle then .reply (replyTo kind tag r data) else t.clc.tx }).setDc
    { t.dc with advanced := [] }

/-! ## What a line carried, by the tables of chapters 6 and 7 -/

/-- The result of a line by the table of R163: the first of CLASH, NONE, LATE, CRC_ERROR and VALID whose words apply, for the
bounds of the window and the kind and payload length of an answer (R162, R169). -/
def resultOf (opens closes : Nat) (kind : Byte) (len : Nat) (g : Takings) : LineResult :=
  if 2 ≤ g.starts ∨ g.violation = true then .clash
  else if g.starts = 0 then .none
  else if g.startAt < opens ∨ closes < g.startAt ∨ g.frame = none then .late
  else match g.frame with
    | some (.complete k p true) => if k = kind ∧ p.length = len then .valid else .crcError
    | _ => .crcError

/-- The flags of a line after a result, by the table of R177; ok says that the answer is valid for its slot or call. -/
def flagsWith (f : LineFlags) (r : LineResult) (ok : Bool) : LineFlags :=
  { f with validSeen := f.validSeen || ok, crcError := f.crcError || r = .crcError, late := f.late || r = .late
           clash := f.clash || r = .clash }

/-- A line part of a row by R188: the result, and for VALID the identity, the hop and the fault count of the answer. -/
def partWith (r : LineResult) (p : List Byte) : LinePart :=
  { result := r
    seen := if r = .valid then some { id := field32 p 0, hop := byteAt p 4, faults := byteAt p 16 } else none }

/-- One line of supervision after a slot that belonged to an entry, by R177 and R181. -/
def lineAfterSlot (l : LineSup) (r : LineResult) (mine other : Bool) : LineSup :=
  { l with flags := flagsWith l.flags r mine
           obs := { entrySlot := true, carried := l.obs.carried || mine, short := l.obs.short || (other && !mine) } }

/-! ## What marking content blocks leaves as it was -/

/-- The consist without its content block sets: what no mark of a block changes (R126). -/
def Cm.unmarked (c : Cm) : Cm := { c with list := c.list.map fun e => { e with blocks := .ofKinds fun _ => ⟨false, 0, false⟩ } }

/-- The consist without its content block sets and agreement statuses: what neither a mark nor an agreement check changes (R116,
R126). -/
def Cm.outline (c : Cm) : Cm :=
  { c with list := c.unmarked.list.map fun e => { e with agree := .unitUnassigned } }

/-- The Backbone Controller and supervision stay as they were, or the CONTENT frame in flight has been aborted (R126, R159). -/
def AbortAtMost (s t : State) : Prop :=
  (t.bc = s.bc ∧ t.sup = s.sup)
    ∨ ∃ f, s.bc.frame = some f ∧ f.inFlight s.bc.clock = true ∧ t.bc = (abortFrame s).bc ∧ t.sup = (abortFrame s).sup

/-- A request answered with, beyond the Journey Tracker and the store as given, at most marks of content blocks. -/
def MarkedReply (s t : State) (jt : Jt) (rs : Rs) (kind tag : Nat) (c : Instr) (data : List Byte) : Prop :=
  t.jt = jt ∧ t.rs = rs ∧ t.cm.unmarked = s.cm.unmarked ∧ t.dc = s.dc
    ∧ t.clc = (answered kind tag (some c) .done data s).clc ∧ AbortAtMost s t ∧ t.pending = s.pending

/-- A block marked if it is valid and picked (R126): its generation one up, from 255 to 0, and dirty. -/
def Block.markedIf (b : Block) (pick : Bool) : Block :=
  if b.valid && pick then { b with gen := (b.gen + 1) % 256, dirty := true } else b

/-- The consist with the valid blocks picked marked once (R126). -/
def Cm.marked (c : Cm) (pick : Entry → BlockKind → Bool) : Cm :=
  { c with list := c.list.map fun e => { e with blocks := .ofKinds fun k => (e.blocks.get k).markedIf (pick e k) } }

/-- Every valid block of an entry is dirty (R129). -/
def Entry.allDirty (e : Entry) : Prop := ∀ k ∈ BlockKind.all, (e.blocks.get k).valid = true → (e.blocks.get k).dirty = true

end Sys2Proof.Machine
end

