-- ==== Sys2Proof/Certificates/Slice0/Obligations.lean ====
section
/-! DEFINITION. The statements for the provers. Each names the rules of spec/ it formalises in OBLIGATIONS.json. -/

open Sys2Proof Sys2Proof.Machine

/-- When a command c stands at the front of the queue of waiting commands, which is the model's own (log entry 1), step is
exec of c on the state with the queue's rest. On an empty queue (the model's choice, log entry 3) 4 microseconds, one symbol
time, pass within the segment in progress, at most to its end, and the CONTENT frame being sent reads and sends what is due
by then; nothing else changes. (R147, R152, R158, log entries 1 and 3) -/
def Obligations.StepRunsFrontCommand : Prop :=
  (∀ (c : Instr) (rest : List Instr) (s : State), s.pending = c :: rest → step s = exec c (s.setPending rest))
  ∧ ∀ s : State, s.pending = [] →
      let now := max s.bc.clock (min (s.bc.clock + 4) s.bc.segment.length)
      step s = .next (s.setBc { s.bc with
        clock := now
        frame := s.bc.frame.map fun f => f.sendTo (contentPayload s f.dest f.kind f.gen) now })

/-- Whatever command is executed in whatever state, every waiting command stays waiting in its place: the queue of waiting
commands is the model's own (log entry 1) and belongs to step alone; it is not the request queue of R201. (section 5.4, log
entry 1) -/
def Obligations.NoCommandTouchesTheQueue : Prop :=
  ∀ (c : Instr) (s t : State), exec c s = .next t → t.pending = s.pending

/-- In the state after power-on, which is State.reset by the model's choice of the moment (log entry 8): slots EMPTY,
portion table empty, phase NO_JOURNEY, notice state NONE, direction HEAD_FIRST, time 0 with its flag clear; the odometer
configuration and state of R29 and R31; an empty consist, the survey OFF with 8 attempts and 4 pairs, no type record; both
banks empty, bank 0 live, staging CLOSED; the rotation of R141; the backbone OFF with counter 0; lines OK, tables not
valid and UNLOCKED, capture CONTINUOUS; empty queues, every class enabled, order A, every alarm flag clear. And it meets
each of the invariants that the step statements keep. (R1, R13, R18, R24, R27, R28, R29, R31, R53, R56, R83, R87, R97,
R141, R151, R153, R175, R176, R185, R186, R198, R200, R201, R206, R214, R219, log entry 8) -/
def Obligations.ResetHoldsPowerOnValues : Prop :=
  let s := State.reset
  (∀ n, (s.jt.slots.get n).state = .empty) ∧ s.jt.portions = [] ∧ s.jt.phase = .noJourney ∧ s.jt.notice = .none
    ∧ s.jt.direction = .headFirst ∧ s.jt.minute = 0 ∧ s.jt.timeValid = false
    ∧ s.jt.config = { pulseLen := 30000, shift := 3, vmin := 1000, creep := 100, correction := 20, offset := 500,
                      minLeg := 2000, skipLimit := 8 }
    ∧ s.jt.odo.dist = 0 ∧ s.jt.odo.rem = 0 ∧ s.jt.odo.speed = 0 ∧ s.jt.odo.etaS = 0 ∧ s.jt.odo.etaMin = 0
    ∧ s.jt.odo.pos = 0 ∧ s.jt.odo.clock = none ∧ s.jt.odo.etaHeld = false ∧ s.jt.odo.tainted = false
    ∧ s.jt.odo.skips = 0 ∧ s.jt.odo.pulseSat = false ∧ s.jt.odo.distSat = false ∧ s.jt.odo.fixLimited = false
    ∧ s.cm.list = [] ∧ s.cm.detached = [] ∧ s.cm.types = [] ∧ s.cm.partings = []
    ∧ s.cm.survey = { state := .off, attempts := 0, cause := .none, cfgAttempts := 8, cfgPairs := 4 }
    ∧ s.rs.bank0 = [] ∧ s.rs.bank1 = [] ∧ s.rs.live = .bank0 ∧ s.rs.staging = .closed ∧ s.rs.diverged = false
    ∧ s.dc.table = List.replicate 12 { page := .empty, dwell := 1, next := 0 } ∧ s.dc.start = 0 ∧ s.dc.current = none
    ∧ s.dc.dwell = 1 ∧ s.dc.page = .nextStop
    ∧ s.bc.state = .off ∧ s.bc.counter = 0 ∧ s.bc.sent = 0 ∧ s.bc.aborted = 0
    ∧ s.sup.a.state = .ok ∧ s.sup.b.state = .ok ∧ s.sup.mismatch = false ∧ s.sup.capture = .continuous
    ∧ (∀ t ∈ [s.sup.even, s.sup.odd], t.rows = List.replicate 16 .cleared ∧ t.valid = false ∧ t.cycle = none
        ∧ t.updating = false ∧ t.lock = .unlocked)
    ∧ s.clc.queue = [] ∧ s.clc.replies = [] ∧ s.clc.tx = .idle ∧ s.clc.reports = [] ∧ s.clc.overflow = false
    ∧ s.clc.drops = 0 ∧ s.clc.enabled = .all ∧ s.clc.order = .a ∧ s.clc.alarms = .clear ∧ s.clc.linkError = false
    ∧ s.clc.rx = .hunt
    ∧ PortionsOk s.jt ∧ OdometerOk s.jt ∧ ConsistOk s.cm ∧ BlocksOk s.cm ∧ RotationOk s.dc ∧ BanksOk s.rs ∧ BackboneOk s
    ∧ SupervisionOk s.sup ∧ QueueOk s.clc ∧ ReportsOk s.clc ∧ AlarmsOk s

/-- RESETN going low answers a next state in which every block holds its power-on values (log entry 9: the model resets
them as the pin falls), the transmitter is IDLE, the backbone is OFF and the ALARM pin is low. In any state held so, every
command but RESETN_LOW and RESETN_HIGH leaves the state as it was. (R211, R222, log entry 9) -/
def Obligations.ResetnLowHoldsTheController : Prop :=
  (∀ s : State, ∃ t, exec .resetnLow s = .next t ∧ t.clc.ready = .held ∧ t.clc.tx = .idle ∧ t.bc.state = .off
      ∧ alarmPin t = false ∧ t.jt = .reset powerOnConfig ∧ t.cm = .reset [] ∧ t.rs = .reset ∧ t.dc = .reset
      ∧ t.bc = .reset ∧ t.sup = .reset ∧ t.clc = { Clc.reset s.clc.rate .powerOn with ready := .held })
    ∧ ∀ (c : Instr) (s : State), s.clc.ready = .held → c ≠ .resetnLow → (∀ a b, c ≠ .resetnHigh a b) →
        exec c s = .next s ∧ alarmPin s = false

/-- RESETN going high answers the power-on state with the link rate 0 to 3 of the straps (low low, low high, high low, high
high), whatever the state was, the waiting commands kept (log entry 9: also with no RESETN_LOW before it). READY then answers
the same state, now taking frames, with the READY report (class READY, code 1, subject 0, cause POWER_ON 0, revision 1,
overflow mark clear, drop count 0) being sent: its frame has kind 0xE0, tag 0 and the payload 00 00 00 00 01 00 00 00 01. The
rate is 115,200, 230,400, 460,800 or 921,600 baud; LTXD is at the level of a stop bit until that frame and after it, and
carries each byte of it in ten bit times: a start bit, the 8 data bits from the least significant, a stop bit, with no gap
between bytes. A second READY changes nothing (log entry 4). (R195, R196, R206, R211, R212, log entries 4 and 9) -/
def Obligations.ResetnHighReadsStrapsAndReadyFollows : Prop :=
  ∀ (s : State) (h l : Bool),
    let rate := match h, l with
      | false, false => 0
      | false, true => 1
      | true, false => 2
      | true, true => 3
    let on := State.powerOn rate s.pending
    let ready := on.setClc { on.clc with
      ready := .up, tx := .report { cls := .ready, code := 1, subject := 0, data := [0, 1] } false 0 }
    exec (.resetnHigh h l) s = .next on ∧ exec .ready on = .next ready ∧ exec .ready ready = .next ready
      ∧ ready.clc.tx.frame = frameBytes 0xE0 0 [0, 0, 0, 0, 1, 0, 0, 0, 1]
      ∧ baud on.clc.rate = (match h, l with
          | false, false => 115200
          | false, true => 230400
          | true, false => 460800
          | true, true => 921600)
      ∧ (∀ i, on.clc.tx.ltxd i = .stop) ∧ (∀ i, 10 * ready.clc.tx.frame.length ≤ i → ready.clc.tx.ltxd i = .stop)
      ∧ ∀ i b, ready.clc.tx.frame[i]? = some b → (List.range 10).map (fun k => ready.clc.tx.ltxd (10 * i + k))
          = [.start, .data (b.getLsbD 0), .data (b.getLsbD 1), .data (b.getLsbD 2), .data (b.getLsbD 3),
             .data (b.getLsbD 4), .data (b.getLsbD 5), .data (b.getLsbD 6), .data (b.getLsbD 7), .stop]

/-- On a free controller PART RESET answers a next state in which only its DONE reply is new. When the last byte of that
reply has been sent, every block is as after power-on but for the coach type table, the eight odometer parameters and the
link rate; requests, replies and reports that waited are gone, LINK_ERROR and every alarm flag are clear. A frame that was
being sent on the backbone has ended on both lines with the abort marker; that it comes after the symbols begun, once, and
not on quiet lines, is the model's inference (log entry 37). READY with cause PART_RESET is then sent first. (R209, R210,
R212, R83, R29, R174, R147, log entry 37) -/
def Obligations.PartResetRepliesThenResets : Prop :=
  ∀ (tag : Nat) (s : State), Free s →
    exec (.partReset tag) s = .next (answered 0x03 tag (some (.partReset tag)) .done [] s)
    ∧ ∀ t : State, t.clc.ready = .up → t.clc.tx = .reply (replyTo 0x03 tag .done []) →
      ∃ u, exec .transmitterFrameEnd t = .next u ∧ u.jt = .reset t.jt.config ∧ u.cm = .reset t.cm.types ∧ u.rs = .reset
        ∧ u.dc = .reset ∧ u.bc = { Bc.reset with cut := u.bc.cut } ∧ u.sup = .reset
        ∧ (∀ l, u.bc.sends l = if t.bc.frameEndsAt ≤ t.bc.clock then []
            else if t.bc.symbols.getLast? = some .abort then t.bc.symbols else t.bc.symbols ++ [.abort])
        ∧ u.clc = .reset t.clc.rate .partReset ∧ u.pending = t.pending
        ∧ exec .ready u = .next (u.setClc { u.clc with
            ready := .up, tx := .report { cls := .ready, code := 1, subject := 0, data := [1, 1] } false 0 })

/-- For every request command and every controller that takes frames: with fewer than 4 requests queued and either a
request queued or a reply being sent, it joins the end of the queue WAITING and nothing else changes. With 4 queued and
fewer than 4 QUEUE_FULL replies, a reply QUEUE_FULL without data, with its kind plus 0x80 and its tag, joins the reply
list, which an IDLE transmitter takes (R206). With 4 queued and 4 QUEUE_FULL replies, LINK_ERROR alone is set. (R201,
R199, R200, R206) -/
def Obligations.RequestsJoinTheQueueOrAreRefused : Prop :=
  ∀ (c : Instr) (kind tag : Nat) (s : State), c.request = some (kind, tag) → s.clc.ready = .up → s.dc.advanced = [] →
    exec c s = .next (
      if s.clc.queue.length < 4 then
        if s.clc.queue ≠ [] ∨ s.clc.tx.replying then
          s.withQueue (s.clc.queue ++ [{ kind := kind, tag := tag, command := some c, state := .waiting }])
        else event (submit kind tag c) s
      else if (s.clc.replies.filter fun r => !r.forHead).length < 4 then
        let full : Reply := { kind := kind + 0x80, tag := tag, result := .queueFull, data := [], forHead := false }
        s.setClc { s.clc with replies := s.clc.replies ++ [full] }.transmit
      else s.setClc { s.clc with linkError := true })

/-- On a free controller a request whose kind is not one of those in section 8.8 answers a next state in which only the
reply UNKNOWN_KIND without data is new. A complete frame with a good CRC, a kind of section 8.8 and a payload that spells
no command of that kind, its last CRC byte received on a free controller, answers a next state in which the receiver hunts
and only the reply BAD_FIELD with position 0 is new. (R203, R204, R198) -/
def Obligations.UnknownKindAndBadLayoutAreAnswered : Prop :=
  (∀ (kind tag : Nat) (s : State), Free s → kind ∉ requestKinds →
    exec (.unknownRequestKind kind tag) s = .next (answered kind tag none .unknownKind [] s))
  ∧ ∀ (kind tag : Nat) (payload : List Byte) (hi lo : Byte) (s : State), Free s → kind ∈ requestKinds → tag < 256 →
    payload.length ≤ 638 → parseRequest kind tag payload = none →
    let taken := u8 kind ++ u8 tag ++ payload
    s.clc.rx = .check taken.length taken (some hi) → crc16 (u16 taken.length ++ taken) = hi ++ lo →
    exec (.linkCharacterReceived (.byte lo)) s
      = .next (answered kind tag none .badField [0] (s.setClc { s.clc with rx := .hunt }))

/-- For every well-formed request command and every controller that takes frames with its receiver in HUNT: receiving the
frame's bytes one after another (sync, length, kind, tag, payload of the layout of its kind, CRC-16) leaves exactly the
state that the command row leaves. So the receiver's states, the CRC, the length checks and the layout of every request
kind agree with the row. (R196, R197, R198, R203, R224, R226, R227) -/
def Obligations.FrameByCharactersIsTheCommand : Prop :=
  ∀ (c : Instr) (kind tag : Nat) (s : State), c.wf = true → c.request = some (kind, tag) → s.clc.ready = .up →
    s.clc.rx = .hunt → s.dc.advanced = [] →
    (frameBytes kind tag (requestPayload c)).foldl
      (fun o b => match o with
        | .next t => exec (.linkCharacterReceived (.byte b)) t
        | x => x) (.next s) = exec c s

/-- On a controller that takes frames each character answers a next state that differs in the receiver and LINK_ERROR alone,
while no frame completes: in HUNT only 0xB6 begins a frame; a length of 2 to 640 goes on to BODY, any other is discarded; the
last body byte goes on to CHECK; a framing error or the gap timer discards a frame that has begun; each discard returns to
HUNT and sets LINK_ERROR, and so does a completed frame with a bad CRC or a kind of 0x60 or above. In HUNT no gap timer runs,
and its expiry changes nothing (log entry 4). A character delivers the byte of its 8 data bits, the least significant first,
when its stop bit is at the right level, and a framing error otherwise. (R195, R198, R199, R200, log entry 4) -/
def Obligations.ReceiverFollowsItsTable : Prop :=
  ∀ s : State, s.clc.ready = .up → s.dc.advanced = [] →
    let went (rx : LinkRx) := s.setClc { s.clc with rx := rx }
    let lost := s.setClc { s.clc with rx := .hunt, linkError := true }
    let char (b : Byte) := exec (.linkCharacterReceived (.byte b)) s
    (s.clc.rx = .hunt → (∀ b, char b = .next (if b = 0xB6 then went (.length none) else s))
        ∧ exec (.linkCharacterReceived .framingError) s = .next s ∧ exec .linkGapTimerExpiry s = .next s)
    ∧ (s.clc.rx ≠ .hunt →
        exec (.linkCharacterReceived .framingError) s = .next lost ∧ exec .linkGapTimerExpiry s = .next lost)
    ∧ (s.clc.rx = .length none → ∀ b, char b = .next (went (.length (some b))))
    ∧ (∀ hi, s.clc.rx = .length (some hi) → ∀ b, let n := 256 * hi.toNat + b.toNat
        char b = .next (if 2 ≤ n ∧ n ≤ 640 then went (.body n []) else lost))
    ∧ (∀ n p, s.clc.rx = .body n p → ∀ b,
        char b = .next (went (if p.length + 1 < n then .body n (p ++ [b]) else .check n (p ++ [b]) none)))
    ∧ (∀ n p, s.clc.rx = .check n p none → ∀ b, char b = .next (went (.check n p (some b))))
    ∧ (∀ n kind tag p hi lo, s.clc.rx = .check n (kind :: tag :: p) (some hi) →
        crc16 (u16 n ++ kind :: tag :: p) ≠ hi ++ lo ∨ 0x60 ≤ kind.toNat → char lo = .next lost)
    ∧ (∀ b : Byte, received (dataBits b) true = .byte b) ∧ ∀ bits, received bits false = .framingError

/-- While the controller takes frames, at the end of a frame of any kind but the DONE of PART RESET: a reply sent leaves the
reply list, and the head's reply takes the head out of the request queue. The transmitter then takes, before the next request
is handled (the model's choice, log entry 6), the oldest reply that waits; with none, the report of R217 with the overflow
mark and drop count, which are cleared; with neither it is IDLE. With no request WAITING at the head, that is all. A WAITING
head becomes HANDLING and is handled by R203, its result making its reply. When the head's reply was alone, with one request
behind it and no report, the state answered is the one that the arrival of that request at the then free controller gives.
(R202, R203, R204, R206, R216, R217, log entry 6) -/
def Obligations.FrameEndFreesTheTransmitter : Prop :=
  ∀ s : State, s.clc.ready = .up → s.dc.advanced = [] → s.clc.tx ≠ .idle →
    (∀ r, s.clc.tx = .reply r → ¬ (r.forHead = true ∧ r.kind = 0x83 ∧ r.result = .done)) →
    let gone : Clc := match s.clc.tx with
      | .reply r => { s.clc with replies := s.clc.replies.erase r
                                 queue := if r.forHead then s.clc.queue.tail else s.clc.queue }
      | _ => s.clc
    let taken : Clc := match gone.replies, gone.nextReport with
      | r :: _, _ => { gone with tx := .reply r }
      | [], some p =>
        { gone with tx := .report p gone.overflow gone.drops, reports := gone.reports.erase p, overflow := false, drops := 0 }
      | [], none => { gone with tx := .idle }
    ((∀ q ∈ gone.queue.head?, q.state ≠ .waiting) → exec .transmitterFrameEnd s = .next (s.setClc taken))
    ∧ (∀ q w, gone.queue = q :: w → q.state = .waiting →
        let begun := s.setClc { taken with queue := { q with state := .handling } :: w }
        exec .transmitterFrameEnd s = .next (event (fun t => settle (answerOf q t)) begun))
    ∧ ∀ (q : Queued) (r : Reply) (kind tag : Nat) (c : Instr), kind ∈ requestKinds →
        s.clc.queue = [q, { kind := kind, tag := tag, command := some c, state := .waiting }] → s.clc.replies = [r] →
        s.clc.tx = .reply r → r.forHead = true → s.clc.reports = [] →
        exec .transmitterFrameEnd s
          = .next (event (submit kind tag c) (s.setClc { s.clc with queue := [], replies := [], tx := .idle }))

/-- While the transmitter is sending (so that no report leaves the queue), a report raised: of a disabled class, changes
nothing; with a report of the same class, code and subject waiting, gives that report its data in its place; otherwise
joins the end of a queue of fewer than 24; at 24 it is dropped, the overflow mark is set, the drop count rises to at most
255 and REPORT_OVERFLOW is set. (R215) -/
def Obligations.ReportIsQueuedReplacedOrDropped : Prop :=
  ∀ (cls : ReportClass) (code subject : Nat) (data : List Byte) (s : State), s.clc.tx ≠ .idle →
    let same (q : Report) : Bool := q.cls = cls && q.code = code && q.subject = subject
    let r : Report := { cls := cls, code := code, subject := subject, data := data }
    raise cls code subject data s =
      if s.clc.enabled.has cls = false then s
      else if s.clc.reports.any same then
        s.setClc { s.clc with reports := s.clc.reports.map fun q => if same q then { q with data := data } else q }
      else if s.clc.reports.length < 24 then s.setClc { s.clc with reports := s.clc.reports ++ [r] }
      else s.setClc { s.clc with overflow := true, drops := min 255 (s.clc.drops + 1),
                                 alarms := { s.clc.alarms with overflow := true } }

/-- The report that the transmitter takes waits in the queue; no report of a class ranked above its class waits; and none
of its own class stands before it. READY comes first, then CONSIST, LINE, JOURNEY, RESERVATION, CALIBRATION under order A,
and JOURNEY, CONSIST, LINE, RESERVATION, CALIBRATION under order B. A report is found whenever one waits. (R217, R216,
R206) -/
def Obligations.ReportSentIsOfTheHighestRank : Prop :=
  ∀ (c : Clc),
    let rank (k : ReportClass) : Nat := match c.order, k with
      | _, .ready => 0
      | .a, .consist => 1 | .a, .line => 2 | .a, .journey => 3
      | .b, .journey => 1 | .b, .consist => 2 | .b, .line => 3
      | _, .reservation => 4 | _, .calibration => 5
    (c.reports ≠ [] → ∃ r, c.nextReport = some r)
    ∧ ∀ r, c.nextReport = some r → ∃ before after, c.reports = before ++ r :: after
        ∧ (∀ q ∈ before, rank r.cls < rank q.cls) ∧ ∀ q ∈ after, rank r.cls ≤ rank q.cls

/-- On a free controller: a set naming READY or a class above 5, or an order other than 0 (A) and 1 (B), is refused
BAD_FIELD and changes nothing. Otherwise the named classes become the enabled ones, the waiting reports of the others are
removed, the rest keep their order, the order is the one given, and the reply DONE carries the number removed; the
overflow mark, the drop count and everything else stay. (R218) -/
def Obligations.SetReportingFiltersTheQueue : Prop :=
  ∀ (tag classes order : Nat) (s : State), Free s →
    let on : Enabled := { consist := classes.testBit 1, line := classes.testBit 2, journey := classes.testBit 3,
                          reservation := classes.testBit 4, calibration := classes.testBit 5 }
    let kept := s.clc.reports.filter fun r => on.has r.cls
    exec (.setReporting tag classes order) s = .next (
      if classes.testBit 0 ∨ classes.testBit 6 ∨ classes.testBit 7 ∨ 1 < order then
        answered 0x04 tag (some (.setReporting tag classes order)) .badField [] s
      else
        answered 0x04 tag (some (.setReporting tag classes order)) .done (u8 (s.clc.reports.length - kept.length))
          (s.setClc { s.clc with enabled := on, order := if order = 0 then .a else .b, reports := kept }))

/-- On a free controller: a set naming more than the six flags is refused BAD_FIELD and changes nothing. Otherwise a flag
is cleared exactly when it is named and its condition does not hold; the reply DONE carries the named set flags cleared,
the named set flags whose condition holds, and the flags set after it; nothing else changes. (R220, R221) -/
def Obligations.AckAlarmsClearsWhatIsOver : Prop :=
  ∀ (tag flags : Nat) (s : State), Free s →
    let flag6 (f : Bool → Bool → Bool → Bool) : Alarms :=
      let a := s.clc.alarms
      let h := conditions s
      { lineA := f a.lineA (flags.testBit 0) h.lineA, lineB := f a.lineB (flags.testBit 1) h.lineB,
        coachMute := f a.coachMute (flags.testBit 2) h.coachMute,
        coachLost := f a.coachLost (flags.testBit 3) h.coachLost,
        overflow := f a.overflow (flags.testBit 4) h.overflow, stale := f a.stale (flags.testBit 5) h.stale }
    let cleared := flag6 fun set named holds => set && named && !holds
    let left := flag6 fun set named holds => set && named && holds
    let after := flag6 fun set named holds => set && (!named || holds)
    exec (.ackAlarms tag flags) s = .next (
      if 64 ≤ flags then answered 0x05 tag (some (.ackAlarms tag flags)) .badField [] s
      else
        answered 0x05 tag (some (.ackAlarms tag flags)) .done
          (u8 (bitSet cleared.bits) ++ u8 (bitSet left.bits) ++ u8 (bitSet after.bits))
          (s.setClc { s.clc with alarms := after }))

/-- On a free controller SUMMARY is answered DONE with the alarm flags and their conditions, for each line whether a line
flag is set, MISMATCH, the line states, LINK_ERROR as it stands, the reports waiting with the overflow mark and drop
count, the list entries in PROBATION, ACTIVE, MUTE and DEPARTING and the detached entries, the home phase and the staging
state. LINK_ERROR is then clear, and nothing else changes. DESCRIBE PART of length 0 is refused BAD_FIELD with position 1;
of any other it is DONE with the first bytes, as many as requested, of: 00 1D, 0B and 'Scelvia P16', revision 1, the link
rate, 4, 40, 4, 16, 8, 20, 6, 10 00, 4, 12, 4, 24; nothing else changes. The bytes of
SUMMARY follow the order of R223 in the widths of R224 (log entry 13). (R223, R207, R200, R224, R225, R227, log entry 13) -/
def Obligations.SummaryAndDescribePartCarryTheirReplies : Prop :=
  (∀ (tag : Nat) (s : State), Free s →
    let count (x : EntryState) : List Byte := u8 (s.cm.list.filter fun e => e.state = x).length
    exec (.summary tag) s = .next (answered 0x06 tag (some (.summary tag)) .done
      (u8 (bitSet s.clc.alarms.bits) ++ u8 (bitSet (conditions s).bits)
        ++ flag s.sup.a.flags.any ++ flag s.sup.b.flags.any ++ flag s.sup.mismatch
        ++ u8 s.sup.a.state.code ++ u8 s.sup.b.state.code ++ flag s.clc.linkError
        ++ u8 s.clc.reports.length ++ flag s.clc.overflow ++ u8 s.clc.drops
        ++ count .probation ++ count .active ++ count .mute ++ count .departing ++ u8 s.cm.detached.length
        ++ u8 s.jt.phase.code ++ u8 s.rs.staging.code)
      (s.setClc { s.clc with linkError := false })))
  ∧ ∀ (tag length : Nat) (s : State), Free s →
    let description : List Byte :=
      [0, 29, 11, 0x53, 0x63, 0x65, 0x6C, 0x76, 0x69, 0x61, 0x20, 0x50, 0x31, 0x36, 1, BitVec.ofNat 8 s.clc.rate,
       4, 40, 4, 16, 8, 20, 6, 0x10, 0x00, 4, 12, 4, 24]
    exec (.describePart tag length) s = .next (
      if length = 0 then answered 0x01 tag (some (.describePart tag length)) .badField [1] s
      else answered 0x01 tag (some (.describePart tag length)) .done (description.take length) s)

/-- On a free controller LINK RESET answers DONE with no report queued, the overflow mark clear, the drop count 0, every
class enabled, order A and LINK_ERROR clear; nothing else changes. Handled as the head with requests behind it, none of
those remains in the queue and none has acted. (R208, R202) -/
def Obligations.LinkResetEmptiesTheLink : Prop :=
  (∀ (tag : Nat) (s : State), Free s →
    exec (.linkReset tag) s = .next (answered 0x02 tag (some (.linkReset tag)) .done []
      (s.setClc { s.clc with reports := [], overflow := false, drops := 0, enabled := .all, order := .a,
                             linkError := false })))
  ∧ ∀ (tag : Nat) (q : Queued) (behind : List Queued) (r : Reply) (s : State), s.clc.ready = .up → s.dc.advanced = [] →
      s.clc.queue = q :: { kind := 0x02, tag := tag, command := some (.linkReset tag), state := .waiting } :: behind →
      s.clc.replies = [r] → s.clc.tx = .reply r → r.forHead = true → ¬ (r.kind = 0x83 ∧ r.result = .done) →
      s.clc.reports = [] →
      exec .transmitterFrameEnd s = .next (answered 0x02 tag (some (.linkReset tag)) .done []
        (s.setClc { s.clc with tx := .idle, overflow := false, drops := 0, enabled := .all, order := .a,
                               linkError := false }))

/-- On a free controller OPEN ROUTE with a slot above 3 or a destination that is empty, longer than 24 or not printable is
refused BAD_FIELD; on an EMPTY or READY slot it is DONE, the slot in EDIT with the code, the destination and no stop; on
EDIT WRONG_STATE, on IN_USE IN_USE. DROP ROUTE with a slot above 3 is refused BAD_FIELD, on EMPTY NOT_FOUND, on IN_USE
IN_USE; on EDIT or READY it is DONE and the slot is EMPTY with nothing in it. A refusal changes nothing, and nothing else
changes. (R3, R6) -/
def Obligations.OpenAndDropRouteFollowTheSlotState : Prop :=
  (∀ (tag slot code : Nat) (dest : Text) (s : State), Free s →
    let reply := answered 0x10 tag (some (.openRoute tag slot code dest))
    exec (.openRoute tag slot code dest) s = .next (
      if 3 < slot ∨ dest.length = 0 ∨ 24 < dest.length ∨ ∃ b ∈ dest, b.toNat < 0x20 ∨ 0x7E < b.toNat then
        reply .badField [] s
      else match (s.jt.slots.get slot).state with
        | .edit => reply .wrongState [] s
        | .inUse => reply .inUse [] s
        | .empty | .ready => reply .done [] (s.setJt { s.jt with
            slots := s.jt.slots.set slot { state := .edit, code := code, dest := dest, stops := [] } })))
  ∧ ∀ (tag slot : Nat) (s : State), Free s →
    let reply := answered 0x13 tag (some (.dropRoute tag slot))
    exec (.dropRoute tag slot) s = .next (
      if 3 < slot then reply .badField [] s
      else match (s.jt.slots.get slot).state with
        | .empty => reply .notFound [] s
        | .inUse => reply .inUse [] s
        | .edit | .ready => reply .done [] (s.setJt { s.jt with
            slots := s.jt.slots.set slot { state := .empty, code := 0, dest := [], stops := [] } }))

/-- On a free controller: a slot above 3 gives BAD_FIELD, an EMPTY slot NOT_FOUND, a READY or IN_USE slot WRONG_STATE; in
EDIT 0 or more than 6 records give BAD_FIELD, the first record with a bad name, side or column gives BAD_FIELD with its
position, more than 40 stops NO_SPACE; otherwise the records are added at the end in their order with the cancelled mark
clear, and the reply DONE carries the new stop count. Nothing else changes. (R4) -/
def Obligations.AppendStopsChecksThenAppends : Prop :=
  ∀ (tag slot : Nat) (stops : List StopFields) (s : State), Free s →
    let bad (f : StopFields) : Bool :=
      f.name.length = 0 || 20 < f.name.length || !f.name.all (fun b => 0x20 ≤ b.toNat && b.toNat ≤ 0x7E) || 3 < f.side
        || 1023 < f.column
    let taken (f : StopFields) : Stop :=
      { code := f.code, name := f.name, leg := f.leg,
        side := match f.side with
          | 1 => .left
          | 2 => .right
          | 3 => .both
          | _ => .none
        approach := f.approach, announce := f.announce, column := f.column, cancelled := false }
    let reply := answered 0x11 tag (some (.appendStops tag slot stops))
    let route := s.jt.slots.get slot
    exec (.appendStops tag slot stops) s = .next (
      if 3 < slot then reply .badField [] s
      else match route.state with
        | .empty => reply .notFound [] s
        | .ready | .inUse => reply .wrongState [] s
        | .edit =>
          if stops.length = 0 ∨ 6 < stops.length then reply .badField [] s
          else match stops.findIdx? bad with
            | some i => reply .badField (u8 i) s
            | none =>
              if 40 < route.stops.length + stops.length then reply .noSpace [] s
              else reply .done (u8 (route.stops.length + stops.length)) (s.setJt { s.jt with
                slots := s.jt.slots.set slot { route with stops := route.stops ++ stops.map taken } }))

/-- On a free controller: a slot above 3 gives BAD_FIELD, an EMPTY slot NOT_FOUND, a READY or IN_USE slot WRONG_STATE. In
EDIT: fewer than 2 stops give BAD_FIELD with the stop count and check 0; when checks 1 to 5 (leg, distances, announce
within approach, rising column, unique code) pass at every index below i and those before n pass at i while n fails,
BAD_FIELD with i and n, the slot unchanged; when all pass at every index, the slot is READY and the reply DONE carries the
stop count. (R5) -/
def Obligations.CloseRouteNamesTheFirstFailure : Prop :=
  ∀ (tag slot : Nat) (s : State), Free s →
    let reply := answered 0x12 tag (some (.closeRoute tag slot))
    let route := s.jt.slots.get slot
    let stops := route.stops
    let failing (i : Nat) (n : Nat) : Prop := ∃ p, stops[i]? = some p ∧ (
      (n = 1 ∧ if i = 0 then p.leg ≠ 0 else p.leg < 100 ∨ 250000 < p.leg)
      ∨ (n = 2 ∧ (20000 < p.approach ∨ 5000 < p.announce))
      ∨ (n = 3 ∧ p.approach ≠ 0 ∧ p.announce ≠ 0 ∧ p.approach < p.announce)
      ∨ (n = 4 ∧ 0 < i ∧ ∃ q, stops[i - 1]? = some q ∧ p.column ≤ q.column)
      ∨ (n = 5 ∧ ∃ j < i, ∃ q, stops[j]? = some q ∧ q.code = p.code))
    (3 < slot → exec (.closeRoute tag slot) s = .next (reply .badField [] s))
    ∧ (slot ≤ 3 → route.state = .empty → exec (.closeRoute tag slot) s = .next (reply .notFound [] s))
    ∧ (slot ≤ 3 → route.state = .ready ∨ route.state = .inUse →
        exec (.closeRoute tag slot) s = .next (reply .wrongState [] s))
    ∧ (slot ≤ 3 → route.state = .edit → stops.length < 2 →
        exec (.closeRoute tag slot) s = .next (reply .badField (u8 stops.length ++ u8 0) s))
    ∧ (∀ i n, slot ≤ 3 → route.state = .edit → 2 ≤ stops.length → failing i n → (∀ m < n, ¬ failing i m) →
        (∀ j < i, ∀ m, ¬ failing j m) → exec (.closeRoute tag slot) s = .next (reply .badField (u8 i ++ u8 n) s))
    ∧ (slot ≤ 3 → route.state = .edit → 2 ≤ stops.length → (∀ i n, ¬ failing i n) →
        exec (.closeRoute tag slot) s = .next (reply .done (u8 stops.length)
          (s.setJt { s.jt with slots := s.jt.slots.set slot { route with state := .ready } })))

/-- On a free controller, for a READY slot that no portion table entry names: CANCEL STOP of a stop that is neither the
last nor cancelled sets its mark, RESTORE STOP of a cancelled stop clears it; each is DONE with 1 and changes the route
alone. Cancelling a cancelled or last stop, or restoring one that is not cancelled, is WRONG_STATE and changes nothing; an
index at or above the stop count is OUT_OF_RANGE. On the home route in use, CANCEL STOP of a stop above every current
index on the slot, not the last, not cancelled and no part-at index, is DONE with the number of routes marked: a stop is
then cancelled if it was, if it is that stop of the home slot, or if it stands at i + delta in the slot of a portion entry
that is not home, uses another slot and whose common span contains i; no portion, phase, distance, bank or consist entry
changes. (R9, R10, R11, R12) -/
def Obligations.CancelAndRestoreSetTheMarks : Prop :=
  (∀ (tag slot index : Nat) (s : State), Free s → slot ≤ 3 → (s.jt.slots.get slot).state = .ready →
    (∀ p ∈ s.jt.portions, p.slot ≠ slot) →
    let route := s.jt.slots.get slot
    let cancel := answered 0x15 tag (some (.cancelStop tag slot index))
    let restore := answered 0x16 tag (some (.restoreStop tag slot index))
    let put (v : Bool) (p : Stop) := s.setJt { s.jt with
      slots := s.jt.slots.set slot { route with stops := route.stops.set index { p with cancelled := v } } }
    (∀ p, route.stops[index]? = some p →
      exec (.cancelStop tag slot index) s = .next (
        if index + 1 = route.stops.length ∨ p.cancelled then cancel .wrongState [] s else cancel .done [1] (put true p))
      ∧ exec (.restoreStop tag slot index) s = .next (
        if p.cancelled then restore .done [1] (put false p) else restore .wrongState [] s))
    ∧ (route.stops.length ≤ index →
        exec (.cancelStop tag slot index) s = .next (cancel .outOfRange [] s)
        ∧ exec (.restoreStop tag slot index) s = .next (restore .outOfRange [] s)))
  ∧ ∀ (tag i : Nat) (h : Portion) (s : State), Free s → s.jt.home = some h → h.slot ≤ 3 →
    ((s.jt.slots.get h.slot).state = .inUse ∨ (s.jt.slots.get h.slot).state = .ready) →
    (∀ p ∈ s.jt.portions, p.slot = h.slot → ∀ x ∈ s.jt.currentIndex p, x < i) →
    i + 1 < (s.jt.slots.get h.slot).stops.length →
    (∀ p ∈ (s.jt.slots.get h.slot).stops[i]?, p.cancelled = false) → (∀ p ∈ s.jt.portions, p.partAt ≠ some i) →
    let aligned := s.jt.portions.filter fun p => !p.home && p.slot ≠ h.slot && s.jt.inSpan p i
    let hit (n k : Nat) : Bool := (n = h.slot && k = i) || aligned.any fun p => p.slot = n && p.own i = k
    ∃ t, exec (.cancelStop tag h.slot i) s = .next t
      ∧ (∀ n k, n ≤ 3 → (t.jt.slots.get n).stops[k]?
          = ((s.jt.slots.get n).stops[k]?).map fun (p : Stop) => { p with cancelled := p.cancelled || hit n k })
      ∧ t.jt.portions = s.jt.portions ∧ t.jt.phase = s.jt.phase ∧ t.jt.odo = s.jt.odo ∧ t.jt.config = s.jt.config
      ∧ t.rs = s.rs ∧ t.cm.unmarked = s.cm.unmarked ∧ AbortAtMost s t
      ∧ t.clc.replies = [replyTo 0x15 tag .done (u8 (1 + ((aligned.map fun p => (p.slot, p.own i)).dedup).length))]

/-- On a free controller in NO_JOURNEY with an empty portion table: for unit 1 up, a READY slot, part-at NONE and a stop
below the last that is not cancelled, ASSIGN UNIT HOME is DONE. The portion table holds the unit with delta 0, ATTACHED
and home; the slot is IN_USE; the phase AT_STOP(j), the notice state AT_PLATFORM(j); D, rem, eta_s and eta_min are 0,
ETA_HELD and tainted clear, pos and the portion's position the stop's column; the arrival clock the time of day if valid.
The banks lose the segments of the slot's records that end at or before j (the staging bank when OPEN or ARMED). No
consist entry but for marks and agreement changes. (R14, R45, R111) -/
def Obligations.AssignUnitHomeStartsTheJourney : Prop :=
  ∀ (tag unit slot j : Nat) (q : Stop) (s : State), Free s → s.jt.phase = .noJourney → s.jt.portions = [] →
    0 < unit → slot ≤ 3 → (s.jt.slots.get slot).state = .ready → j + 1 < (s.jt.slots.get slot).stops.length →
    (s.jt.slots.get slot).stops[j]? = some q → q.cancelled = false →
    let route := s.jt.slots.get slot
    let purge := List.map (Vehicle.purge [(slot, j)])
    ∃ t, exec (.assignUnitHome tag unit slot j 0xFF) s = .next t
      ∧ t.jt = { s.jt with
          slots := s.jt.slots.set slot { route with state := .inUse }
          portions := [{ unit := unit, slot := slot, delta := 0, partAt := none, state := .attached, home := true,
                         assignedAt := j, pos := some q.column }]
          phase := .atStop j
          notice := .atPlatform j
          odo := { s.jt.odo with
            dist := 0, rem := 0, etaS := 0, etaHeld := false, tainted := false, pos := q.column, etaMin := 0,
            clock := if s.jt.timeValid then some (s.jt.minute % 1440) else none } }
      ∧ t.rs.liveBank = purge s.rs.liveBank
      ∧ t.rs.stagingBank = (if s.rs.staging.open? then purge s.rs.stagingBank else s.rs.stagingBank)
      ∧ t.rs.live = s.rs.live ∧ t.rs.staging = s.rs.staging
      ∧ t.cm.outline = s.cm.outline
      ∧ t.clc.replies = [replyTo 0x17 tag .done []]

/-- On a free controller in AT_STOP(c), for a unit with no entry and a table of fewer than 4: when the slot is READY or
IN_USE, the part-at index e (the last home index for NONE) is at least c, at most the last home index and not cancelled
when given, the codes and marks of home stops c to e are those of the slot's stops j on, and every entry naming the slot
has delta j - c, ASSIGN UNIT is DONE with delta. The new entry stands last (log entry 25), ATTACHED, not home, assigned at
c; the slot is IN_USE; the other entries, the phase and the notice state stay. (R15, R1, R204, log entry 25) -/
def Obligations.AssignUnitPlacesThePortion : Prop :=
  ∀ (tag unit slot j partAt c e : Nat) (s : State), Free s → s.jt.phase = .atStop c → 0 < unit → slot ≤ 3 →
    (∀ p ∈ s.jt.portions, p.unit ≠ unit) → s.jt.portions.length < 4 →
    ((s.jt.slots.get slot).state = .ready ∨ (s.jt.slots.get slot).state = .inUse) →
    e = (if partAt = 0xFF then s.jt.homeLast else partAt) → c ≤ e → e ≤ s.jt.homeLast →
    j < (s.jt.slots.get slot).stops.length → j + e - c < (s.jt.slots.get slot).stops.length →
    (partAt ≠ 0xFF → ∀ p ∈ s.jt.homeStops[e]?, p.cancelled = false) →
    (∀ i ≤ e - c, ∃ a b, s.jt.homeStops[c + i]? = some a ∧ (s.jt.slots.get slot).stops[j + i]? = some b
      ∧ a.code = b.code ∧ a.cancelled = b.cancelled) →
    (∀ p ∈ s.jt.portions, p.slot = slot → p.delta = Int.ofNat j - Int.ofNat c) →
    ∃ t p, exec (.assignUnit tag unit slot j partAt) s = .next t
      ∧ t.jt.portions = s.jt.portions ++ [p]
      ∧ p.unit = unit ∧ p.slot = slot ∧ p.delta = Int.ofNat j - Int.ofNat c ∧ p.state = .attached ∧ p.home = false
      ∧ p.partAt = (if partAt = 0xFF then none else some partAt) ∧ p.assignedAt = c
      ∧ t.jt.slots = s.jt.slots.set slot { s.jt.slots.get slot with state := .inUse }
      ∧ t.jt.phase = s.jt.phase ∧ t.jt.notice = s.jt.notice ∧ t.jt.odo = s.jt.odo
      ∧ t.cm.outline = s.cm.outline ∧ t.rs.staging = s.rs.staging ∧ t.rs.live = s.rs.live
      ∧ t.clc.replies = [replyTo 0x17 tag .done (i8 (Int.ofNat j - Int.ofNat c))]

/-- On a free controller: in NO_JOURNEY, or with an entry PARTING, WRONG_STATE and nothing changes. Otherwise DONE: every
IN_USE slot is READY, the portion table empty, the phase NO_JOURNEY, the notice state NONE, D, rem, eta_s, eta_min and pos
0, ETA_HELD (as R45 has it, log entry 29) and tainted clear, the arrival clock the time of day if valid; the
configuration, direction, time, banks and staging state stay; every list entry is NOT_AGREEING with cause UNIT_UNASSIGNED,
and beyond that only marks and valid kinds of its blocks change. (R17, R45, R117, log entry 29) -/
def Obligations.EndJourneyEmptiesThePortionTable : Prop :=
  ∀ (tag : Nat) (s : State), Free s →
    let stopped := s.jt.phase = .noJourney ∨ ∃ p ∈ s.jt.portions, p.state = .parting
    let ready (r : RouteSlot) : RouteSlot := { r with state := if r.state = .inUse then .ready else r.state }
    (stopped → exec (.endJourney tag) s = .next (answered 0x18 tag (some (.endJourney tag)) .wrongState [] s))
    ∧ (¬ stopped → ∃ t, exec (.endJourney tag) s = .next t
        ∧ t.jt = { s.jt with
            slots := ⟨ready s.jt.slots.s0, ready s.jt.slots.s1, ready s.jt.slots.s2, ready s.jt.slots.s3⟩
            portions := []
            phase := .noJourney
            notice := .none
            odo := { s.jt.odo with
              dist := 0, rem := 0, etaS := 0, etaHeld := false, tainted := false, pos := 0, etaMin := 0,
              clock := if s.jt.timeValid then some (s.jt.minute % 1440) else none } }
        ∧ t.rs = s.rs ∧ (∀ e ∈ t.cm.list, e.agree = .unitUnassigned) ∧ t.cm.outline = s.cm.outline ∧ AbortAtMost s t
        ∧ t.clc = (answered 0x18 tag (some (.endJourney tag)) .done [] s).clc)

/-- On a free controller: in AT_STOP(c) DEPARTED is DONE with already-running clear, the phase is RUNNING from c, the
notice state NONE, D, rem, eta_s and eta_min 0, ETA_HELD set, tainted clear, pos that of stop c, the speed, the
configuration, the skip counter, the time and the routes unchanged. In RUNNING it is DONE with already-running set and
nothing changes; in NO_JOURNEY and TERMINATED it is WRONG_STATE and nothing changes. On a free controller in AT_STOP(c)
with no list entry DEPARTING: at DEPARTED, a staging bank armed for a home index i at or below c becomes the live bank,
the old live bank is emptied and staging is CLOSED; otherwise bank select and staging state stay. Then every record of the
live bank whose slot has an index x loses its leading segments that end at or below x, and so do those of a staging bank
left OPEN or ARMED; records of a slot without an index keep theirs. (R18, R19, R21, R45, R88, R109, R110) -/
def Obligations.DepartedStartsTheLegSwitchesAndPurges : Prop :=
  (∀ (tag : Nat) (s : State), Free s →
     (∀ c, s.jt.phase = .atStop c → ∃ t, exec (.departed tag) s = .next t
       ∧ t.jt.phase = .running c ∧ t.jt.notice = .none ∧ t.jt.slots = s.jt.slots ∧ t.jt.config = s.jt.config
       ∧ t.jt.odo = { s.jt.odo with
           dist := 0, rem := 0, etaS := 0, etaHeld := true, tainted := false, etaMin := 0,
           pos := t.jt.homePosition,
           clock := if s.jt.timeValid then some (s.jt.minute % 1440) else none }
       ∧ t.jt.direction = s.jt.direction ∧ t.jt.minute = s.jt.minute
       ∧ t.clc.replies = [replyTo 0x19 tag .done [0]])
     ∧ (∀ c, s.jt.phase = .running c →
         exec (.departed tag) s = .next (answered 0x19 tag (some (.departed tag)) .done [1] s))
     ∧ (s.jt.phase = .noJourney ∨ (∃ c, s.jt.phase = .terminated c) →
         exec (.departed tag) s = .next (answered 0x19 tag (some (.departed tag)) .wrongState [] s)))
  ∧ ∀ (tag c : Nat) (s : State), Free s → s.jt.phase = .atStop c → (∀ e ∈ s.cm.list, e.state ≠ .departing) →
    let purge := List.map (Vehicle.purge s.jt.slotIndices)
    ∃ t, exec (.departed tag) s = .next t
      ∧ ((∃ i ∈ s.rs.staging.trigger, i ≤ c) →
          t.rs.live = s.rs.live.other ∧ t.rs.staging = .closed ∧ t.rs.diverged = false
          ∧ t.rs.liveBank = purge s.rs.stagingBank ∧ t.rs.stagingBank = [])
      ∧ ((∀ i ∈ s.rs.staging.trigger, c < i) →
          t.rs.live = s.rs.live ∧ t.rs.staging = s.rs.staging ∧ t.rs.diverged = s.rs.diverged
          ∧ t.rs.liveBank = purge s.rs.liveBank
          ∧ t.rs.stagingBank = (if s.rs.staging.open? then purge s.rs.stagingBank else s.rs.stagingBank)
          ∧ t.rs.recorded = (if s.rs.staging = .copying then s.rs.recorded ++ [.purge s.jt.slotIndices]
                             else s.rs.recorded))

/-- On a free controller in RUNNING from c: with m the first home stop above c, not cancelled, with the code, ARRIVED is
DONE with m and the stops skipped (0 at the next stop, otherwise the stops not cancelled between c and m); the phase is
AT_STOP(m), or TERMINATED(m) at the last stop, the notice state AT_PLATFORM(m), D, rem, eta_s and eta_min 0, ETA_HELD and
tainted clear, the speed unchanged. With no such stop it is NOT_FOUND, and in any other phase WRONG_STATE; then nothing
changes. (R22, R45, R46, R48) -/
def Obligations.ArrivedTakesTheStop : Prop :=
  ∀ (tag code : Nat) (s : State), Free s →
    let served (c i : Nat) : Prop := c < i ∧ ∃ q, s.jt.homeStops[i]? = some q ∧ q.cancelled = false ∧ q.code = code
    let refused (r : ResultCode) := answered 0x1A tag (some (.arrived tag code)) r [] s
    (∀ c m, s.jt.phase = .running c → served c m → (∀ i < m, ¬ served c i) →
      let skipped := if s.jt.next = some m then 0
        else (s.jt.homeStops.zipIdx.filter fun x => c < x.2 && x.2 < m && !x.1.cancelled).length
      ∃ t, exec (.arrived tag code) s = .next t
        ∧ t.jt.phase = (if m + 1 = s.jt.homeStops.length then .terminated m else .atStop m)
        ∧ t.jt.notice = .atPlatform m ∧ t.jt.slots = s.jt.slots ∧ t.jt.direction = s.jt.direction
        ∧ t.jt.portions.map (·.unit) = s.jt.portions.map (·.unit)
        ∧ t.jt.odo.dist = 0 ∧ t.jt.odo.rem = 0 ∧ t.jt.odo.etaS = 0 ∧ t.jt.odo.etaMin = 0 ∧ t.jt.odo.etaHeld = false
        ∧ t.jt.odo.tainted = false ∧ t.jt.odo.speed = s.jt.odo.speed ∧ t.jt.odo.pulses = s.jt.odo.pulses
        ∧ t.rs = s.rs
        ∧ t.clc.replies = [replyTo 0x1A tag .done (u8 m ++ u8 skipped)])
    ∧ (∀ c, s.jt.phase = .running c → (∀ i, ¬ served c i) →
        exec (.arrived tag code) s = .next (refused .notFound))
    ∧ ((∀ c, s.jt.phase ≠ .running c) → exec (.arrived tag code) s = .next (refused .wrongState))

/-- On a free controller in RUNNING, for the ARRIVED of a stop that is found. When it is the next stop, the leg is
untainted, S is at least the minimum leg and 2 D at least S: L' is (2 L S + D) div (2 D), held within floor(L x limit /
1000) of L and then within 1,000 to 60,000, becomes the pulse length, and the skip counter is 0. Otherwise the pulse
length stays and the skip counter grows by 1 up to its limit; the step that reaches the limit sets CALIBRATION_STALE. The
other seven parameters stay. (R46, R47, R48, R30) -/
def Obligations.ArrivalCalibratesOrSkips : Prop :=
  ∀ (tag code c m : Nat) (q : Stop) (s : State), Free s → s.jt.phase = .running c → c < m →
    s.jt.homeStops[m]? = some q → q.cancelled = false → q.code = code →
    (∀ i < m, c < i → ∀ p, s.jt.homeStops[i]? = some p → p.cancelled = false → p.code ≠ code) →
    let L := s.jt.config.pulseLen
    let S := s.jt.legEff
    let D := s.jt.odo.dist
    let lim := L * s.jt.config.correction / 1000
    let L' := (2 * L * S + D) / (2 * D)
    let value := if L + lim < L' then L + lim else if L' < L - lim then L - lim else L'
    let used := s.jt.next = some m ∧ s.jt.odo.tainted = false ∧ s.jt.config.minLeg ≤ S ∧ S ≤ 2 * D
    ∃ t, exec (.arrived tag code) s = .next t
      ∧ (used → t.jt.config = { s.jt.config with pulseLen := min 60000 (max 1000 value) } ∧ t.jt.odo.skips = 0)
      ∧ (¬ used → t.jt.config = s.jt.config
          ∧ t.jt.odo.skips = (if s.jt.odo.skips < s.jt.config.skipLimit then s.jt.odo.skips + 1 else s.jt.odo.skips)
          ∧ (s.jt.odo.skips + 1 = s.jt.config.skipLimit → t.clc.alarms.stale = true))

/-- On a free controller: a value other than 0 (HEAD_FIRST) and 1 (HEAD_LAST) gives BAD_FIELD; in RUNNING a valid value
gives WRONG_STATE; otherwise DONE. A value that changes the direction sets it and marks the valid HEADER and MAP blocks of
every list entry; the value already held changes nothing. The direction is HEAD_FIRST after power-on and PART RESET, and
LINK RESET leaves it. (R27) -/
def Obligations.SetDirectionMarksEveryMirror : Prop :=
  (∀ (tag direction : Nat) (s : State), Free s →
    let c : Instr := .setDirection tag direction
    let d : Direction := if direction = 0 then .headFirst else .headLast
    let running := ∃ x, s.jt.phase = .running x
    (1 < direction → exec c s = .next (answered 0x1B tag (some c) .badField [] s))
    ∧ (direction ≤ 1 → running → exec c s = .next (answered 0x1B tag (some c) .wrongState [] s))
    ∧ (direction ≤ 1 → ¬ running → d = s.jt.direction → exec c s = .next (answered 0x1B tag (some c) .done [] s))
    ∧ (direction ≤ 1 → ¬ running → d ≠ s.jt.direction → ∃ t, exec c s = .next t
        ∧ MarkedReply s t { s.jt with direction := d } s.rs 0x1B tag c []
        ∧ t.cm = s.cm.marked fun _ k => k = .header || k = .map))
  ∧ State.reset.jt.direction = .headFirst
  ∧ (∀ s : State, (partReset s).jt.direction = .headFirst)
  ∧ ∀ (tag : Nat) (s t : State), exec (.linkReset tag) s = .next t → Free s → t.jt.direction = s.jt.direction

/-- On a free controller SET TIME above 1439 gives BAD_FIELD and changes nothing; otherwise it is DONE, the minute is set,
its flag set, eta_min is ceil(eta_s / 60) and the arrival clock the minute plus eta_min modulo 1440. MINUTE_TIMER_EXPIRY
on a running controller advances the minute by 1, from 1439 to 0, keeps the flag, and forms the arrival clock again (none
while the flag is clear). A change of eta_min or of the arrival clock marks the HEADER of the coaches whose portion has a
current index; nothing else changes. (R28, R40, R44) -/
def Obligations.TimeOfDayIsSetAndAdvances : Prop :=
  ∀ s : State,
    let m := ceilDiv s.jt.odo.etaS 60
    let told (minute : Nat) (valid : Bool) : Jt := { s.jt with
      minute := minute, timeValid := valid
      odo := { s.jt.odo with etaMin := m, clock := if valid then some ((minute + m) % 1440) else none } }
    let headers (j : Jt) : Cm := if j.odo.etaMin = s.jt.odo.etaMin ∧ j.odo.clock = s.jt.odo.clock then s.cm
      else s.cm.marked fun e k => k = .header && (s.jt.unitIndex e.coach.unit).isSome
    (∀ tag minute, Free s → 1439 < minute →
      exec (.setTime tag minute) s = .next (answered 0x1C tag (some (.setTime tag minute)) .badField [] s))
    ∧ (∀ tag minute, Free s → minute ≤ 1439 → ∃ t, exec (.setTime tag minute) s = .next t
        ∧ MarkedReply s t (told minute true) s.rs 0x1C tag (.setTime tag minute) [] ∧ t.cm = headers (told minute true))
    ∧ (s.clc.ready = .up → s.dc.advanced = [] → ∃ t, exec .minuteTimerExpiry s = .next t
        ∧ t.jt = told ((s.jt.minute + 1) % 1440) s.jt.timeValid
        ∧ t.cm = headers (told ((s.jt.minute + 1) % 1440) s.jt.timeValid)
        ∧ t.rs = s.rs ∧ t.dc = s.dc ∧ t.clc = s.clc ∧ AbortAtMost s t)

/-- On a free controller: when a parameter lies outside its range of R29 and those before it within theirs, BAD_FIELD
carries its position 1 to 8 and nothing changes. When all are in range all are replaced and the reply is DONE: a changed
pulse length sets the skip counter to 0; with the pulse length unchanged a new skip limit at or below the counter sets the
counter to it, and sets CALIBRATION_STALE if the counter was below the old limit; otherwise the counter stays. D, rem, v
and the rest of the odometer state stay, as do banks, consist and rotation. (R30, R29) -/
def Obligations.ConfigureOdometerReplacesAllOrNone : Prop :=
  ∀ (tag : Nat) (p : OdoConfig) (s : State), Free s →
    let ranges : List (Nat × Nat × Nat) :=
      [(1000, 60000, p.pulseLen), (1, 6, p.shift), (100, 5000, p.vmin), (20, 500, p.creep), (1, 50, p.correction),
       (10, 5000, p.offset), (500, 50000, p.minLeg), (1, 15, p.skipLimit)]
    let bad (x : Nat × Nat × Nat) : Bool := x.2.2 < x.1 || x.2.1 < x.2.2
    let old := s.jt.config
    let skips := s.jt.odo.skips
    let after := if p.pulseLen ≠ old.pulseLen then 0 else min skips p.skipLimit
    let stale := p.pulseLen = old.pulseLen ∧ p.skipLimit ≤ skips ∧ skips < old.skipLimit
    match ranges.findIdx? bad with
    | some i => exec (.configureOdometer tag p) s
        = .next (answered 0x1D tag (some (.configureOdometer tag p)) .badField (u8 (i + 1)) s)
    | none => ∃ t, exec (.configureOdometer tag p) s = .next t
        ∧ t.jt = { s.jt with config := p, odo := { s.jt.odo with skips := after } }
        ∧ t.cm = s.cm ∧ t.rs = s.rs ∧ t.dc = s.dc ∧ t.bc = s.bc ∧ t.sup = s.sup
        ∧ t.clc.replies = [replyTo 0x1D tag .done []]
        ∧ (stale → t.clc.alarms.stale = true)
        ∧ (¬ stale → t = answered 0x1D tag (some (.configureOdometer tag p)) .done []
            (s.setJt { s.jt with config := p, odo := { s.jt.odo with skips := after } }))

/-- On a free controller in RUNNING: with X capped at 999,999, D becomes X when it is within the offset limit of D,
otherwise D moves toward X by the limit and FIX_LIMITED is set; rem is 0, tainted set, pos and the portion positions are
formed from the new D. The valid MAP block of every coach whose portion's position so changes is marked, and no other block;
a frame of such a block in flight is aborted. The reply DONE carries the new D and whether it was limited; nothing else
changes. In any other phase it is WRONG_STATE and nothing changes. (R49, R44, R41, R42, R126, R159) -/
def Obligations.PositionFixMovesTheDistance : Prop :=
  ∀ (tag x : Nat) (s : State), Free s →
    let X := min 999999 x
    let D := s.jt.odo.dist
    let limit := s.jt.config.offset
    let near := (if D ≤ X then X - D else D - X) ≤ limit
    let new := if near then X else if D ≤ X then D + limit else D - limit
    let limited : Bool := decide ¬ near
    let moved : Jt := { s.jt with
      odo := { s.jt.odo with dist := new, rem := 0, tainted := true, fixLimited := s.jt.odo.fixLimited || limited } }
    let shown : Jt := { moved with
      odo := { moved.odo with pos := moved.homePosition }
      portions := moved.portions.map fun p => { p with pos := moved.position p } }
    let position (j : Jt) (e : Entry) : Option Nat := (j.portionOf e.coach.unit).bind Portion.pos
    let hit (e : Entry) (k : BlockKind) : Bool := k = .map && decide (position s.jt e ≠ position shown e)
    (∀ c, s.jt.phase = .running c →
      exec (.positionFix tag x) s = .next (answered 0x1E tag (some (.positionFix tag x)) .done
        (u32 new ++ u8 (if limited then 1 else 0))
        (abortIf (fun d k => s.cm.list.any fun e => e.coach.id = d && (e.blocks.get k).valid && hit e k)
          ((s.setJt shown).setCm (s.cm.marked hit)))))
    ∧ ((∀ c, s.jt.phase ≠ .running c) →
        exec (.positionFix tag x) s = .next (answered 0x1E tag (some (.positionFix tag x)) .wrongState [] s))

/-- On a free controller READ JOURNEY is DONE and carries, in order: phase, home index, next stop, notice state and its stop,
direction, time and its flag, D, rem, v, eta_s, eta_min, arrival clock, pos, tainted, skip counter, the eight parameters, the
four status flags as they stand, and the portion table in the order of creation, which is the model's choice (log entry 25).
That the next stop and the notice's stop are always carried, as 0xFF where there is none, is its choice too (log entry 38).
PULSE_SATURATED, DISTANCE_SATURATED and FIX_LIMITED are then clear, and nothing else changes. The order within a group is the
model's reading of R224 (log entry 13). READ ROUTE: a slot above 3, or a count of 0 or above 6, gives BAD_FIELD; an EMPTY
slot NOT_FOUND; a first index at or above the stop count OUT_OF_RANGE, but for index 0 of a slot in EDIT without stops;
otherwise DONE with the slot state, code, destination, stop count and the records from the first index on, as many as the
count, each with its cancelled mark. It changes nothing. (R50, R51, R7, R224, log entries 13, 25 and 38) -/
def Obligations.ReadJourneyAndReadRouteCarryTheirReplies : Prop :=
  (∀ (tag : Nat) (s : State), Free s →
    let j := s.jt
    let o := j.odo
    let p (x : Portion) : List Byte :=
      u16 x.unit ++ u8 x.slot ++ i8 x.delta ++ u8 (x.partAt.getD 0xFF) ++ u8 x.state.code ++ flag x.home
        ++ u8 x.assignedAt ++ u8 ((j.currentIndex x).getD 0xFF)
    exec (.readJourney tag) s = .next (answered 0x1F tag (some (.readJourney tag)) .done
      (u8 j.phase.code ++ u8 (j.phase.index.getD 0xFF) ++ u8 (j.next.getD 0xFF) ++ u8 j.notice.code
        ++ u8 (j.notice.stop.getD 0xFF) ++ u8 j.direction.code ++ u16 j.minute ++ flag j.timeValid
        ++ u32 o.dist ++ u32 o.rem ++ u32 o.speed ++ u16 o.etaS ++ u8 o.etaMin ++ u16 (o.clock.getD 0xFFFF) ++ u16 o.pos
        ++ flag o.tainted ++ u8 o.skips
        ++ (u32 j.config.pulseLen ++ u8 j.config.shift ++ u32 j.config.vmin ++ u32 j.config.creep
          ++ u8 j.config.correction ++ u32 j.config.offset ++ u32 j.config.minLeg ++ u8 j.config.skipLimit)
        ++ u8 (bitSet [o.pulseSat, o.distSat, o.fixLimited, o.etaHeld])
        ++ (u8 j.portions.length ++ j.portions.flatMap p))
      (s.setJt { j with odo := { o with pulseSat := false, distSat := false, fixLimited := false } })))
  ∧ ∀ (tag slot first count : Nat) (s : State), Free s →
    let reply := answered 0x14 tag (some (.readRoute tag slot first count))
    let route := s.jt.slots.get slot
    let record (p : Stop) : List Byte :=
      u16 p.code ++ u8 p.name.length ++ p.name ++ u32 p.leg ++ u8 p.side.code ++ u16 p.approach ++ u16 p.announce
        ++ u16 p.column ++ u8 (if p.cancelled then 1 else 0)
    let records := (route.stops.drop first).take count
    exec (.readRoute tag slot first count) s = .next (
      if 3 < slot ∨ count = 0 ∨ 6 < count then reply .badField [] s
      else if route.state = .empty then reply .notFound [] s
      else if route.stops.length ≤ first ∧ ¬ (route.state = .edit ∧ route.stops.length = 0 ∧ first = 0) then
        reply .outOfRange [] s
      else reply .done (u8 route.state.code ++ u16 route.code ++ (u8 route.dest.length ++ route.dest)
        ++ u8 route.stops.length ++ (u8 records.length ++ records.flatMap record)) s)

/-- On a running controller at each window expiry with pulse count p: in AT_STOP and RUNNING the total rem + p L gives D
its whole metres and rem the rest, up to 999,999, where rem is 0 and DISTANCE_SATURATED is set; in NO_JOURNEY and
TERMINATED D and rem stay. The sample is floor(p L / 100) held at 125,000, and v becomes it when closer than 2^k,
otherwise moves toward it by floor(difference / 2^k), so that it stays between its old value and the sample. The count
begins again at 0; 4,095 sets PULSE_SATURATED. ODO_PULSE raises the count by 1 up to 4,095 and changes nothing else. (R32,
R34, R35, R36, R37) -/
def Obligations.WindowAdvancesDistanceAndSpeed : Prop :=
  (∀ s : State, s.clc.ready ≠ .held → s.dc.advanced = [] →
    exec .odoPulse s = .next (s.setJt { s.jt with
      odo := { s.jt.odo with pulses := if s.jt.odo.pulses < 4095 then s.jt.odo.pulses + 1 else 4095 } }))
  ∧ ∀ s : State, s.clc.ready ≠ .held → s.dc.advanced = [] →
    let o := s.jt.odo
    let L := s.jt.config.pulseLen
    let k := s.jt.config.shift
    let total := o.rem + o.pulses * L
    let moving := (∃ c, s.jt.phase = .atStop c) ∨ ∃ c, s.jt.phase = .running c
    let full := 999999 < o.dist + total / 1000000
    let sample := min 125000 (o.pulses * L / 100)
    let gap := if o.speed ≤ sample then sample - o.speed else o.speed - sample
    ∃ t, exec .odometerWindowExpiry s = .next t
      ∧ (moving → ¬ full → t.jt.odo.dist = o.dist + total / 1000000 ∧ t.jt.odo.rem = total % 1000000
          ∧ t.jt.odo.distSat = o.distSat)
      ∧ (moving → full → t.jt.odo.dist = 999999 ∧ t.jt.odo.rem = 0 ∧ t.jt.odo.distSat = true)
      ∧ (¬ moving → t.jt.odo.dist = o.dist ∧ t.jt.odo.rem = o.rem ∧ t.jt.odo.distSat = o.distSat)
      ∧ (gap < 2 ^ k → t.jt.odo.speed = sample)
      ∧ (2 ^ k ≤ gap → t.jt.odo.speed =
          if o.speed ≤ sample then o.speed + gap / 2 ^ k else o.speed - gap / 2 ^ k)
      ∧ min o.speed sample ≤ t.jt.odo.speed ∧ t.jt.odo.speed ≤ max o.speed sample
      ∧ t.jt.odo.pulses = 0 ∧ t.jt.odo.pulseSat = (o.pulseSat || decide (4095 ≤ o.pulses))
      ∧ t.jt.config = s.jt.config ∧ t.jt.slots = s.jt.slots ∧ t.jt.odo.skips = o.skips

/-- On a running controller after each window expiry, with the phase, D and v then standing: R is S_eff - D held at 0 while
RUNNING, 0 otherwise. When R is 0, eta_s is 0 and ETA_HELD clear; otherwise with v at least vmin, eta_s is ceil(1000 R / v)
held at 5,999 and ETA_HELD clear; otherwise ETA_HELD is set. eta_min is ceil(eta_s / 60), the arrival clock the time plus
eta_min modulo 1440 or none without a valid time, pos 0 in NO_JOURNEY, col(c) in AT_STOP(c) and TERMINATED(c), and while
RUNNING, with n the first stop above c not cancelled, col(c) + floor((col(n) - col(c)) min(D, S_eff) / S_eff). The position
held for a portion (log entry 16) is none when c lies outside its common span; that of the home portion is pos; that of
another is the same formula with its own columns at c + delta and n + delta while RUNNING with n in the span, and its column
at c + delta otherwise. (R8, R13, R38, R39, R40, R41, R42, log entry 16) -/
def Obligations.WindowFormsEtaAndPosition : Prop :=
  ∀ s : State, s.clc.ready ≠ .held → s.dc.advanced = [] →
    ∃ t, exec .odometerWindowExpiry s = .next t ∧
      let o := t.jt.odo
      let R := match t.jt.phase with
        | .running c =>
          (((t.jt.homeStops.drop (c + 1)).take (eff t.jt.homeStops (c + 1) - c)).map Stop.leg).sum - o.dist
        | _ => 0
      (R = 0 → o.etaS = 0 ∧ o.etaHeld = false)
      ∧ (R ≠ 0 → t.jt.config.vmin ≤ o.speed → o.etaS = min 5999 ((R * 1000 + o.speed - 1) / o.speed) ∧ o.etaHeld = false)
      ∧ (R ≠ 0 → o.speed < t.jt.config.vmin → o.etaHeld = true
          ∧ (t.jt.phase = s.jt.phase → o.etaS = s.jt.odo.etaS) ∧ (t.jt.phase ≠ s.jt.phase → o.etaS = 0))
      ∧ o.etaMin = (o.etaS + 59) / 60
      ∧ o.clock = (if t.jt.timeValid then some ((t.jt.minute + o.etaMin) % 1440) else none)
      ∧ (let home := t.jt.homeStops
         let last := home.length - 1
         let col (l : List Stop) (i : Nat) : Nat := (l[i]?.map Stop.column).getD 0
         let next (c n : Nat) : Prop := c < n ∧ (∃ q, home[n]? = some q ∧ q.cancelled = false)
           ∧ ∀ i, c < i → i < n → ∃ q, home[i]? = some q ∧ q.cancelled = true
         let S (c n : Nat) : Nat := (((home.drop (c + 1)).take (n - c)).map Stop.leg).sum
         let mark (l : List Stop) (x m c n : Nat) : Nat := col l x + (col l m - col l x) * min o.dist (S c n) / S c n
         (t.jt.phase = .noJourney → o.pos = 0 ∧ ∀ p ∈ t.jt.portions, p.pos = none)
         ∧ (∀ c, t.jt.phase = .atStop c ∨ t.jt.phase = .terminated c → o.pos = col home c)
         ∧ (∀ c n, t.jt.phase = .running c → next c n → o.pos = mark home c n c n)
         ∧ ∀ p ∈ t.jt.portions,
           let span (i : Nat) : Prop := if p.home then i ≤ last else p.assignedAt ≤ i ∧ i ≤ p.partAt.getD last
           let own (i : Nat) : Nat := (Int.ofNat i + p.delta).toNat
           let stops := (t.jt.slots.get p.slot).stops
           (∀ c, t.jt.phase.index = some c → ¬ span c → p.pos = none)
           ∧ (∀ c, t.jt.phase.index = some c → span c → p.home = true → p.pos = some o.pos)
           ∧ (∀ c, t.jt.phase = .atStop c ∨ t.jt.phase = .terminated c → span c → p.home = false →
               p.pos = some (col stops (own c)))
           ∧ ∀ c n, t.jt.phase = .running c → next c n → span c → p.home = false →
               (span n → p.pos = some (mark stops (own c) (own n) c n)) ∧ (¬ span n → p.pos = some (col stops (own c))))

/-- On a running controller at a window expiry: in AT_STOP(c), when D after the window exceeds the creep limit, the phase
becomes RUNNING from c with that D kept, and tainted is clear; the report 'implied departure' carrying c waits when
JOURNEY is enabled (said for a busy transmitter, an empty report queue, no armed trigger and no entry DEPARTING). When D
does not exceed it, and in every other phase, the phase and the portion table but for positions stay. At a window expiry
that finds RUNNING(c to n), with R that of the window: ARRIVING(n) when the announce distance of n is not 0, R at most it
and the state not ARRIVING(n); otherwise APPROACHING(n) when the approach distance is not 0, R at most it and the state
NONE; otherwise kept. Each change to APPROACHING or ARRIVING raises the JOURNEY report "notice" with the new state and n.
The state is AT_PLATFORM at a journey's start and at an arrival, NONE at a departure, at END JOURNEY and after power-on
and PART RESET. (R20, R24, R33) -/
def Obligations.WindowImpliesDepartureAndSetsTheNotice : Prop :=
  (∀ s : State, s.clc.ready = .up → s.dc.advanced = [] →
     ∃ t, exec .odometerWindowExpiry s = .next t
       ∧ (∀ c, s.jt.phase = .atStop c → s.jt.config.creep < t.jt.odo.dist →
           t.jt.phase = .running c ∧ t.jt.odo.tainted = false
           ∧ (s.clc.enabled.journey = true → s.clc.tx ≠ .idle → s.clc.reports = [] → s.rs.staging.trigger = none →
               (∀ e ∈ s.cm.list, e.state ≠ .departing) →
               { cls := .journey, code := 1, subject := 0, data := u8 c } ∈ t.clc.reports))
       ∧ ((∀ c, s.jt.phase = .atStop c → t.jt.odo.dist ≤ s.jt.config.creep) →
           t.jt.phase = s.jt.phase ∧ t.rs = s.rs ∧ t.cm.unmarked = s.cm.unmarked
           ∧ t.jt.portions.map (fun p => { p with pos := none }) = s.jt.portions.map (fun p => { p with pos := none })))
  ∧ (∀ (c n : Nat) (q : Stop) (s : State), s.clc.ready ≠ .held → s.dc.advanced = [] → s.jt.phase = .running c →
    s.jt.next = some n → s.jt.homeStops[n]? = some q →
    ∃ t, exec .odometerWindowExpiry s = .next t ∧
      let R := t.jt.remaining
      let arriving := q.announce ≠ 0 ∧ R ≤ q.announce ∧ s.jt.notice ≠ .arriving n
      let approaching := q.approach ≠ 0 ∧ R ≤ q.approach ∧ s.jt.notice = .none
      t.jt.notice = (if arriving then .arriving n else if approaching then .approaching n else s.jt.notice)
      ∧ (s.clc.tx ≠ .idle → s.clc.enabled.journey = true → s.clc.reports = [] → arriving ∨ approaching →
          { cls := .journey, code := 3, subject := 0, data := u8 t.jt.notice.code ++ u8 n } ∈ t.clc.reports))
  ∧ (∀ (tag unit slot j : Nat) (s t : State), Free s → exec (.assignUnitHome tag unit slot j 0xFF) s = .next t →
      s.jt.phase = .noJourney → t.jt.phase ≠ .noJourney → t.jt.notice = .atPlatform j)
  ∧ (∀ (tag code c m : Nat) (s t : State), Free s → exec (.arrived tag code) s = .next t → s.jt.phase = .running c →
      (t.jt.phase = .atStop m ∨ t.jt.phase = .terminated m) → t.jt.notice = .atPlatform m)
  ∧ (∀ (tag : Nat) (s t : State), Free s → exec (.departed tag) s = .next t → (∃ c, s.jt.phase = .atStop c) →
      t.jt.notice = .none)
  ∧ (∀ (tag : Nat) (s t : State), Free s → exec (.endJourney tag) s = .next t → s.jt.phase ≠ .noJourney →
      t.jt.phase = .noJourney → t.jt.notice = .none)
  ∧ State.reset.jt.notice = .none ∧ ∀ s : State, (partReset s).jt.notice = .none

/-- On a free controller CONFIGURE SURVEY with call attempts outside 1..31 is BAD_FIELD with position 1 (also with both
values outside, log entry 39), with probation pairs outside 1..15 BAD_FIELD with position 2, and otherwise DONE with both
values replaced and the remaining attempts kept. SURVEY in OFF is WRONG_STATE, in SURVEYING DONE with nothing changed, in
CLOSED DONE: SURVEYING, cause NONE, the remaining attempts loaded again. On a free controller START BACKBONE in SURVEYING or
CLOSED is WRONG_STATE and changes nothing. In OFF it is DONE: the survey is SURVEYING with the configured attempts and cause
NONE, the confusion mark clear; the Backbone Controller is RUNNING in the beacon of cycle 0, its counts and last call clear,
the BEACON fields those of R154; supervision holds its starting values, and that beacon begins an update of the EVEN table
(R187). Nothing else changes: the detached set is kept. (R57, R58, R60, R172, R153, R185, R186, log entry 39) -/
def Obligations.SurveyIsConfiguredAndBackboneStarts : Prop :=
  (∀ (tag attempts pairs : Nat) (s : State), Free s →
    let reply := answered 0x20 tag (some (.configureSurvey tag attempts pairs))
    exec (.configureSurvey tag attempts pairs) s = .next (
      if attempts < 1 ∨ 31 < attempts then reply .badField [1] s
      else if pairs < 1 ∨ 15 < pairs then reply .badField [2] s
      else reply .done [] (s.setCm { s.cm with
        survey := { s.cm.survey with cfgAttempts := attempts, cfgPairs := pairs } })))
  ∧ (∀ (tag : Nat) (s : State), Free s →
    let reply := answered 0x23 tag (some (.survey tag))
    exec (.survey tag) s = .next (
      match s.cm.survey.state with
      | .off => reply .wrongState [] s
      | .surveying => reply .done [] s
      | .closed => reply .done [] (s.setCm { s.cm with
          survey := { s.cm.survey with state := .surveying, cause := .none, attempts := s.cm.survey.cfgAttempts } })))
  ∧ ∀ (tag : Nat) (s : State), Free s →
    let reply := answered 0x21 tag (some (.startBackbone tag))
    (s.cm.survey.state ≠ .off → exec (.startBackbone tag) s = .next (reply .wrongState [] s))
    ∧ (s.cm.survey.state = .off → exec (.startBackbone tag) s = .next (reply .done []
        (((s.setCm { s.cm with
            survey := { s.cm.survey with state := .surveying, attempts := s.cm.survey.cfgAttempts, cause := .none }
            confused := false }).setBc
          { Bc.reset with
            state := .running, segment := .beacon
            beacon := u8 0 ++ u8 s.dc.page.code ++ u8 s.jt.direction.code ++ u8 s.jt.phase.code
              ++ u8 (s.jt.phase.index.getD 0) ++ u16 s.jt.minute ++ flag s.jt.timeValid }).setSup
          { Sup.reset with even := { NodeTable.reset with updating := true } })))

/-- STOP BACKBONE on a free controller is WRONG_STATE with the survey OFF; otherwise the controller is STOPPING and the
request HANDLING, with no reply yet. At the end of the gap: while RUNNING the counter advances, from 31 to 0, the beacon
of R154 begins, the observations are cleared, and the table of the cycle's parity begins an update exactly when it is
UNLOCKED and the capture permits (R193), the other staying. While STOPPING the controller goes OFF, keeping the counter,
counts and supervision; every list entry moves to the detached set, the survey is OFF with 0 attempts and cause NONE,
portions with a DEPARTING entry are ATTACHED again, COACH_LOST is set if an entry moved, and the reply to the handled head
is DONE. (R59, R173, R153, R154, R187, R193, R80, R71) -/
def Obligations.CycleEndRunsOnOrStops : Prop :=
  (∀ (tag : Nat) (s : State), Free s → exec (.stopBackbone tag) s = .next (
    if s.cm.survey.state = .off then answered 0x22 tag (some (.stopBackbone tag)) .wrongState [] s
    else (s.setBc { s.bc with state := .stopping }).withQueue
      [{ kind := 0x22, tag := tag, command := some (.stopBackbone tag), state := .handling }]))
  ∧ (∀ s : State, s.clc.ready ≠ .held → s.dc.advanced = [] → s.bc.segment = .gap → s.bc.state = .running →
    let n := (s.bc.counter + 1) % 32
    let table (u : Sup) (k : Nat) : NodeTable := if k % 2 = 0 then u.even else u.odd
    let updates := (table s.sup n).lock = .unlocked ∧ (s.sup.capture = .continuous
      ∨ (s.sup.capture = .waiting ∧ n % 2 = 0 ∧ (table s.sup (n + 1)).lock = .unlocked)
      ∨ (s.sup.capture = .evenTaken ∧ n % 2 = 1))
    ∃ t, exec .cycleEnd s = .next t
      ∧ t.bc = { s.bc with
          segment := .beacon, clock := 0, counter := n, frame := none, call := none, gotA := .nothing, gotB := .nothing
          beacon := u8 n ++ u8 s.dc.page.code ++ u8 s.jt.direction.code ++ u8 s.jt.phase.code
            ++ u8 (s.jt.phase.index.getD 0) ++ u16 s.jt.minute ++ flag s.jt.timeValid }
      ∧ (updates → table t.sup n = { table s.sup n with
          rows := List.replicate 16 .cleared, valid := false, cycle := none, updating := true })
      ∧ (¬ updates → table t.sup n = table s.sup n) ∧ table t.sup (n + 1) = table s.sup (n + 1)
      ∧ (s.sup.capture = .waiting → updates → t.sup.capture = .evenTaken)
      ∧ (s.sup.capture = .evenTaken → n % 2 = 1 → ¬ updates → t.sup.capture = .waiting)
      ∧ (¬ (s.sup.capture = .waiting ∧ updates) → ¬ (s.sup.capture = .evenTaken ∧ n % 2 = 1 ∧ ¬ updates) →
          t.sup.capture = s.sup.capture)
      ∧ t.sup.a = { s.sup.a with obs := .clear } ∧ t.sup.b = { s.sup.b with obs := .clear }
      ∧ t.sup.mismatch = s.sup.mismatch
      ∧ t.jt = s.jt ∧ t.cm = s.cm ∧ t.rs = s.rs ∧ t.dc = s.dc ∧ t.clc = s.clc)
  ∧ ∀ s : State, s.clc.ready ≠ .held → s.dc.advanced = [] → ConsistOk s.cm → s.bc.segment = .gap →
    s.bc.state = .stopping →
    let departs (u : Nat) : Bool := s.cm.list.any fun e => e.coach.unit = u && e.state = .departing
    ∃ t, exec .cycleEnd s = .next t
      ∧ t.bc = { s.bc with
          state := .off, segment := .none, clock := 0, frame := none, call := none, gotA := .nothing, gotB := .nothing
          rxA := .hunt, rxB := .hunt }
      ∧ t.sup = s.sup ∧ t.rs = s.rs ∧ t.cm.types = s.cm.types
      ∧ t.cm.list = [] ∧ t.cm.detached = s.cm.detached ++ s.cm.list.map (·.coach)
      ∧ t.cm.survey = { s.cm.survey with state := .off, attempts := 0, cause := .none }
      ∧ t.cm.partings = s.cm.partings.filter (fun p => !departs p.unit)
      ∧ t.jt = { s.jt with portions := s.jt.portions.map fun (p : Portion) =>
          { p with state := if departs p.unit then .attached else p.state } }
      ∧ (s.cm.list ≠ [] → t.clc.alarms.coachLost = true)
      ∧ (∀ q rest, s.clc.queue = q :: rest → q.state = .handling →
          t.clc.queue = { q with state := .replying } :: rest
          ∧ t.clc.replies = s.clc.replies ++ [replyTo q.kind q.tag .done []])
      ∧ (s.clc.enabled.consist = true → s.clc.tx ≠ .idle → s.clc.reports = [] → (∀ e ∈ s.cm.list, e.state ≠ .departing) →
          t.clc.reports = [{ cls := .consist, code := 14, subject := 0, data := u8 s.cm.list.length }])

/-- On a free controller SPLIT is WRONG_STATE outside AT_STOP; at a stop BAD_FIELD for unit 0, NOT_FOUND for a unit
without an entry, WRONG_STATE for the home unit or one PARTING. Otherwise, with no parting set of the unit yet, it is DONE
with the number of its list entries: those with a missed count of 3 or more are deleted, the others DEPARTING with pair
count 0. With one left the portion is PARTING, the parting set holds the deleted, and the split is not complete. With none
left it is: the unit's detached entries go too, the portion entry is removed and its slot READY unless another entry names
it, and the records of the identities gone leave the live bank, and an OPEN or ARMED staging bank. On a free controller
REMOVE ENTRY of identity 0 is BAD_FIELD; of an identity in the list WRONG_STATE; of one in neither collection NOT_FOUND;
of a detached entry DONE: the entry is deleted with its notice stack, and its identity joins the parting set of its unit
if there is one. REMOVE ENTRY changes nothing else. The sets and
their identities stand in the order in which they came (log entry 30). (R16, R77, R78, R79, R81, R112, log entry 30) -/
def Obligations.SplitAndRemoveEntryTakeEntriesAway : Prop :=
  (∀ (tag unit : Nat) (s : State), Free s → ConsistOk s.cm →
     let c : Instr := .split tag unit
     let refused (r : ResultCode) : Prop := exec c s = .next (answered 0x24 tag (some c) r [] s)
     let stopped := ∃ x, s.jt.phase = .atStop x
     let mine := s.cm.list.filter fun e => e.coach.unit = unit
     let gone := (mine.filter fun e => 3 ≤ e.coach.missed).map (·.coach.id)
     let left (e : Entry) : Bool := !gone.contains e.coach.id
     (¬ stopped → refused .wrongState)
     ∧ (stopped → unit = 0 → refused .badField)
     ∧ (stopped → unit ≠ 0 → s.jt.portionOf unit = none → refused .notFound)
     ∧ ∀ p, s.jt.portionOf unit = some p → stopped → unit ≠ 0 →
       (p.home = true ∨ p.state = .parting → refused .wrongState)
       ∧ (p.home = false → p.state = .attached → (∀ x ∈ s.cm.partings, x.unit ≠ unit) →
         ∃ t, exec c s = .next t ∧ t.jt.phase = s.jt.phase ∧ t.jt.odo = s.jt.odo ∧ t.dc = s.dc ∧ t.cm.types = s.cm.types
           ∧ ((∃ e ∈ mine, e.coach.missed < 3) →
             t.jt = { s.jt with portions := s.jt.portions.map fun (x : Portion) =>
                 { x with state := if x.unit = unit then .parting else x.state } }
             ∧ t.rs = s.rs
             ∧ t.cm.unmarked = Cm.unmarked { s.cm with
                 list := (s.cm.list.filter left).map fun (e : Entry) =>
                   if e.coach.unit = unit then { e with state := .departing, pairCount := 0 } else e
                 partings := s.cm.partings ++ [{ unit := unit, ids := gone }] }
             ∧ t.clc.replies = [replyTo 0x24 tag .done (u8 mine.length ++ [0])])
           ∧ ((∀ e ∈ mine, 3 ≤ e.coach.missed) →
             let ids := gone ++ (s.cm.detached.filter fun k => k.unit = unit).map (·.id)
             let without (bank : List Vehicle) := bank.filter fun v => !ids.contains v.id
             let others := s.jt.portions.filter fun x => x.unit ≠ unit
             let slot := s.jt.slots.get p.slot
             t.jt.portions = others
             ∧ t.jt.slots = (if slot.state = .inUse ∧ ∀ x ∈ others, x.slot ≠ p.slot then
                 s.jt.slots.set p.slot { slot with state := .ready } else s.jt.slots)
             ∧ t.rs.liveBank = without s.rs.liveBank
             ∧ t.rs.stagingBank = (if s.rs.staging.open? then without s.rs.stagingBank else s.rs.stagingBank)
             ∧ t.rs.staging = s.rs.staging ∧ t.rs.live = s.rs.live
             ∧ t.cm.list.map (·.coach) = (s.cm.list.filter left).map (·.coach)
             ∧ t.cm.detached = s.cm.detached.filter (fun k => k.unit ≠ unit)
             ∧ t.cm.partings = s.cm.partings
             ∧ t.clc.replies = [replyTo 0x24 tag .done (u8 mine.length ++ [1])])))
  ∧ ∀ (tag id : Nat) (s : State), Free s →
    let reply := answered 0x25 tag (some (.removeEntry tag id))
    exec (.removeEntry tag id) s = .next (
      if id = 0 then reply .badField [] s
      else if ∃ e ∈ s.cm.list, e.coach.id = id then reply .wrongState [] s
      else match s.cm.detached.find? fun k => k.id = id with
        | none => reply .notFound [] s
        | some k => reply .done [] (s.setCm { s.cm with
            detached := s.cm.detached.filter fun x => x.id ≠ id
            partings := s.cm.partings.map fun (p : PartingSet) =>
              { p with ids := if p.unit = k.unit then p.ids ++ [id] else p.ids } }))

/-- On a free controller DEFINE TYPE: code 0 or a seat count outside 1..96 is BAD_FIELD 0; another number of labels
BAD_FIELD with that number (also beside a bad label, log entry 31); otherwise a bad label BAD_FIELD with its index; a
known code in use IN_USE; an unknown one with 8 records NO_SPACE; otherwise DONE with the record put in place of that of
its code, or added. Each ACTIVE or MUTE list entry that reports the code then has its SEAT blocks for the seats valid, and
dirty if none was valid before. DELETE TYPE: BAD_FIELD for 0, NOT_FOUND, IN_USE, otherwise DONE and the record removed.
READ TYPE: BAD_FIELD for code 0 or length 0, NOT_FOUND, otherwise DONE with whether the code is in use and the record cut
to the length (log entry 13: the cut leaves the in-use byte out). Nothing else changes but marks. (R84, R85, R86, R83,
R227, log entries 13 and 31) -/
def Obligations.TypesAreDefinedReadAndDeleted : Prop :=
  ∀ (tag code : Nat) (s : State), Free s →
    let known := ∃ r ∈ s.cm.types, r.code = code
    let used := (∃ e ∈ s.cm.list, e.coach.type = code) ∨ (∃ k ∈ s.cm.detached, k.type = code)
      ∨ ∃ v ∈ s.rs.bank0 ++ s.rs.bank1, v.type = code
    (∀ (seats : Nat) (labels : List Text),
      let c : Instr := .defineType tag code seats labels
      let reply := answered 0x27 tag (some c)
      let bad (l : Text) : Bool := l.length = 0 || 4 < l.length || !l.all (fun b => 0x20 ≤ b.toNat && b.toNat ≤ 0x7E)
      let record : TypeRecord := { code := code, seats := seats, labels := labels }
      if code = 0 ∨ seats < 1 ∨ 96 < seats then exec c s = .next (reply .badField [0] s)
      else if labels.length ≠ seats then exec c s = .next (reply .badField (u8 labels.length) s)
      else match labels.findIdx? bad with
        | some i => exec c s = .next (reply .badField (u8 i) s)
        | none =>
          (known → used → exec c s = .next (reply .inUse [] s))
          ∧ (known → ¬ used → exec c s = .next (reply .done [] (s.setCm { s.cm with
              types := s.cm.types.map fun r => if r.code = code then record else r })))
          ∧ (¬ known → 8 ≤ s.cm.types.length → exec c s = .next (reply .noSpace [] s))
          ∧ (¬ known → s.cm.types.length < 8 → ∃ t, exec c s = .next t
              ∧ t.cm.unmarked = Cm.unmarked { s.cm with types := s.cm.types ++ [record] }
              ∧ t.jt = s.jt ∧ t.rs = s.rs ∧ t.dc = s.dc ∧ t.clc = (reply .done [] s).clc ∧ AbortAtMost s t
              ∧ ∀ e ∈ t.cm.list, e.coach.type = code → e.state = .active ∨ e.state = .mute →
                ∀ k < ceilDiv seats 16, (e.blocks.get (.seat k)).valid = true
                  ∧ ((∀ x ∈ s.cm.list, x.coach.type = code → (x.blocks.get (.seat k)).valid = false) →
                    (e.blocks.get (.seat k)).dirty = true)))
    ∧ (let reply := answered 0x28 tag (some (.deleteType tag code))
       (code = 0 → exec (.deleteType tag code) s = .next (reply .badField [] s))
       ∧ (code ≠ 0 → ¬ known → exec (.deleteType tag code) s = .next (reply .notFound [] s))
       ∧ (code ≠ 0 → known → used → exec (.deleteType tag code) s = .next (reply .inUse [] s))
       ∧ (code ≠ 0 → known → ¬ used → exec (.deleteType tag code) s = .next (reply .done []
           (s.setCm { s.cm with types := s.cm.types.filter fun r => r.code ≠ code }))))
    ∧ ∀ length : Nat,
       let reply := answered 0x29 tag (some (.readType tag code length))
       (code = 0 ∨ length = 0 → exec (.readType tag code length) s = .next (reply .badField [] s))
       ∧ (code ≠ 0 → length ≠ 0 → ¬ known → exec (.readType tag code length) s = .next (reply .notFound [] s))
       ∧ ∀ r, s.cm.types.find? (fun x => x.code = code) = some r → code ≠ 0 → length ≠ 0 →
           ∀ b : Bool, (b = true ↔ used) → exec (.readType tag code length) s = .next (reply .done (flag b ++ (u8 r.code ++ u8 r.seats
             ++ (u8 r.labels.length ++ r.labels.flatMap fun l => u8 l.length ++ l)).take length) s)

/-- On a free controller with B the target bank: DECLARE VEHICLE makes the checks of R91 in order, then adds a record, the
last of the bank (log entry 30), with an empty list for each seat of its type; REMOVE VEHICLE those of R95, then removes
the record. With target STAGING the reply carries 0 and the new record count, or the segments freed, and that bank alone
changes. With target LIVE the live bank changes so, the bank select, staging state and, when not mirrored, the staging
bank stay, and every list entry of the identity holds the agreement status that R116 gives with the new live bank; no
other entry changes. (R90, R91, R95, R96, R116, R117, log entry 30) -/
def Obligations.VehiclesAreDeclaredAndRemoved : Prop :=
  ∀ (tag target id : Nat) (s : State), Free s → ConsistOk s.cm →
    let B := if target = 0 then s.rs.liveBank else s.rs.stagingBank
    let shut := target = 1 ∧ s.rs.staging ≠ .openEmpty ∧ s.rs.staging ≠ .openCopy
    let changed (kind : Nat) (c : Instr) (bank : List Vehicle) (data : List Byte) (agree : Entry → Agreement) : Prop :=
      (target = 1 → exec c s = .next (answered kind tag (some c) .done (0 :: data)
        (s.setRs (s.rs.setBank s.rs.live.other bank))))
      ∧ (target = 0 → ∃ t, exec c s = .next t
        ∧ t.rs.liveBank = bank ∧ t.rs.live = s.rs.live ∧ t.rs.staging = s.rs.staging ∧ t.rs.recorded = s.rs.recorded
        ∧ t.jt = s.jt ∧ t.dc = s.dc ∧ t.cm.outline = s.cm.outline ∧ AbortAtMost s t
        ∧ (∀ e ∈ t.cm.list, e.coach.id = id → e.agree = agree e)
        ∧ (∀ (i : Nat) (e : Entry), s.cm.list[i]? = some e → e.coach.id ≠ id → t.cm.list[i]? = some e)
        ∧ (s.rs.staging.mirrored = false → t.rs.stagingBank = s.rs.stagingBank ∧ t.rs.diverged = s.rs.diverged
            ∧ t.clc.replies = [replyTo kind tag .done (0 :: data)]))
    (∀ type slot : Nat,
      let c : Instr := .declareVehicle tag target id type slot
      let refused (r : ResultCode) : Prop := exec c s = .next (answered 0x30 tag (some c) r [] s)
      if 1 < target ∨ id = 0 ∨ type = 0 ∨ 3 < slot then refused .badField
      else if shut then refused .wrongState
      else if ∃ v ∈ B, v.id = id then refused .inUse
      else match s.cm.types.find? fun r => r.code = type with
        | none => refused .notFound
        | some r =>
          if 20 ≤ B.length then refused .noSpace
          else changed 0x30 c (B ++ [{ id := id, type := type, slot := slot, seats := List.replicate r.seats [] }])
            (u8 (B.length + 1)) fun e => match s.jt.portionOf e.coach.unit with
              | none => .unitUnassigned
              | some p =>
                if p.slot ≠ slot then .slotDiffers else if e.coach.type ≠ type then .typeDiffers else .agreeing)
    ∧ (let c : Instr := .removeVehicle tag target id
       let refused (r : ResultCode) : Prop := exec c s = .next (answered 0x31 tag (some c) r [] s)
       if 1 < target ∨ id = 0 then refused .badField
       else if shut then refused .wrongState
       else match B.find? fun v => v.id = id with
        | none => refused .notFound
        | some v => changed 0x31 c (B.filter fun x => x.id ≠ id) (u16 (v.seats.map List.length).sum) fun e =>
            match s.jt.portionOf e.coach.unit with
            | none => .unitUnassigned
            | some _ => .noRecord)

/-- On a free controller with B the target bank: ADD SEGMENT makes the ten checks of R92 in order (OVERLAP carries the first
segment overlapped), then inserts the segment before the first with a larger from index, and carries its position, in one
byte (log entry 40), and the bank's segment count; DROP SEGMENT and CLEAR SEAT make theirs, then remove one segment or all.
With target STAGING the bank alone changes. With target LIVE the live bank changes so, and when not mirrored the staging bank
stays; the SEAT block of that seat is marked for the list entry of the identity (not by a CLEAR SEAT that removes nothing). A
CONTENT frame of that valid block in flight is aborted, with ABORT_SENT set on both lines. (R90, R92, R93, R94, R96, R128,
R126, R159, log entry 40) -/
def Obligations.SegmentsAreAddedDroppedAndCleared : Prop :=
  ∀ (tag target id seat : Nat) (s : State), Free s →
    let B := if target = 0 then s.rs.liveBank else s.rs.stagingBank
    let shut := target = 1 ∧ s.rs.staging ≠ .openEmpty ∧ s.rs.staging ≠ .openCopy
    let total := (B.map fun v => (v.seats.map List.length).sum).sum
    let refused (kind : Nat) (c : Instr) (r : ResultCode) (data : List Byte) : Prop :=
      exec c s = .next (answered kind tag (some c) r data s)
    let changed (kind : Nat) (c : Instr) (list : List Segment) (data : List Byte) (told : Bool) : Prop :=
      let bank := B.map fun v => if v.id = id then { v with seats := v.seats.set seat list } else v
      let hit (e : Entry) (k : BlockKind) : Bool := told && e.coach.id = id && k = .seat (seat / 16)
      (target = 1 → exec c s = .next (answered kind tag (some c) .done (0 :: data)
        (s.setRs (s.rs.setBank s.rs.live.other bank))))
      ∧ (target = 0 → ∃ t, exec c s = .next t
        ∧ t.rs.liveBank = bank ∧ t.rs.live = s.rs.live ∧ t.rs.staging = s.rs.staging ∧ t.rs.recorded = s.rs.recorded
        ∧ t.jt = s.jt ∧ t.dc = s.dc ∧ t.cm = s.cm.marked hit ∧ AbortAtMost s t
        ∧ (∀ f, s.bc.frame = some f → f.inFlight s.bc.clock = true →
            (∃ e ∈ s.cm.list, e.coach.id = f.dest ∧ (e.blocks.get f.kind).valid = true ∧ hit e f.kind = true) →
            t.bc.aborted = min 65535 (s.bc.aborted + 1) ∧ t.sup.a.flags.abortSent = true
            ∧ t.sup.b.flags.abortSent = true ∧ ∃ g, t.bc.frame = some g ∧ g.state = .aborted ∧ g.sent = f.sent)
        ∧ (s.rs.staging.mirrored = false → t.rs.stagingBank = s.rs.stagingBank ∧ t.rs.diverged = s.rs.diverged
            ∧ t.clc = (answered kind tag (some c) .done (0 :: data) s).clc))
    (∀ (a b kind : Nat) (label : Text),
      let c : Instr := .addSegment tag target id seat a b kind label
      let no := refused 0x32 c
      if kind < 1 ∨ 3 < kind ∨ 1 < target ∨ id = 0 ∨ 8 < label.length ∨ (∃ x ∈ label, x.toNat < 0x20 ∨ 0x7E < x.toNat) then
        no .badField []
      else if shut then no .wrongState []
      else match B.find? fun v => v.id = id with
        | none => no .notFound []
        | some v =>
          match v.seats[seat]? with
          | none => no .outOfRange []
          | some l =>
            let route := s.jt.slots.get v.slot
            let last := if route.state = .ready ∨ route.state = .inUse then route.stops.length - 1 else 39
            if b ≤ a ∨ last < b ∨ (∃ x ∈ s.jt.slotIndex v.slot, b ≤ x) then no .outOfRange []
            else match l.find? fun g => a < g.toIx && g.fromIx < b with
              | some g => no .overlap (u8 g.fromIx ++ u8 g.toIx)
              | none =>
                if 6 ≤ l.length ∨ 4096 ≤ total then no .noSpace []
                else
                  let g : Segment := { fromIx := a, toIx := b, label := label,
                                       kind := if kind = 1 then .reserved else if kind = 2 then .priority else .held }
                  changed 0x32 c (l.takeWhile (fun h => h.fromIx ≤ a) ++ g :: l.dropWhile fun h => h.fromIx ≤ a)
                    (u8 (l.filter fun h => h.fromIx < a).length ++ u16 (total + 1)) true)
    ∧ (∀ a : Nat,
      let c : Instr := .dropSegment tag target id seat a
      let no := refused 0x33 c
      if 1 < target ∨ id = 0 then no .badField []
      else if shut then no .wrongState []
      else match B.find? fun v => v.id = id with
        | none => no .notFound []
        | some v =>
          match v.seats[seat]? with
          | none => no .outOfRange []
          | some l =>
            if ∃ g ∈ l, g.fromIx = a then changed 0x33 c (l.eraseP fun g => g.fromIx = a) (u16 (total - 1)) true
            else no .notFound [])
    ∧ (let c : Instr := .clearSeat tag target id seat
      let no := refused 0x34 c
      if 1 < target ∨ id = 0 then no .badField []
      else if shut then no .wrongState []
      else match B.find? fun v => v.id = id with
        | none => no .notFound []
        | some v =>
          match v.seats[seat]? with
          | none => no .outOfRange []
          | some l => changed 0x34 c [] (u16 l.length ++ u16 (total - l.length)) (l ≠ []))

/-- When the staging state mirrors and an edit with target LIVE is DONE: let the same request with target STAGING be given
in the same state but for staging OPEN_COPY, where R90 takes it. If that is DONE, the staging bank becomes what it leaves,
the diverged indicator stays, and the live reply's indication is 0. Otherwise the staging bank is unchanged, the diverged
indicator set, and the live reply carries the result code that staging gave. (R106) -/
def Obligations.MirrorIsTheSameRequestOnStaging : Prop :=
  ∀ (tag id a b d e : Nat) (label : Text) (edit : Nat → Instr) (s : State), Free s → s.rs.staging.mirrored = true →
    (edit = (fun x => .declareVehicle tag x id a b) ∨ edit = (fun x => .removeVehicle tag x id)
      ∨ edit = (fun x => .addSegment tag x id a b d e label) ∨ edit = (fun x => .dropSegment tag x id a b)
      ∨ edit = (fun x => .clearSeat tag x id a)) →
    ∃ t u r q, exec (edit 0) s = .next t ∧ t.clc.replies = [r]
      ∧ exec (edit 1) (s.setRs { s.rs with staging := .openCopy }) = .next u ∧ u.clc.replies = [q]
      ∧ (r.result = .done →
          (q.result = .done → t.rs.stagingBank = u.rs.stagingBank ∧ t.rs.diverged = s.rs.diverged ∧ r.data.head? = some 0)
          ∧ (q.result ≠ .done → t.rs.stagingBank = s.rs.stagingBank ∧ t.rs.diverged = true
              ∧ r.data.head? = some (BitVec.ofNat 8 q.result.code)))
      ∧ (r.result ≠ .done → t.rs = s.rs)

/-- On a free controller: OPEN STAGING EMPTY is DONE in CLOSED with OPEN_EMPTY and the diverged indicator clear; ARM
STAGING at an index (0xFF is the IMMEDIATE row) is BAD_FIELD above 39, WRONG_STATE unless OPEN or outside AT_STOP and
RUNNING, OUT_OF_RANGE at or above the last home index, below c at a stop, at or below c while RUNNING, and otherwise DONE
and ARMED; DISARM STAGING is DONE when ARMED and OPEN again; ABANDON STAGING is DONE when OPEN or ARMED with the number of
segments removed, staging CLOSED and its bank empty. Every other case is WRONG_STATE, and nothing else changes. (R97, R98,
R101, R103, R104) -/
def Obligations.StagingFollowsItsTable : Prop :=
  ∀ (tag : Nat) (s : State), Free s →
    let become (st : Staging) : State := s.setRs { s.rs with staging := st }
    exec (.openStagingEmpty tag) s = .next (
      if s.rs.staging = .closed then answered 0x37 tag (some (.openStagingEmpty tag)) .done []
        (s.setRs { s.rs with staging := .openEmpty, diverged := false })
      else answered 0x37 tag (some (.openStagingEmpty tag)) .wrongState [] s)
    ∧ (∀ i : Nat, i ≠ 0xFF →
      let reply := answered 0x39 tag (some (.armStaging tag i))
      let least : Option Nat := match s.jt.phase with
        | .atStop c => some c
        | .running c => some (c + 1)
        | _ => none
      exec (.armStaging tag i) s = .next (
        if 39 < i then reply .badField [] s
        else match s.rs.staging, least with
          | .openEmpty, some m =>
            if s.jt.homeLast ≤ i ∨ i < m then reply .outOfRange [] s
            else reply .done [] (become (.armedEmpty (.home i)))
          | .openCopy, some m =>
            if s.jt.homeLast ≤ i ∨ i < m then reply .outOfRange [] s
            else reply .done [] (become (.armedCopy (.home i)))
          | _, _ => reply .wrongState [] s))
    ∧ (let reply := answered 0x3A tag (some (.disarmStaging tag))
      exec (.disarmStaging tag) s = .next (
        match s.rs.staging with
        | .armedEmpty _ => reply .done [] (become .openEmpty)
        | .armedCopy _ => reply .done [] (become .openCopy)
        | _ => reply .wrongState [] s))
    ∧ (let reply := answered 0x3B tag (some (.abandonStaging tag))
      let bank := s.rs.stagingBank
      exec (.abandonStaging tag) s = .next (
        if s.rs.staging = .closed ∨ s.rs.staging = .copying then reply .wrongState [] s
        else reply .done (u16 (bank.map fun v => (v.seats.map List.length).sum).sum)
          (s.setRs { s.rs.setBank s.rs.live.other [] with staging := .closed, diverged := false })))

/-- On a free controller OPEN STAGING COPY in CLOSED leaves the request HANDLING with staging COPYING and the diverged
indicator clear (the model fills the staging bank then, log entry 17); otherwise it is WRONG_STATE. The completion applies
the recorded purges and deletions in order to the copy, staging is OPEN_COPY, and the handled head is answered DONE with
the record and segment counts. ARM STAGING IMMEDIATE, when OPEN: the staging bank is live, the old live bank emptied,
staging CLOSED, the reply DONE with the new live bank; every list entry holds the agreement status of R116 with it and has
its valid SEAT blocks dirty; "bank switched" with no index is the report sent, before the reply, when none waited (log entry
6). Otherwise it is WRONG_STATE. The completion outside COPYING leaves the state as it was (log entry 4). (R99, R100, R102,
R109, R116, R117, log entries 4, 6 and 17) -/
def Obligations.StagingIsCopiedAndSwitched : Prop :=
  (∀ (tag : Nat) (s : State), Free s → exec (.openStagingCopy tag) s = .next (
    if s.rs.staging = .closed then
      (s.setRs { s.rs.setBank s.rs.live.other s.rs.liveBank with
        staging := .copying, diverged := false, recorded := [] }).withQueue
        [{ kind := 0x38, tag := tag, command := some (.openStagingCopy tag), state := .handling }]
    else answered 0x38 tag (some (.openStagingCopy tag)) .wrongState [] s))
  ∧ (∀ s : State, s.clc.ready ≠ .held → s.dc.advanced = [] →
    let bank := s.rs.recorded.foldl (fun b x => match x with
      | .purge indices => b.map (Vehicle.purge indices)
      | .delete ids => b.filter fun v => !ids.contains v.id) s.rs.stagingBank
    (s.rs.staging ≠ .copying → exec .copyCompletion s = .next s)
    ∧ ∀ q rest, s.clc.queue = q :: rest → s.rs.staging = .copying → q.state = .handling →
      ∃ t, exec .copyCompletion s = .next t
        ∧ t.rs = { s.rs.setBank s.rs.live.other bank with staging := .openCopy, diverged := false, recorded := [] }
        ∧ t.clc.queue = { q with state := .replying } :: rest
        ∧ t.clc.replies = s.clc.replies ++ [replyTo q.kind q.tag .done
            (u8 bank.length ++ u16 (bank.map fun v => (v.seats.map List.length).sum).sum)]
        ∧ t.jt = s.jt ∧ t.cm = s.cm ∧ t.dc = s.dc ∧ t.bc = s.bc ∧ t.sup = s.sup)
  ∧ ∀ (tag : Nat) (s : State), Free s → ConsistOk s.cm →
    let c : Instr := .armStagingImmediate tag
    let opened := s.rs.staging = .openEmpty ∨ s.rs.staging = .openCopy
    (¬ opened → exec c s = .next (answered 0x39 tag (some c) .wrongState [] s))
    ∧ (opened → ∃ t, exec c s = .next t
      ∧ t.rs.live = s.rs.live.other ∧ t.rs.staging = .closed ∧ t.rs.diverged = false ∧ t.rs.recorded = s.rs.recorded
      ∧ t.rs.liveBank = s.rs.stagingBank ∧ t.rs.stagingBank = [] ∧ t.jt = s.jt ∧ t.dc = s.dc
      ∧ t.cm.outline = s.cm.outline ∧ AbortAtMost s t
      ∧ t.clc.replies = [replyTo 0x39 tag .done (u8 s.rs.live.other.code)]
      ∧ (∀ e ∈ t.cm.list, e.agree = match s.jt.portionOf e.coach.unit with
          | none => .unitUnassigned
          | some p =>
            match s.rs.stagingBank.find? fun v => v.id = e.coach.id with
            | none => .noRecord
            | some v =>
              if v.slot ≠ p.slot then .slotDiffers else if v.type ≠ e.coach.type then .typeDiffers else .agreeing)
      ∧ (∀ e ∈ t.cm.list, ∀ k ∈ [BlockKind.seat0, .seat1, .seat2, .seat3, .seat4, .seat5],
          (e.blocks.get k).valid = true → (e.blocks.get k).dirty = true)
      ∧ (s.clc.reports = [] → s.clc.enabled.reservation = true → t.clc.tx = .report
          { cls := .reservation, code := 1, subject := 0, data := u8 s.rs.live.other.code ++ [0xFF, 0xFF] }
          s.clc.overflow s.clc.drops))

/-- On a free controller. PUSH NOTICE: a bad field is BAD_FIELD, a target code above 1 too (log entry 22), but not the
value beside an expiry NONE, which reads back as 0 (log entry 23); for an identity NOT_FOUND, OUT_OF_RANGE for an AT_STOP
index the unit has reached, NO_SPACE at 4 notices, otherwise DONE with the new depth and the notice on top; with ALL,
every stack that passes both checks is pushed, and the counts pushed, full and expired are carried. POP NOTICE: BAD_FIELD
for 0, NOT_FOUND for an unknown identity or an empty stack, otherwise DONE with the top notice and the depth left. CLEAR
NOTICES: BAD_FIELD, NOT_FOUND, otherwise DONE with the number removed. A list entry's HEADER is marked exactly when the
notice pushed is, or a notice removed was, the one R140 chooses, given the journey notice handed (log entry 14); no other
block is marked and nothing else changes. (R134, R135, R136, R137, R140, R126, R224, log entries 14, 22 and 23) -/
def Obligations.NoticesArePushedPoppedAndCleared : Prop :=
  ∀ (tag target id : Nat) (s : State), Free s → ConsistOk s.cm →
    let coaches := s.cm.list.map (·.coach) ++ s.cm.detached
    let found := coaches.find? fun k => k.id = id
    let urgent (l : List Notice) : Bool := l.any fun n => n.priority = .urgent
    let quiet (e : Entry) : Bool := (s.jt.unitHanded e.coach.unit).isNone
    let became (kind : Nat) (c : Instr) (data : List Byte) (pick : Coach → Bool) (f : List Notice → List Notice)
        (mark : Entry → Bool) : Prop :=
      ∃ t, exec c s = .next t
        ∧ t.cm = { s.cm with
            list := s.cm.list.map fun (e : Entry) =>
              if pick e.coach then
                { e with coach := { e.coach with notices := f e.coach.notices }
                         blocks := .ofKinds fun k => (e.blocks.get k).markedIf (k = .header && mark e) }
              else e
            detached := s.cm.detached.map fun (k : Coach) =>
              if pick k then { k with notices := f k.notices } else k }
        ∧ t.jt = s.jt ∧ t.rs = s.rs ∧ t.dc = s.dc ∧ t.clc = (answered kind tag (some c) .done data s).clc
        ∧ AbortAtMost s t
    let refused (kind : Nat) (c : Instr) (r : ResultCode) : Prop := exec c s = .next (answered kind tag (some c) r [] s)
    (∀ (words : Text) (priority expiry value : Nat),
      let c : Instr := .pushNotice tag target id words priority expiry value
      let n : Notice := { text := words, priority := if priority = 0 then .normal else .urgent,
                          expiry := if expiry = 0 then .none else if expiry = 1 then .atStop value else .cycles value }
      let passed (k : Coach) : Bool := expiry = 1 && (s.jt.unitIndex k.unit).any fun x => value ≤ x
      let full (k : Coach) : Bool := 4 ≤ k.notices.length
      let top (e : Entry) : Bool :=
        e.state ≠ .departing && (priority = 1 || (quiet e && !urgent e.coach.notices))
      let fresh := coaches.filter fun k => !passed k
      if words.length = 0 ∨ 64 < words.length ∨ (∃ x ∈ words, x.toNat < 0x20 ∨ 0x7E < x.toNat) ∨ 1 < priority
          ∨ 2 < expiry ∨ (expiry = 1 ∧ 39 < value) ∨ (expiry = 2 ∧ value = 0) ∨ 1 < target ∨ (target = 0 ∧ id = 0) then
        refused 0x41 c .badField
      else if target = 1 then
        became 0x41 c (u8 (fresh.filter fun k => !full k).length ++ u8 (fresh.filter full).length
          ++ u8 (coaches.filter passed).length) (fun k => !passed k && !full k) (fun l => n :: l) top
      else match found with
        | none => refused 0x41 c .notFound
        | some k =>
          if passed k then refused 0x41 c .outOfRange
          else if full k then refused 0x41 c .noSpace
          else became 0x41 c (u8 (k.notices.length + 1)) (fun k => k.id = id) (fun l => n :: l) top)
    ∧ (let c : Instr := .popNotice tag id
      if id = 0 then refused 0x42 c .badField
      else match found with
        | none => refused 0x42 c .notFound
        | some k =>
          match k.notices with
          | [] => refused 0x42 c .notFound
          | n :: rest =>
            became 0x42 c (u8 n.text.length ++ n.text ++ u8 (if n.priority = .normal then 0 else 1)
                ++ (match n.expiry with
                  | .none => [0, 0, 0]
                  | .atStop i => u8 1 ++ u16 i
                  | .cycles r => u8 2 ++ u16 r) ++ u8 rest.length)
              (fun k => k.id = id) List.tail fun e =>
                e.state ≠ .departing && (n.priority = .urgent || (quiet e && !urgent rest)))
    ∧ (let c : Instr := .clearNotices tag target id
      let shown (e : Entry) : Bool :=
        e.state ≠ .departing && (urgent e.coach.notices || (quiet e && e.coach.notices ≠ []))
      if 1 < target ∨ (target = 0 ∧ id = 0) then refused 0x43 c .badField
      else if target = 1 then
        became 0x43 c (u8 (coaches.map fun k => k.notices.length).sum) (fun _ => true) (fun _ => []) shown
      else match found with
        | none => refused 0x43 c .notFound
        | some k => became 0x43 c (u8 k.notices.length) (fun k => k.id = id) (fun _ => []) shown)

/-- On a free controller. REFRESH COACH: a target code above 1 (log entry 22) or identity 0 is BAD_FIELD, an unknown
identity NOT_FOUND, a detached one WRONG_STATE; otherwise DONE with the number of valid blocks of the entry, or with ALL
the number of entries: every valid block of the entries is dirty, every generation stays, no frame is aborted. SET
ROTATION ENTRY replaces one entry, SET ROTATION START sets the start index, or BAD_FIELD; the rotation state and
everything else stay. (R129, R130, R142, R143, R224, log entry 22) -/
def Obligations.RefreshAndRotationAreSet : Prop :=
  (∀ (tag target id : Nat) (s : State), Free s →
    let c : Instr := .refreshCoach tag target id
    let reply := answered 0x40 tag (some c)
    let dirtied (pick : Entry → Bool) : State := s.setCm { s.cm with list := s.cm.list.map fun (e : Entry) =>
      { e with blocks := .ofKinds fun k =>
        if (e.blocks.get k).valid && pick e then { (e.blocks.get k) with dirty := true } else e.blocks.get k } }
    exec c s = .next (
      if 1 < target ∨ (target = 0 ∧ id = 0) then reply .badField [] s
      else if target = 1 then reply .done (u8 s.cm.list.length) (dirtied fun _ => true)
      else match s.cm.list.find? fun e => e.coach.id = id with
        | some e => reply .done (u8 (BlockKind.all.filter fun k => (e.blocks.get k).valid).length)
            (dirtied fun x => x.coach.id = id)
        | none =>
          if ∃ k ∈ s.cm.detached, k.id = id then reply .wrongState [] s else reply .notFound [] s))
  ∧ (∀ (tag index page dwell next : Nat) (s : State), Free s →
    let reply := answered 0x44 tag (some (.setRotationEntry tag index page dwell next))
    let kind : PageKind := match page with
      | 1 => .nextStop
      | 2 => .seats
      | 3 => .routeMap
      | 4 => .coach
      | 5 => .notice
      | _ => .empty
    let table := s.dc.table.set index { page := kind, dwell := dwell, next := next }
    exec (.setRotationEntry tag index page dwell next) s = .next (
      if 11 < index ∨ 11 < next ∨ 5 < page ∨ dwell < 1 ∨ 255 < dwell then reply .badField [] s
      else reply .done [] (s.setDc { s.dc with table := table })))
  ∧ ∀ (tag index : Nat) (s : State), Free s →
    let reply := answered 0x45 tag (some (.setRotationStart tag index))
    exec (.setRotationStart tag index) s = .next (
      if 11 < index then reply .badField [] s else reply .done [] (s.setDc { s.dc with start := index }))

/-- On a free controller. CLEAR LINE FLAGS: a mask with bit 5, 6, 7, 13 or 14 is BAD_FIELD with position 1; otherwise each
named flag is clear, the others stay, and the reply DONE carries the named flags that were set. LOCK TABLE of EVEN (0) or
ODD (1): an UNLOCKED table becomes LOCK_PENDING while updating and LOCKED otherwise, another lock state stays, and the
reply carries the lock state; UNLOCK TABLE makes it UNLOCKED; SET CAPTURE sets CONTINUOUS (0) or ONE_PAIR with progress
WAITING (1). Any other value is BAD_FIELD. Nothing else changes. (R180, R190, R191, R192, R225) -/
def Obligations.LineFlagsLocksAndCaptureAreSet : Prop :=
  (∀ (tag mask : Nat) (s : State), Free s →
    let reply := answered 0x52 tag (some (.clearLineFlags tag mask))
    let each (f : Bool → Bool → Bool) (l : LineFlags) (i : Nat) : LineFlags :=
      { validSeen := f l.validSeen (mask.testBit i), crcError := f l.crcError (mask.testBit (i + 1)),
        late := f l.late (mask.testBit (i + 2)), clash := f l.clash (mask.testBit (i + 3)),
        abortSent := f l.abortSent (mask.testBit (i + 4)) }
    let cleared := each fun set named => set && !named
    let held := each fun set named => set && named
    exec (.clearLineFlags tag mask) s = .next (
      if [5, 6, 7, 13, 14].any mask.testBit then reply .badField [1] s
      else reply .done (u16 (lineSet (held s.sup.a.flags 0) (held s.sup.b.flags 8) (s.sup.mismatch && mask.testBit 15)))
        (s.setSup { s.sup with
          a := { s.sup.a with flags := cleared s.sup.a.flags 0 }
          b := { s.sup.b with flags := cleared s.sup.b.flags 8 }
          mismatch := s.sup.mismatch && !mask.testBit 15 })))
  ∧ (∀ (tag table : Nat) (s : State), Free s →
    let t := if table = 0 then s.sup.even else s.sup.odd
    let locked (l : LockState) : State :=
      s.setSup (if table = 0 then { s.sup with even := { t with lock := l } }
                else { s.sup with odd := { t with lock := l } })
    let lock : LockState := if t.lock = .unlocked then if t.updating then .pending else .locked else t.lock
    exec (.lockTable tag table) s = .next (
      if 1 < table then answered 0x53 tag (some (.lockTable tag table)) .badField [] s
      else answered 0x53 tag (some (.lockTable tag table)) .done (u8 lock.code) (locked lock))
    ∧ exec (.unlockTable tag table) s = .next (
      if 1 < table then answered 0x54 tag (some (.unlockTable tag table)) .badField [] s
      else answered 0x54 tag (some (.unlockTable tag table)) .done [0] (locked .unlocked)))
  ∧ ∀ (tag mode : Nat) (s : State), Free s →
    let reply := answered 0x55 tag (some (.setCapture tag mode))
    exec (.setCapture tag mode) s = .next (
      if mode = 0 then reply .done [] (s.setSup { s.sup with capture := .continuous })
      else if mode = 1 then reply .done [] (s.setSup { s.sup with capture := .waiting })
      else reply .badField [] s)

/-- On a free controller READ CONSIST, READ BANKS, READ ROTATION, READ BACKBONE and READ LINE FLAGS are DONE; READ SEAT, READ
DISPLAY and READ TABLE make the checks of R107, R146 and R194 and are then DONE; the data follow the order of the rules (log
entry 13 gives the layout where R224 leaves it open, log entry 12 the codes of absent values, log entry 24 the agreement byte
and the state UNKNOWN of READ SEAT for an identity without a list entry, log entry 30 the order of records and parting sets,
log entry 35 the place of a host notice, log entry 36 the four bytes of the seat state). No read changes anything else. (R82,
R107, R108, R145, R146, R175, R179, R194, R224, log entries 12, 13, 24, 30, 35 and 36) -/
def Obligations.ReadsOfTheBlocksChangeNothing : Prop :=
  ∀ (tag : Nat) (s : State), Free s →
    let reads (kind : Nat) (c : Instr) (data : List Byte) : Prop :=
      exec c s = .next (answered kind tag (some c) .done data s)
    let refused (kind : Nat) (c : Instr) (r : ResultCode) : Prop := exec c s = .next (answered kind tag (some c) r [] s)
    let cm := s.cm
    let segments (b : List Vehicle) : Nat := (b.map fun v => (v.seats.map List.length).sum).sum
    let bank (b : List Vehicle) : List Byte := u8 b.length ++ u16 (segments b) ++ b.flatMap fun v =>
      u32 v.id ++ u8 v.type ++ u8 v.slot ++ u16 (v.seats.map List.length).sum
    let line (flags : Nat) (l : LineSup) : List Byte :=
      u16 flags ++ u8 l.state.code ++ u8 l.runs.short ++ u8 l.runs.silent ++ u8 l.runs.full
    reads 0x26 (.readConsist tag)
      ((u8 cm.list.length ++ (cm.list.zipIdx 1).flatMap fun x => entryBytes cm x.1 x.2)
        ++ (u8 cm.detachedSorted.length ++ cm.detachedSorted.flatMap (coachBytes cm))
        ++ u8 cm.survey.state.code ++ u8 cm.survey.attempts ++ u8 cm.survey.cause.code
        ++ identity? cm.survey.cause.identity ++ flag cm.confused ++ u8 cm.survey.cfgAttempts ++ u8 cm.survey.cfgPairs
        ++ (u8 cm.partings.length
          ++ cm.partings.flatMap fun p => u16 p.unit ++ (u8 p.ids.length ++ p.ids.flatMap u32)))
    ∧ reads 0x36 (.readBanks tag)
      (u8 s.rs.live.code ++ u8 s.rs.staging.code ++ u8 (s.rs.staging.trigger.getD 0xFF) ++ flag s.rs.diverged
        ++ bank s.rs.bank0 ++ bank s.rs.bank1)
    ∧ reads 0x46 (.readRotation tag)
      (s.dc.table.flatMap (fun e => u8 e.page.code ++ u8 e.dwell ++ u8 e.next) ++ u8 s.dc.start
        ++ u8 (s.dc.current.getD 0xFF) ++ u8 s.dc.dwell ++ u8 s.dc.page.code)
    ∧ reads 0x50 (.readBackbone tag)
      (u8 s.bc.state.code ++ u8 s.bc.counter ++ u16 s.bc.sent ++ u16 s.bc.aborted ++ u8 s.bc.lastCall.target
        ++ u8 s.bc.lastCall.resultA.code ++ u8 s.bc.lastCall.resultB.code ++ flag s.bc.lastCall.handed)
    ∧ reads 0x51 (.readLineFlags tag)
      (line (lineSet s.sup.a.flags .clear false) s.sup.a ++ line (lineSet .clear s.sup.b.flags false) s.sup.b
        ++ flag s.sup.mismatch)
    ∧ (∀ target id seat : Nat,
      let c : Instr := .readSeat tag target id seat
      let B := if target = 0 then s.rs.liveBank else s.rs.stagingBank
      if 1 < target ∨ id = 0 then refused 0x35 c .badField
      else if target = 1 ∧ (s.rs.staging = .closed ∨ s.rs.staging = .copying) then refused 0x35 c .wrongState
      else match B.find? fun v => v.id = id with
        | none => refused 0x35 c .notFound
        | some v =>
          match v.seats[seat]? with
          | none => refused 0x35 c .outOfRange
          | some l => reads 0x35 c (u8 v.type ++ u8 v.slot
              ++ (u8 l.length ++ l.flatMap fun g => u8 g.fromIx ++ u8 g.toIx ++ u8 g.kind.code ++ text g.label)
              ++ (match s.cm.list.find? fun e => e.coach.id = id with
                | some e => u8 (agreement s B e).code ++ (seatState s B e seat).bytes
                | none => [Config.noEntryAgreement] ++ SeatState.unknown.bytes)))
    ∧ (∀ id : Nat,
      let c : Instr := .readDisplay tag id
      let stack (l : List Notice) : List Byte := u8 l.length ++ l.flatMap Notice.bytes
      if id = 0 then refused 0x47 c .badField
      else match s.cm.list.find? fun e => e.coach.id = id with
        | some e => reads 0x47 c (u8 e.state.code ++ s.cm.hopByte id
            ++ (BlockKind.all.flatMap fun k =>
              flag (e.blocks.get k).valid ++ u8 (e.blocks.get k).gen ++ flag (e.blocks.get k).dirty)
            ++ u8 e.refresh.code ++ (chosen s e).bytes ++ stack e.coach.notices)
        | none =>
          match s.cm.detached.find? fun k => k.id = id with
          | some k => reads 0x47 c ([4] ++ stack k.notices)
          | none => refused 0x47 c .notFound)
    ∧ ∀ table : Nat,
      let c : Instr := .readTable tag table
      let t := if table = 0 then s.sup.even else s.sup.odd
      if 1 < table then refused 0x56 c .badField
      else reads 0x56 c (flag t.valid ++ (match t.cycle with
          | some n => u8 n
          | none => [Config.noCycle]) ++ flag t.updating ++ u8 t.lock.code ++ u8 s.sup.capture.code
        ++ s.sup.capture.progress ++ t.rows.flatMap Row.bytes)

/-- In the beacon segment the cycle start takes 1 from every CYCLES notice of every stack, removing one that reaches 0;
the HEADER of a list entry whose chosen notice is removed is marked, and no other block. Then with a remaining dwell above
1 the dwell falls by 1; otherwise the candidates of R144 are examined, at most 12: an EMPTY entry leads to the start
entry, a NOTICE entry while no list entry has a notice to its own next entry; the first other one is shown with its dwell,
or after 12 the rotation falls back to NEXT_STOP with dwell 1. The beacon has then been sent: both lines have carried the
start marker, hop byte 1, kind 0x01, length 8, the beacon fields taken at its start, their CRC and the end marker. Nothing
else changes but the segment and its time. (A frame, which no reachable beacon segment holds, sends on to that moment, and
is aborted if it carries a HEADER so marked in flight.) (R139, R140, R144, R147, R148, R149, R154, R155, R159, R228) -/
def Obligations.CycleStartCountsNoticesThenRotates : Prop :=
  ∀ s : State, s.clc.ready ≠ .held → s.dc.advanced = [] → ConsistOk s.cm → s.bc.segment = .beacon →
    let down (n : Notice) : Option Notice :=
      match n.expiry with
      | .cycles r => if r ≤ 1 then none else some { n with expiry := .cycles (r - 1) }
      | _ => some n
    let stack (k : Coach) : Coach := { k with notices := k.notices.filterMap down }
    let hidden (e : Entry) : Bool :=
      match chosen s e with
      | .host _ n => (down n).isNone
      | _ => false
    let d := s.dc
    let at_ (i : Nat) : RotationEntry := (d.table[i]?).getD { page := .empty, dwell := 1, next := 0 }
    let first : Nat := match d.current with
      | some i => (at_ i).next
      | none => d.start
    let step (i : Nat) : Nat := if (at_ i).page = .empty then d.start else (at_ i).next
    let candidate (n : Nat) : Nat := Nat.iterate step n first
    let notices := ∃ e ∈ s.cm.list, (stack e.coach).notices ≠ []
    let shown (i : Nat) : Prop := (at_ i).page ≠ .empty ∧ ((at_ i).page = .notice → notices)
    ∃ t, exec .cycleStart s = .next t
      ∧ t.cm = { s.cm with
          list := s.cm.list.map fun (e : Entry) =>
            { e with coach := stack e.coach
                     blocks := .ofKinds fun k => (e.blocks.get k).markedIf (k = .header && hidden e) }
          detached := s.cm.detached.map stack }
      ∧ (1 < d.dwell → t.dc = { d with dwell := d.dwell - 1 })
      ∧ (d.dwell ≤ 1 → ∀ n < 12, (∀ m < n, ¬ shown (candidate m)) → shown (candidate n) →
          t.dc = { d with current := some (candidate n), page := (at_ (candidate n)).page,
                          dwell := (at_ (candidate n)).dwell })
      ∧ (d.dwell ≤ 1 → (∀ n < 12, ¬ shown (candidate n)) →
          t.dc = { d with current := none, page := .nextStop, dwell := 1 })
      ∧ (let u := runTo 60 s
         let v := abortIf (fun d k => s.cm.list.any fun e =>
             e.coach.id = d && (e.blocks.get k).valid && (k = .header && hidden e))
           (u.setBc { u.bc with segment := .beaconSent })
         t.bc = v.bc ∧ t.sup = v.sup)
      ∧ (s.bc.frame = none → t.bc = { s.bc with segment := .beaconSent, clock := max s.bc.clock 60 } ∧ t.sup = s.sup)
      ∧ (s.bc.beacon.length = 8 → ∀ line, t.bc.sends line = [.start, .data 1, .data 1, .data 8] ++ s.bc.beacon.map .data
          ++ (wordBytes (crc16 ([1, 8] ++ s.bc.beacon))).map .data ++ [.stop])
      ∧ t.jt = s.jt ∧ t.rs = s.rs ∧ t.clc = s.clc ∧ t.pending = s.pending

/-- At the start of slot 1 after the beacon, or of slot n + 1 after slot n: with no entry at that hop the slot is silent and
nothing but the segment changes. Otherwise the frame is for the entry's first dirty valid block in the order of R119, the
refresh pointer staying, or with none dirty for the first valid kind after the pointer, which moves to it; it carries the
block's generation, its length is that of the payload then needed, and the count of frames sent rises, up to 65,535. When a
frame being sent with at most 208 payload bytes comes to its end, the bytes still due have been read from their sources as
they stand, and it is completed with the CRC over kind, length and payload as its check; both lines have then carried the
start marker, hop byte 1, kind 0x02, length, payload, CRC and end marker. The payload is the identity, kind and generation,
then the fields of R229: the HEADER of R122 with the door side of R26 and the notice of R140 and R25 (log entries 14 and 15),
NAMESk of R123, SEATk of R124 with the seat states of R114 to R116 from the live bank, and MAP of R125, mirrored as R43
gives, its position as last handed (log entry 16). CONTENT_FRAME_COMPLETE with no frame being sent leaves the state as it was
(log entry 4). (R25, R26, R43, R114, R115, R116, R122, R123, R124, R125, R131, R140, R147, R148, R149, R156, R157, R158,
R175, R228, R229, log entries 4, 14, 15 and 16) -/
def Obligations.SlotStartSendsTheChosenBlock : Prop :=
  (∀ (n : Nat) (s : State), s.clc.ready ≠ .held → s.dc.advanced = [] →
    ((s.bc.segment = .beaconSent ∧ n = 1) ∨ (2 ≤ n ∧ n ≤ 16 ∧ s.bc.segment = .slotDone (n - 1))) →
    let begun : Bc := { s.bc with segment := .slot n, clock := 0, frame := none, call := none, gotA := .nothing,
                                  gotB := .nothing }
    (s.cm.list[n - 1]? = none → exec .coachSlotStart s = .next (s.setBc begun))
    ∧ ∀ e k r, s.cm.list[n - 1]? = some e →
      (if ∃ x ∈ BlockKind.all, (e.blocks.get x).valid = true ∧ (e.blocks.get x).dirty = true then
        BlockKind.all.find? (fun x => (e.blocks.get x).valid && (e.blocks.get x).dirty) = some k ∧ r = e.refresh
      else (BlockKind.all.drop e.refresh.code ++ BlockKind.all.take e.refresh.code).find?
        (fun x => (e.blocks.get x).valid) = some k ∧ r = k) →
      let gen := (e.blocks.get k).gen
      exec .coachSlotStart s = .next ((s.setCm { s.cm with list := s.cm.list.map fun (x : Entry) =>
          if x.coach.id = e.coach.id then { x with refresh := r } else x }).setBc
        { begun with
          frame := some { dest := e.coach.id, kind := k, gen := gen, sent := [], state := .sending, endAt := 0,
                          len := (contentPayload s e.coach.id k gen).length }
          sent := min 65535 (s.bc.sent + 1) }))
  ∧ (∀ (n : Nat) (f : ContentFrame) (s : State), s.clc.ready ≠ .held → s.dc.advanced = [] → s.bc.segment = .slot n →
    s.bc.frame = some f →
    (f.state ≠ .sending → exec .contentFrameComplete s = .next s)
    ∧ (f.state = .sending → f.len ≤ 208 →
      let sent := f.sent ++ ((contentPayload s f.dest f.kind f.gen).drop f.sent.length).take (f.len - f.sent.length)
      let check := crc16 ([2, BitVec.ofNat 8 f.len] ++ sent)
      let b : Bc := { s.bc with
        clock := max s.bc.clock (4 * (f.len + 7))
        frame := some { f with sent := sent, endAt := 4 * (f.len + 7), state := .completed check } }
      exec .contentFrameComplete s = .next (s.setBc b)
      ∧ (sent.length = f.len → ∀ line, b.sends line = [.start, .data 1, .data 2, .data (BitVec.ofNat 8 f.len)]
          ++ sent.map .data ++ (wordBytes check).map .data ++ [.stop])))
  ∧ ∀ (gen : Nat) (e : Entry) (s : State), ConsistOk s.cm → e ∈ s.cm.list →
    let begins (kind : Nat) : List Byte := u32 e.coach.id ++ u8 kind ++ u8 gen
    let content (k : BlockKind) : List Byte := contentPayload s e.coach.id k gen
    let portion := s.jt.portions.find? fun p => p.unit = e.coach.unit
    let stops (p : Portion) : List Stop := (s.jt.slots.get p.slot).stops
    let own (p : Portion) (i : Nat) : Nat := (Int.ofNat i + p.delta).toNat
    let last := s.jt.homeStops.length - 1
    let span (p : Portion) (i : Nat) : Bool := if p.home then i ≤ last else p.assignedAt ≤ i && i ≤ p.partAt.getD last
    let c := s.jt.phase.index.getD 0
    let running : Bool := s.jt.phase = .running c
    let aligned (p : Portion) : Bool := s.jt.phase ≠ .noJourney && span p c
    let n := eff s.jt.homeStops (c + 1)
    let stop := portion.bind fun p =>
      if !aligned p then none else if !running then some (own p c) else if span p n then some (own p n) else none
    let side (p : Portion) (i : Nat) : Side := ((stops p)[i]?.map Stop.side).getD .none
    let platform (p : Portion) : Side :=
      if aligned p && s.jt.phase = .atStop c then side p (own p c)
      else match s.jt.notice with
        | .approaching i => if aligned p && running && span p n then side p (own p i) else .none
        | .arriving i => if aligned p && running && span p n then side p (own p i) else .none
        | _ => .none
    let mirror : Bool := (e.coach.orient = .reversed) != (s.jt.direction = .headLast)
    let door : Side := match (portion.map platform).getD .none, mirror with
      | .left, true => .right
      | .right, true => .left
      | x, _ => x
    let dest := (portion.map fun p => (s.jt.slots.get p.slot).dest).getD []
    let field (kind : Nat) (urgent : Bool) (i : Option Nat) (x : Text) : List Byte :=
      u8 kind ++ flag urgent ++ u8 (i.getD 0xFF) ++ text x
    let parts (i : Nat) : Bool := s.jt.portions.any fun q => q.partAt = some i
    let journey (kind : Nat) (p : Portion) (i : Nat) : Option (List Byte) :=
      if !aligned p || !span p i then none
      else if parts i && (p.home || p.partAt = some i) then some (field 5 false (some (own p i)) dest)
      else some (field kind false (some (own p i)) [])
    let handed := portion.bind fun p => match s.jt.notice with
      | .none => none
      | .approaching i => journey 2 p i
      | .arriving i => journey 3 p i
      | .atPlatform i => journey 4 p i
    let host (x : Priority) := (e.coach.notices.find? fun m => m.priority = x).map fun m => field 1 (x = .urgent) none m.text
    let notice := if e.state = .departing then field 6 true none dest
      else (((host .urgent).or handed).or (host .normal)).getD (field 0 false none [])
    let seat (q : Nat) : List Byte := match portion, s.rs.liveBank.find? fun v => v.id = e.coach.id with
      | some p, some v =>
        let starts (g : Segment) : Nat := effClamped (stops p) g.fromIx
        let ends (g : Segment) : Nat := effClamped (stops p) g.toIx
        if v.slot ≠ p.slot ∨ v.type ≠ e.coach.type then [0, 0xFF, 0, 0]
        else if s.jt.phase = .terminated c then [1, 0xFF, 0, 0]
        else if !aligned p then [0, 0xFF, 0, 0]
        else match ((v.seats[q]?).getD []).find? fun g => starts g < ends g && own p c < ends g with
          | none => [1, 0xFF, 0, 0]
          | some g => (if own p c < starts g then u8 2 ++ u8 (starts g)
              else if ends g = (stops p).length - 1 then [4, 0xFF] else u8 3 ++ u8 (ends g)) ++ u8 g.kind.code ++ text g.label
      | _, _ => [0, 0xFF, 0, 0]
    let place (x : Nat) : Nat := if mirror then 1023 - x else x
    content .header = begins 1 ++ u16 e.coach.number ++ text dest ++ u8 (stop.getD 0xFF)
        ++ u8 (if stop.isNone then 0 else if running then 2 else 1) ++ u8 (if stop.isNone then 0xFF else s.jt.odo.etaMin)
        ++ u16 (if stop.isSome && s.jt.timeValid then s.jt.odo.clock.getD 0xFFFF else 0xFFFF) ++ u8 door.code ++ notice
    ∧ (∀ p, portion = some p →
      (∀ k < 5, content (.names k) = begins (2 + k) ++ u8 k ++ u8 (stops p).length
        ++ (((stops p).drop (8 * k)).take 8).flatMap fun x => flag x.cancelled ++ text x.name)
      ∧ content .map = begins 13 ++ u8 (stops p).length ++ u8 (if aligned p then own p c else 0xFF)
        ++ u16 (if aligned p then (p.pos.map place).getD 0xFFFF else 0xFFFF)
        ++ (stops p).flatMap fun x => u16 (place x.column) ++ flag x.cancelled)
    ∧ ∀ x, s.cm.types.find? (fun t => t.code = e.coach.type) = some x → ∀ k < 6,
      let here := min 16 (x.seats - 16 * k)
      content (.seat k) = begins (7 + k) ++ u8 k ++ u8 here ++ (List.range here).flatMap fun i => seat (16 * k + i)

/-- While OFF (log entry 26) and in the beacon segment what a line carries changes nothing. In any other segment one
symbol that ends within it moves the receiver of its line as R150 gives: a start marker begins a frame, an abort or a
marker out of place ends one, data bytes are taken as kind, length, payload and CRC, a length above 208 or a third CRC
byte ends the frame, a code violation leaves the state. After the CONTENT frame of a slot has ended, a whole upstream
frame with a good CRC received from HUNT within the slot, with nothing taken before, is taken with its start and its
bytes; the other line and the rest of the state stay. The moments are the model's operands (log entry 11). (R147, R148,
R149, R150, R151, R154, log entries 11 and 26) -/
def Obligations.BackboneReceiversFollowTheirTable : Prop :=
  (∀ (line : Line) (t0 : Nat) (symbols : List Symbol) (s : State), s.clc.ready ≠ .held → s.dc.advanced = [] →
    (s.bc.segment = .none ∨ s.bc.segment = .beacon ∨ s.bc.segment = .beaconSent) →
    exec (.backboneFrameReceived line t0 symbols) s = .next s)
  ∧ (∀ (line : Line) (t0 : Nat) (x : Symbol) (s : State), s.clc.ready ≠ .held → s.dc.advanced = [] →
    s.bc.segment ≠ .none → s.bc.segment ≠ .beacon → s.bc.segment ≠ .beaconSent → t0 + 4 ≤ s.bc.segment.length →
    let rx : BackboneRx := match line with
      | .a => s.bc.rxA
      | .b => s.bc.rxB
    let goes : BackboneRx := match x, rx with
      | .start, _ => .header none
      | .violation, _ => rx
      | .abort, _ => .hunt
      | .stop, _ => .hunt
      | .data _, .hunt => .hunt
      | .data b, .header none => .header (some b)
      | .data b, .header (some k) =>
        if b.toNat = 0 then .trailer k b [] [] else if b.toNat ≤ 208 then .body k b [] else .hunt
      | .data b, .body k l p => if p.length + 1 < l.toNat then .body k l (p ++ [b]) else .trailer k l (p ++ [b]) []
      | .data b, .trailer k l p c => if c.length < 2 then .trailer k l p (c ++ [b]) else .hunt
    ∃ t, exec (.backboneFrameReceived line t0 [x]) s = .next t
      ∧ (line = .a → t.bc.rxA = goes ∧ t.bc.rxB = s.bc.rxB ∧ t.bc.gotB = s.bc.gotB)
      ∧ (line = .b → t.bc.rxB = goes ∧ t.bc.rxA = s.bc.rxA ∧ t.bc.gotA = s.bc.gotA)
      ∧ t.jt = s.jt ∧ t.cm = s.cm ∧ t.rs = s.rs ∧ t.dc = s.dc ∧ t.sup = s.sup ∧ t.clc = s.clc)
  ∧ ∀ (line : Line) (t0 n : Nat) (kind : Byte) (payload : List Byte) (f : ContentFrame) (s : State),
    s.clc.ready ≠ .held → s.dc.advanced = [] → s.bc.segment = .slot n → s.bc.frame = some f → f.state ≠ .sending →
    payload.length ≤ 208 → f.endAt ≤ t0 → t0 + 4 * (payload.length + 6) ≤ 2000 →
    let span := kind :: BitVec.ofNat 8 payload.length :: payload
    let symbols := Symbol.start :: ((span ++ wordBytes (crc16 span)).map Symbol.data ++ [Symbol.stop])
    let clock := max s.bc.clock (t0 + 4 * (payload.length + 6))
    let taken : Takings := { starts := 1, violation := false, startAt := t0,
                             frame := some (.complete kind payload true) }
    (line = .a → s.bc.rxA = .hunt → s.bc.gotA = .nothing → exec (.backboneFrameReceived line t0 symbols) s
      = .next (s.setBc { s.bc with clock := clock, gotA := taken }))
    ∧ (line = .b → s.bc.rxB = .hunt → s.bc.gotB = .nothing → exec (.backboneFrameReceived line t0 symbols) s
      = .next (s.setBc { s.bc with clock := clock, gotB := taken }))

/-- At the end of a slot whose frame has ended, with takings of any kind on each line, their results by the table of R163,
and at least one valid for the slot (VALID, with the entry's identity): line A's answer is used when valid. The missed count
is 0, a MUTE entry is ACTIVE, any other state stays; the hop seen, any byte (log entry 32), joins the pair hop record,
orientation, type and a number up to 999 are taken, the unit is not, the notices stay. The dirty mark of the block sent is
cleared when the answer changes no field, RESTARTED is clear, the kind, generation and check match a completed frame and the
generation is still the block's. On each line CRC_ERROR, LATE or CLASH is set by that result and VALID_SEEN by a valid
answer, while NONE and a VALID answer of another identity set no flag; MISMATCH is set when both lines' answers are valid and
differ; the observations are as R181 gives; in a cycle that updates its table the row of the slot is written with the result
of each line and the identity, hop and fault count of each VALID one. (R69, R76, R132, R133, R163, R164, R165, R176, R177,
R178, R181, R188, log entry 32) -/
def Obligations.SlotEndTakesAValidAnswer : Prop :=
  ∀ (n : Nat) (f : ContentFrame) (e : Entry) (s : State),
    s.clc.ready ≠ .held → s.dc.advanced = [] → ConsistOk s.cm → s.bc.segment = .slot n → s.bc.frame = some f →
    f.state ≠ .sending → e ∈ s.cm.list → e.coach.id = f.dest →
    let rA := resultOf (f.endAt + 40) 1900 0x81 17 s.bc.gotA
    let rB := resultOf (f.endAt + 40) 1900 0x81 17 s.bc.gotB
    let pA := s.bc.gotA.payload
    let pB := s.bc.gotB.payload
    let okA : Bool := rA = .valid && field32 pA 0 = f.dest
    let okB : Bool := rB = .valid && field32 pB 0 = f.dest
    (okA || okB) = true →
    let p := if okA then pA else pB
    let even : Bool := s.bc.counter % 2 = 0
    let orient : Orientation := if byteAt p 5 = 0 then .forward else .reversed
    let echoed := (∃ x, f.state = .completed x ∧ field16 p 14 = x.toNat) ∧ byteAt p 12 = f.kind.code ∧ byteAt p 13 = f.gen
    let table (u : Sup) : NodeTable := if even then u.even else u.odd
    ∃ t, exec .coachSlotEnd s = .next t
      ∧ t.bc = { s.bc with clock := max s.bc.clock 2000, segment := .slotDone n, frame := none }
      ∧ (∃ x ∈ t.cm.list, x.coach.id = f.dest ∧ x.state = (if e.state = .mute then .active else e.state)
        ∧ x.coach.missed = 0 ∧ x.coach.orient = orient ∧ x.coach.type = byteAt p 6
        ∧ x.coach.number = (if field16 p 9 ≤ 999 then field16 p 9 else e.coach.number)
        ∧ x.coach.unit = e.coach.unit ∧ x.coach.unitDiffers = decide (field16 p 7 ≠ e.coach.unit)
        ∧ x.coach.notices = e.coach.notices ∧ x.pairCount = e.pairCount
        ∧ x.pairHop = (match e.pairHop with
            | .none => .hop (byteAt p 4)
            | .hop h => if h = byteAt p 4 then .hop h else .disagreeing
            | .disagreeing => .disagreeing)
        ∧ x.evenHeld = (even || e.evenHeld) ∧ x.evenValid = (even || e.evenValid) ∧ x.oddValid = (!even || e.oddValid)
        ∧ (e.state ≠ .mute → orient = e.coach.orient → byteAt p 6 = e.coach.type → field16 p 9 = e.coach.number →
            (byteAt p 11).testBit 0 = false →
            (echoed ∧ (e.blocks.get f.kind).gen = f.gen → (x.blocks.get f.kind).dirty = false)
            ∧ (¬ (echoed ∧ (e.blocks.get f.kind).gen = f.gen) → x.blocks = e.blocks)))
      ∧ t.cm.list.map (·.coach.id) = s.cm.list.map (·.coach.id) ∧ t.cm.detached = s.cm.detached
      ∧ t.cm.survey = s.cm.survey ∧ t.jt = s.jt ∧ t.rs = s.rs ∧ t.dc = s.dc
      ∧ t.sup.a = lineAfterSlot s.sup.a rA okA okB ∧ t.sup.b = lineAfterSlot s.sup.b rB okB okA
      ∧ t.sup.mismatch = (s.sup.mismatch || (okA && okB && pA ≠ pB))
      ∧ ((table s.sup).updating = false → table t.sup = table s.sup)
      ∧ ∀ ack : Ack, (echoed → ack = .matched) → (¬ echoed → ack = .notMatched) → (table s.sup).updating = true →
          let row : Row := { addressed := some f.dest, partA := partWith rA pA, partB := partWith rB pB,
                             used := if okA then some .a else some .b, ack := ack }
          table t.sup = { table s.sup with rows := (table s.sup).rows.set (n - 1) row }

/-- At the end of a slot whose frame has ended, with takings of any kind on each line, their results by the table of R163,
and none valid for the slot, the entry's missed count rises by 1. A PROBATION or ACTIVE entry's pair count is 0; the third
miss makes an ACTIVE entry MUTE and sets COACH_MUTE; the 32nd takes a PROBATION or MUTE entry, with its notices, to the
detached set and sets COACH_LOST; the third deletes a DEPARTING entry. Otherwise it stays in its place with its state. On
each line CRC_ERROR, LATE or CLASH is set by its result, while NONE and a VALID answer of another identity set no flag; the
entry slot is observed on both lines; a table being updated gets a row with the addressed identity, the results, what a VALID
answer of another identity carried, no line used and no acknowledgement. (R70, R71, R78, R163, R164, R176, R177, R181, R186,
R188) -/
def Obligations.SlotEndTakesAMiss : Prop :=
  ∀ (n : Nat) (f : ContentFrame) (e : Entry) (s : State),
    s.clc.ready ≠ .held → s.dc.advanced = [] → ConsistOk s.cm → s.bc.segment = .slot n → s.bc.frame = some f →
    f.state ≠ .sending → e ∈ s.cm.list → e.coach.id = f.dest →
    let rA := resultOf (f.endAt + 40) 1900 0x81 17 s.bc.gotA
    let rB := resultOf (f.endAt + 40) 1900 0x81 17 s.bc.gotB
    (rA = .valid → field32 s.bc.gotA.payload 0 ≠ f.dest) → (rB = .valid → field32 s.bc.gotB.payload 0 ≠ f.dest) →
    let even : Bool := s.bc.counter % 2 = 0
    let missed := e.coach.missed + 1
    let lost := (e.state = .probation ∨ e.state = .mute) ∧ missed = 32
    let deleted := e.state = .departing ∧ missed = 3
    let muted := e.state = .active ∧ missed = 3
    let table (u : Sup) : NodeTable := if even then u.even else u.odd
    ∃ t, exec .coachSlotEnd s = .next t
      ∧ t.bc = { s.bc with clock := max s.bc.clock 2000, segment := .slotDone n, frame := none }
      ∧ (lost → t.cm.list = s.cm.list.filter (fun x => x.coach.id ≠ f.dest)
          ∧ t.cm.detached = s.cm.detached ++ [{ e.coach with missed := 32 }] ∧ t.clc.alarms.coachLost = true
          ∧ t.jt = s.jt ∧ t.rs = s.rs)
      ∧ (deleted → t.cm.list.map (·.coach) = (s.cm.list.filter fun x => x.coach.id ≠ f.dest).map (·.coach)
          ∧ (∀ k ∈ t.cm.detached, k ∈ s.cm.detached))
      ∧ (¬ lost → ¬ deleted → t.jt = s.jt ∧ t.rs = s.rs ∧ t.cm.detached = s.cm.detached
          ∧ t.cm.list.map (·.coach.id) = s.cm.list.map (·.coach.id)
          ∧ (muted → t.clc.alarms.coachMute = true)
          ∧ ∃ x ∈ t.cm.list, x.coach = { e.coach with missed := missed }
            ∧ (muted → x.state = .mute) ∧ (¬ muted → x.state = e.state)
            ∧ (e.state = .probation ∨ e.state = .active → x.pairCount = 0)
            ∧ (e.state = .mute ∨ e.state = .departing → x.pairCount = e.pairCount)
            ∧ (even = true → x.evenHeld = true ∧ x.evenValid = false) ∧ (even = false → x.oddValid = false)
            ∧ x.pairHop = e.pairHop ∧ (¬ muted → x.blocks = e.blocks))
      ∧ t.dc = s.dc ∧ t.sup.a = lineAfterSlot s.sup.a rA false false
      ∧ t.sup.b = lineAfterSlot s.sup.b rB false false ∧ t.sup.mismatch = s.sup.mismatch
      ∧ ((table s.sup).updating = false → table t.sup = table s.sup)
      ∧ ((table s.sup).updating = true →
          let row : Row := { addressed := some f.dest, partA := partWith rA s.bc.gotA.payload,
                             partB := partWith rB s.bc.gotB.payload, used := none, ack := .none }
          table t.sup = { table s.sup with rows := (table s.sup).rows.set (n - 1) row })

/-- At the start of the window with n list entries: SURVEYING calls hop n + 1, or at 16 entries closes with LIST_FULL; CLOSED
sends a watch call when the counter is 0 and n is below 16; otherwise the window is quiet. At its end each line's result is
that of R163 for its window; CRC_ERROR, LATE or CLASH is set by it, VALID_SEEN by a VALID answer from the target hop, and
MISMATCH when both lines' are valid and differ; the call is recorded with the results. With no valid call answer a survey
call costs an attempt and the last one closes with ATTEMPTS_SPENT; a watch call changes nothing of the consist. With a good
CALL_ANSWER on line A from the target hop, an identity and unit not 0 and a number up to 999: an identity in the list closes
the survey with HOP_CONFUSED; a new one at 16 entries with CONSIST_FULL; one whose unit would be a fifth with UNIT_LIMIT, the
entries unchanged; otherwise it joins the list, a new coach without notices, a detached one with its notices and no longer
detached, in DEPARTING if its portion is PARTING and PROBATION otherwise, and the survey is SURVEYING with its attempts
loaded again. (R61, R62, R63, R64, R65, R66, R67, R167, R163, R169, R175, R176, R177, R178) -/
def Obligations.CallWindowSurveysTheChain : Prop :=
  (∀ s : State, s.clc.ready ≠ .held → s.dc.advanced = [] → s.bc.segment = .slotDone 16 →
    let n := s.cm.list.length
    let begun (c : Option Call) : Bc :=
      { s.bc with segment := .call, clock := 0, frame := none, call := c, gotA := .nothing, gotB := .nothing }
    (s.cm.survey.state = .surveying → n < 16 →
      exec .callWindowStart s = .next (s.setBc (begun (some { target := n + 1, watch := false }))))
    ∧ (s.cm.survey.state = .surveying → 16 ≤ n → ∃ t, exec .callWindowStart s = .next t ∧ t.bc = begun none
        ∧ t.cm = { s.cm with survey := { s.cm.survey with state := .closed, cause := .listFull } }
        ∧ t.jt = s.jt ∧ t.rs = s.rs ∧ t.dc = s.dc ∧ t.sup = s.sup)
    ∧ (s.cm.survey.state = .closed → s.bc.counter = 0 → n < 16 →
      exec .callWindowStart s = .next (s.setBc (begun (some { target := n + 1, watch := true }))))
    ∧ (s.cm.survey.state = .off ∨ (s.cm.survey.state = .closed ∧ (s.bc.counter ≠ 0 ∨ 16 ≤ n)) →
      exec .callWindowStart s = .next (s.setBc (begun none))))
  ∧ (∀ s : State, s.clc.ready ≠ .held → s.dc.advanced = [] → s.bc.segment = .call → s.bc.frame = none →
    let ended (b : Bc) : Bc := { b with clock := max s.bc.clock 3000, segment := .callDone, call := none }
    (s.bc.call = none → exec .callWindowEnd s = .next (s.setBc (ended s.bc)))
    ∧ ∀ (target : Nat) (watch : Bool), s.bc.call = some { target := target, watch := watch } →
      let rA := resultOf 72 2900 0x83 12 s.bc.gotA
      let rB := resultOf 72 2900 0x83 12 s.bc.gotB
      let okA : Bool := rA = .valid && byteAt s.bc.gotA.payload 4 = target
      let okB : Bool := rB = .valid && byteAt s.bc.gotB.payload 4 = target
      let record : CallRecord := { target := target, resultA := rA, resultB := rB, handed := okA || okB }
      ∃ t, exec .callWindowEnd s = .next t ∧ t.bc = ended { s.bc with lastCall := record }
        ∧ t.sup = { s.sup with
            a := { s.sup.a with flags := flagsWith s.sup.a.flags rA okA }
            b := { s.sup.b with flags := flagsWith s.sup.b.flags rB okB }
            mismatch := s.sup.mismatch || (okA && okB && s.bc.gotA.payload ≠ s.bc.gotB.payload) }
        ∧ t.jt = s.jt ∧ t.rs = s.rs ∧ t.dc = s.dc
        ∧ ((okA || okB) = false → t.cm = (if watch then s.cm else { s.cm with survey := { s.cm.survey with
            attempts := s.cm.survey.attempts - 1
            state := if s.cm.survey.attempts ≤ 1 then .closed else s.cm.survey.state
            cause := if s.cm.survey.attempts ≤ 1 then .attemptsSpent else s.cm.survey.cause } })))
  ∧ ∀ (target : Nat) (watch : Bool) (p : List Byte) (x : Nat) (s : State), s.clc.ready ≠ .held → s.dc.advanced = [] →
    s.bc.segment = .call → s.bc.frame = none → s.bc.call = some { target := target, watch := watch } →
    72 ≤ x → x ≤ 2900 → p.length = 12 → byteAt p 4 = target →
    s.bc.gotA = { starts := 1, violation := false, startAt := x, frame := some (.complete 0x83 p true) } →
    s.bc.gotB = .nothing → field32 p 0 ≠ 0 → field16 p 7 ≠ 0 → field16 p 9 ≤ 999 →
    let id := field32 p 0
    let unit := field16 p 7
    let all := s.cm.list.map (·.coach) ++ s.cm.detached
    let units := ((all.filter fun k => k.id ≠ id).map (·.unit)).dedup
    let fifth := unit ∉ units ∧ 4 ≤ units.length
    let coach (notices : List Notice) : Coach :=
      { id := id, unit := unit, number := field16 p 9, type := byteAt p 6, notices := notices, missed := 0,
        orient := if byteAt p 5 = 0 then .forward else .reversed, unitDiffers := false }
    let closed (c : CloseCause) : Survey := { s.cm.survey with state := .closed, cause := c }
    ∃ t, exec .callWindowEnd s = .next t
      ∧ t.bc.lastCall = { target := target, resultA := .valid, resultB := .none, handed := true }
      ∧ t.bc.segment = .callDone ∧ t.jt = s.jt ∧ t.rs = s.rs ∧ t.dc = s.dc
      ∧ t.sup = { s.sup with a := { s.sup.a with flags := { s.sup.a.flags with validSeen := true } } }
      ∧ ((∃ e ∈ s.cm.list, e.coach.id = id) →
          t.cm = { s.cm with survey := if watch = true ∧ s.cm.survey.state = .closed ∧ s.cm.survey.cause = .hopConfused id
            then s.cm.survey else closed (.hopConfused id) })
      ∧ ((∀ k ∈ all, k.id ≠ id) → 16 ≤ all.length → t.cm = { s.cm with survey := closed (.consistFull id) })
      ∧ ((∀ e ∈ s.cm.list, e.coach.id ≠ id) → (∃ k ∈ s.cm.detached, k.id = id) ∨ all.length < 16 → fifth →
          t.cm = { s.cm with survey := closed (.unitLimit id) })
      ∧ ∀ notices, (∀ e ∈ s.cm.list, e.coach.id ≠ id) → ¬ fifth →
          ((∀ k ∈ s.cm.detached, k.id ≠ id) ∧ all.length < 16 ∧ notices = []
            ∨ ∃ k, s.cm.detached.find? (fun k => k.id = id) = some k ∧ notices = k.notices) →
          t.cm.list.map (·.coach) = s.cm.list.map (·.coach) ++ [coach notices]
          ∧ t.cm.detached = s.cm.detached.filter (fun k => k.id ≠ id)
          ∧ t.cm.survey = { s.cm.survey with state := .surveying, cause := .none, attempts := s.cm.survey.cfgAttempts }
          ∧ ∃ e, t.cm.list[s.cm.list.length]? = some e ∧ e.pairCount = 0 ∧ e.pairHop = .none ∧ e.evidenceCount = 0
            ∧ e.evidenceHop = none ∧ e.refresh = .map ∧ (∀ k ∈ BlockKind.all, (e.blocks.get k).gen = 0) ∧ e.allDirty
            ∧ ((∃ q, s.jt.portionOf unit = some q ∧ q.state = .parting) → e.state = .departing)
            ∧ (¬ (∃ q, s.jt.portionOf unit = some q ∧ q.state = .parting) → e.state = .probation)

/-- At the start of the quiet gap an even cycle changes nothing of the consist. In an odd cycle, no mismatch being
confirmed, the list keeps its order: a PROBATION entry whose pair qualifies gains 1, and becomes ACTIVE with pair count 0
at the configured pairs; the evidence is set from the pair hop record as R73 gives; both pair records are emptied; the
confusion mark is clear. With a confirmed mismatch and no MUTE entry: when the entries' pair hop records are single hops
that are exactly 1 to n, each once, every entry takes its hop and the mark is clear; when two entries report the same hop,
the order stays and the mark is set. A hop seen outside the list is
kept as evidence (log entry 32). (R72, R73, R74, R75, R170, log entry 32) -/
def Obligations.QuietGapTakesThePairEnd : Prop :=
  ∀ s : State, s.clc.ready ≠ .held → s.dc.advanced = [] → ConsistOk s.cm → s.bc.segment = .callDone →
    let list := s.cm.list
    let confirmed := ∃ (i : Nat) (e : Entry) (h : Nat), list[i]? = some e ∧ e.pairHop = .hop h ∧ h ≠ i + 1 ∧ e.evidenceHop = some h
    let speaking := ∀ e ∈ list, e.state ≠ .mute
    ∃ t, exec .quietGapStart s = .next t
      ∧ t.bc = { s.bc with segment := .gap, clock := 0, frame := none, call := none, gotA := .nothing, gotB := .nothing }
      ∧ t.jt = s.jt ∧ t.rs = s.rs ∧ t.dc = s.dc
      ∧ (s.bc.counter % 2 = 0 → t.cm = s.cm)
      ∧ (s.bc.counter % 2 = 1 → ¬ confirmed → t.cm.list.length = list.length ∧ t.cm.confused = false
          ∧ t.cm.detached = s.cm.detached
          ∧ ∀ (i : Nat) (e : Entry), list[i]? = some e → ∃ x, t.cm.list[i]? = some x ∧ x.coach = e.coach
            ∧ x.evenHeld = false ∧ x.evenValid = false ∧ x.oddValid = false ∧ x.pairHop = .none
            ∧ (match e.pairHop with
                | .hop h => if h = i + 1 then x.evidenceHop = none ∧ x.evidenceCount = 0
                    else x.evidenceHop = some h ∧ x.evidenceCount = 1
                | _ => x.evidenceHop = none ∧ x.evidenceCount = 0)
            ∧ (let pairs := if e.evenHeld = true ∧ e.evenValid = true ∧ e.oddValid = true then e.pairCount + 1
                else e.pairCount
              if e.state = .probation then
                if s.cm.survey.cfgPairs ≤ pairs then x.state = .active ∧ x.pairCount = 0
                else x.state = .probation ∧ x.pairCount = pairs
              else x.state = e.state ∧ x.pairCount = e.pairCount))
      ∧ (s.bc.counter % 2 = 1 → confirmed → speaking →
          (∀ e ∈ list, ∃ h, e.pairHop = .hop h ∧ 1 ≤ h ∧ h ≤ list.length) →
          (∀ (i j : Nat) (a b : Entry), list[i]? = some a → list[j]? = some b → a.pairHop = b.pairHop → i = j) →
          t.cm.list.length = list.length ∧ t.cm.confused = false
          ∧ ∀ (i : Nat) (e : Entry) (h : Nat), list[i]? = some e → e.pairHop = .hop h →
              ∃ x, t.cm.list[h - 1]? = some x ∧ x.coach = e.coach ∧ x.evidenceHop = none ∧ x.evidenceCount = 0)
      ∧ (s.bc.counter % 2 = 1 → confirmed → speaking →
          (∃ (i j : Nat) (a b : Entry) (h : Nat), list[i]? = some a ∧ list[j]? = some b ∧ i ≠ j ∧ a.pairHop = .hop h ∧ b.pairHop = .hop h) →
          t.cm.confused = true ∧ t.cm.list.map (·.coach) = list.map (·.coach))

/-- At the start of the quiet gap each line's three run counts rise, fall to 0 or in a neutral cycle are kept as R182
gives, its state is evaluated from them in the order of R183, and leaving OK sets its alarm flag. The table that the cycle
updates becomes valid with the cycle's number, no longer updating, a pending lock LOCKED; the other table and a table not
updated stay; the capture EVEN_TAKEN becomes HELD at the odd gap of a table updated. A line's change raises its LINE
report (shown for a busy transmitter with no report waiting, in an even cycle, the other line unchanged). (R182, R183,
R184, R189, R193) -/
def Obligations.QuietGapEvaluatesTheLines : Prop :=
  ∀ s : State, s.clc.ready ≠ .held → s.dc.advanced = [] → s.bc.segment = .callDone →
    let runs (l : LineSup) : Runs :=
      if l.obs.entrySlot = false then l.runs
      else
        { short := if l.obs.short then min 8 (l.runs.short + 1) else 0
          silent := if l.obs.carried then 0 else min 32 (l.runs.silent + 1)
          full := if l.obs.carried && !l.obs.short then min 8 (l.runs.full + 1) else 0 }
    let state (l : LineSup) : LineState :=
      match l.state with
      | .ok => if (runs l).silent = 32 then .dead else if (runs l).short = 8 then .degraded else .ok
      | .degraded => if (runs l).silent = 32 then .dead else if (runs l).full = 8 then .ok else .degraded
      | .dead => if (runs l).full = 8 then .ok else .dead
    let even : Bool := s.bc.counter % 2 = 0
    let mine (u : Sup) : NodeTable := if even then u.even else u.odd
    let other (u : Sup) : NodeTable := if even then u.odd else u.even
    let told (subject : Nat) (old new : LineState) : Report :=
      { cls := .line, code := 1, subject := subject, data := u8 old.code ++ u8 new.code }
    ∃ t, exec .quietGapStart s = .next t
      ∧ t.sup.a = { s.sup.a with runs := runs s.sup.a, state := state s.sup.a }
      ∧ t.sup.b = { s.sup.b with runs := runs s.sup.b, state := state s.sup.b }
      ∧ t.sup.mismatch = s.sup.mismatch ∧ other t.sup = other s.sup
      ∧ ((mine s.sup).updating = false → mine t.sup = mine s.sup)
      ∧ ((mine s.sup).updating = true → mine t.sup = { mine s.sup with
          valid := true, cycle := some s.bc.counter, updating := false
          lock := if (mine s.sup).lock = .pending then .locked else (mine s.sup).lock })
      ∧ t.sup.capture = (if (mine s.sup).updating = true ∧ even = false ∧ s.sup.capture = .evenTaken then .held
          else s.sup.capture)
      ∧ (s.sup.a.state = .ok → state s.sup.a ≠ .ok → t.clc.alarms.lineA = true)
      ∧ (s.sup.b.state = .ok → state s.sup.b ≠ .ok → t.clc.alarms.lineB = true)
      ∧ (even = true → s.clc.tx ≠ .idle → s.clc.reports = [] → s.clc.enabled.line = true →
          (state s.sup.a ≠ s.sup.a.state → state s.sup.b = s.sup.b.state →
            t.clc.reports = [told 1 s.sup.a.state (state s.sup.a)])
          ∧ (state s.sup.b ≠ s.sup.b.state → state s.sup.a = s.sup.a.state →
            t.clc.reports = [told 2 s.sup.b.state (state s.sup.b)]))

/-- From every state that meets the invariant, a step leads to one that meets it. (1) The portion table: at most 4
entries, no unit twice, none in NO_JOURNEY and otherwise exactly one home entry, which is ATTACHED. (2) The odometer: the
eight parameters, the time, D, rem, v, eta_s, eta_min, the arrival clock, the pulse count and the skip counter within
their ranges. (3) With the second, that every alarm condition that holds has its flag set. (R13, R18, R29, R31, R36, R39,
R40, R219) -/
def Obligations.EveryStepKeepsTheJourneyAndAlarmInvariants : Prop :=
  (∀ s t : State, PortionsOk s.jt → step s = .next t → PortionsOk t.jt)
  ∧ (∀ s t : State, OdometerOk s.jt → step s = .next t → OdometerOk t.jt)
  ∧ ∀ s t : State, OdometerOk s.jt → AlarmsOk s → step s = .next t → AlarmsOk t

/-- From every state that meets the invariant, a step leads to one that meets it. (1) At most 16 consist entries, no
identity twice, at most 4 units, stacks of at most 4 notices, at most 8 type records, no code twice. (2) Of every list
entry the HEADER is valid, only valid blocks are dirty, and every generation is one byte. (3) The rotation table has 12
entries with dwell 1 to 255 and next index below 12; the start and current indices are below 12; the page in force is a
showable kind. The identity and unit clauses rest on (1) alone. (R53, R66, R83, R119, R120, R121, R126, R134, R141) -/
def Obligations.EveryStepKeepsTheConsistAndBlockInvariants : Prop :=
  (∀ s t : State, ConsistOk s.cm → step s = .next t → ConsistOk t.cm)
  ∧ (∀ s t : State, BlocksOk s.cm → step s = .next t → BlocksOk t.cm)
  ∧ ∀ s t : State, RotationOk s.dc → step s = .next t → RotationOk t.dc

/-- From every state whose banks hold the constraints, a step leads to one whose banks hold them: in each bank at most 20
records, no identity twice, at most 4,096 segments; each seat holds at most 6, each with from below to, ordered by from
index with each to at most the next from, so that no two overlap; and in CLOSED the staging bank is empty. (R87, R88, R89,
R97) -/
def Obligations.EveryStepKeepsTheBanksLawful : Prop :=
  ∀ s t : State, BanksOk s.rs → step s = .next t → BanksOk t.rs

/-- From every state that meets the invariant, a step leads to one that meets it. (1) The survey is OFF exactly while the
backbone is, which is exactly when no segment runs; the cycle counter is below 32, the counts at most 65,535, the clock
within its segment. (2) Each node status table has 16 rows and is valid only when not being written, with a cycle number;
the run counts stay in range. (3) At most 4 requests, those behind the head WAITING; at most 4 QUEUE_FULL replies; the
head's reply waits exactly while the head is REPLYING; a reply being sent is the oldest. (4) At most 24 reports, no key
twice, each of an enabled class; the drop count is at most 255, and 0 while the overflow mark is clear. (R56, R151, R152,
R153, R175, R182, R186, R201, R206, R214, R215) -/
def Obligations.EveryStepKeepsTheBackboneAndLinkInvariants : Prop :=
  (∀ s t : State, BackboneOk s → step s = .next t → BackboneOk t)
  ∧ (∀ s t : State, SupervisionOk s.sup → step s = .next t → SupervisionOk t.sup)
  ∧ (∀ s t : State, QueueOk s.clc → step s = .next t → QueueOk t.clc)
  ∧ ∀ s t : State, ReportsOk s.clc → step s = .next t → ReportsOk t.clc
end

