-- ==== Sys2Proof/Laws/State.lean ====
section
/-! SUPPORT. One lemma for each field of State after each update of a block, so that no proof unfolds an update. -/

namespace Sys2Proof.Machine

variable (s : State)

@[simp] theorem State.setJt_jt (v : Jt) : (s.setJt v).jt = v := rfl
@[simp] theorem State.setJt_cm (v : Jt) : (s.setJt v).cm = s.cm := rfl
@[simp] theorem State.setJt_rs (v : Jt) : (s.setJt v).rs = s.rs := rfl
@[simp] theorem State.setJt_dc (v : Jt) : (s.setJt v).dc = s.dc := rfl
@[simp] theorem State.setJt_bc (v : Jt) : (s.setJt v).bc = s.bc := rfl
@[simp] theorem State.setJt_sup (v : Jt) : (s.setJt v).sup = s.sup := rfl
@[simp] theorem State.setJt_clc (v : Jt) : (s.setJt v).clc = s.clc := rfl
@[simp] theorem State.setJt_pending (v : Jt) : (s.setJt v).pending = s.pending := rfl

@[simp] theorem State.setCm_jt (v : Cm) : (s.setCm v).jt = s.jt := rfl
@[simp] theorem State.setCm_cm (v : Cm) : (s.setCm v).cm = v := rfl
@[simp] theorem State.setCm_rs (v : Cm) : (s.setCm v).rs = s.rs := rfl
@[simp] theorem State.setCm_dc (v : Cm) : (s.setCm v).dc = s.dc := rfl
@[simp] theorem State.setCm_bc (v : Cm) : (s.setCm v).bc = s.bc := rfl
@[simp] theorem State.setCm_sup (v : Cm) : (s.setCm v).sup = s.sup := rfl
@[simp] theorem State.setCm_clc (v : Cm) : (s.setCm v).clc = s.clc := rfl
@[simp] theorem State.setCm_pending (v : Cm) : (s.setCm v).pending = s.pending := rfl

@[simp] theorem State.setRs_jt (v : Rs) : (s.setRs v).jt = s.jt := rfl
@[simp] theorem State.setRs_cm (v : Rs) : (s.setRs v).cm = s.cm := rfl
@[simp] theorem State.setRs_rs (v : Rs) : (s.setRs v).rs = v := rfl
@[simp] theorem State.setRs_dc (v : Rs) : (s.setRs v).dc = s.dc := rfl
@[simp] theorem State.setRs_bc (v : Rs) : (s.setRs v).bc = s.bc := rfl
@[simp] theorem State.setRs_sup (v : Rs) : (s.setRs v).sup = s.sup := rfl
@[simp] theorem State.setRs_clc (v : Rs) : (s.setRs v).clc = s.clc := rfl
@[simp] theorem State.setRs_pending (v : Rs) : (s.setRs v).pending = s.pending := rfl

@[simp] theorem State.setDc_jt (v : Dc) : (s.setDc v).jt = s.jt := rfl
@[simp] theorem State.setDc_cm (v : Dc) : (s.setDc v).cm = s.cm := rfl
@[simp] theorem State.setDc_rs (v : Dc) : (s.setDc v).rs = s.rs := rfl
@[simp] theorem State.setDc_dc (v : Dc) : (s.setDc v).dc = v := rfl
@[simp] theorem State.setDc_bc (v : Dc) : (s.setDc v).bc = s.bc := rfl
@[simp] theorem State.setDc_sup (v : Dc) : (s.setDc v).sup = s.sup := rfl
@[simp] theorem State.setDc_clc (v : Dc) : (s.setDc v).clc = s.clc := rfl
@[simp] theorem State.setDc_pending (v : Dc) : (s.setDc v).pending = s.pending := rfl

@[simp] theorem State.setBc_jt (v : Bc) : (s.setBc v).jt = s.jt := rfl
@[simp] theorem State.setBc_cm (v : Bc) : (s.setBc v).cm = s.cm := rfl
@[simp] theorem State.setBc_rs (v : Bc) : (s.setBc v).rs = s.rs := rfl
@[simp] theorem State.setBc_dc (v : Bc) : (s.setBc v).dc = s.dc := rfl
@[simp] theorem State.setBc_bc (v : Bc) : (s.setBc v).bc = v := rfl
@[simp] theorem State.setBc_sup (v : Bc) : (s.setBc v).sup = s.sup := rfl
@[simp] theorem State.setBc_clc (v : Bc) : (s.setBc v).clc = s.clc := rfl
@[simp] theorem State.setBc_pending (v : Bc) : (s.setBc v).pending = s.pending := rfl

@[simp] theorem State.setSup_jt (v : Sup) : (s.setSup v).jt = s.jt := rfl
@[simp] theorem State.setSup_cm (v : Sup) : (s.setSup v).cm = s.cm := rfl
@[simp] theorem State.setSup_rs (v : Sup) : (s.setSup v).rs = s.rs := rfl
@[simp] theorem State.setSup_dc (v : Sup) : (s.setSup v).dc = s.dc := rfl
@[simp] theorem State.setSup_bc (v : Sup) : (s.setSup v).bc = s.bc := rfl
@[simp] theorem State.setSup_sup (v : Sup) : (s.setSup v).sup = v := rfl
@[simp] theorem State.setSup_clc (v : Sup) : (s.setSup v).clc = s.clc := rfl
@[simp] theorem State.setSup_pending (v : Sup) : (s.setSup v).pending = s.pending := rfl

@[simp] theorem State.setClc_jt (v : Clc) : (s.setClc v).jt = s.jt := rfl
@[simp] theorem State.setClc_cm (v : Clc) : (s.setClc v).cm = s.cm := rfl
@[simp] theorem State.setClc_rs (v : Clc) : (s.setClc v).rs = s.rs := rfl
@[simp] theorem State.setClc_dc (v : Clc) : (s.setClc v).dc = s.dc := rfl
@[simp] theorem State.setClc_bc (v : Clc) : (s.setClc v).bc = s.bc := rfl
@[simp] theorem State.setClc_sup (v : Clc) : (s.setClc v).sup = s.sup := rfl
@[simp] theorem State.setClc_clc (v : Clc) : (s.setClc v).clc = v := rfl
@[simp] theorem State.setClc_pending (v : Clc) : (s.setClc v).pending = s.pending := rfl

@[simp] theorem State.setPending_jt (v : List Instr) : (s.setPending v).jt = s.jt := rfl
@[simp] theorem State.setPending_cm (v : List Instr) : (s.setPending v).cm = s.cm := rfl
@[simp] theorem State.setPending_rs (v : List Instr) : (s.setPending v).rs = s.rs := rfl
@[simp] theorem State.setPending_dc (v : List Instr) : (s.setPending v).dc = s.dc := rfl
@[simp] theorem State.setPending_bc (v : List Instr) : (s.setPending v).bc = s.bc := rfl
@[simp] theorem State.setPending_sup (v : List Instr) : (s.setPending v).sup = s.sup := rfl
@[simp] theorem State.setPending_clc (v : List Instr) : (s.setPending v).clc = s.clc := rfl
@[simp] theorem State.setPending_pending (v : List Instr) : (s.setPending v).pending = v := rfl

end Sys2Proof.Machine
end

