-- ==== Sys2Proof/Laws/Ops.lean ====
section
/-! SUPPORT. What the shared operations leave as it was, one lemma for each operation and field, and what each can do. -/

namespace Sys2Proof.Machine

/-! ## The report queue and the transmitter -/

@[simp] theorem Clc.enqueue_rate (c : Clc) (r : Report) : (c.enqueue r).rate = c.rate := by
  unfold Clc.enqueue; split_ifs <;> rfl
@[simp] theorem Clc.enqueue_rx (c : Clc) (r : Report) : (c.enqueue r).rx = c.rx := by
  unfold Clc.enqueue; split_ifs <;> rfl
@[simp] theorem Clc.enqueue_linkError (c : Clc) (r : Report) : (c.enqueue r).linkError = c.linkError := by
  unfold Clc.enqueue; split_ifs <;> rfl
@[simp] theorem Clc.enqueue_queue (c : Clc) (r : Report) : (c.enqueue r).queue = c.queue := by
  unfold Clc.enqueue; split_ifs <;> rfl
@[simp] theorem Clc.enqueue_replies (c : Clc) (r : Report) : (c.enqueue r).replies = c.replies := by
  unfold Clc.enqueue; split_ifs <;> rfl
@[simp] theorem Clc.enqueue_tx (c : Clc) (r : Report) : (c.enqueue r).tx = c.tx := by
  unfold Clc.enqueue; split_ifs <;> rfl
@[simp] theorem Clc.enqueue_enabled (c : Clc) (r : Report) : (c.enqueue r).enabled = c.enabled := by
  unfold Clc.enqueue; split_ifs <;> rfl
@[simp] theorem Clc.enqueue_order (c : Clc) (r : Report) : (c.enqueue r).order = c.order := by
  unfold Clc.enqueue; split_ifs <;> rfl
@[simp] theorem Clc.enqueue_ready (c : Clc) (r : Report) : (c.enqueue r).ready = c.ready := by
  unfold Clc.enqueue; split_ifs <;> rfl

@[simp] theorem Clc.takeNext_rate (c : Clc) : c.takeNext.rate = c.rate := by
  unfold Clc.takeNext; split <;> (try split) <;> rfl
@[simp] theorem Clc.transmit_rate (c : Clc) : c.transmit.rate = c.rate := by
  unfold Clc.transmit; split_ifs <;> simp
@[simp] theorem Clc.takeNext_rx (c : Clc) : c.takeNext.rx = c.rx := by
  unfold Clc.takeNext; split <;> (try split) <;> rfl
@[simp] theorem Clc.transmit_rx (c : Clc) : c.transmit.rx = c.rx := by
  unfold Clc.transmit; split_ifs <;> simp
@[simp] theorem Clc.takeNext_linkError (c : Clc) : c.takeNext.linkError = c.linkError := by
  unfold Clc.takeNext; split <;> (try split) <;> rfl
@[simp] theorem Clc.transmit_linkError (c : Clc) : c.transmit.linkError = c.linkError := by
  unfold Clc.transmit; split_ifs <;> simp
@[simp] theorem Clc.takeNext_queue (c : Clc) : c.takeNext.queue = c.queue := by
  unfold Clc.takeNext; split <;> (try split) <;> rfl
@[simp] theorem Clc.transmit_queue (c : Clc) : c.transmit.queue = c.queue := by
  unfold Clc.transmit; split_ifs <;> simp
@[simp] theorem Clc.takeNext_replies (c : Clc) : c.takeNext.replies = c.replies := by
  unfold Clc.takeNext; split <;> (try split) <;> rfl
@[simp] theorem Clc.transmit_replies (c : Clc) : c.transmit.replies = c.replies := by
  unfold Clc.transmit; split_ifs <;> simp
@[simp] theorem Clc.takeNext_enabled (c : Clc) : c.takeNext.enabled = c.enabled := by
  unfold Clc.takeNext; split <;> (try split) <;> rfl
@[simp] theorem Clc.transmit_enabled (c : Clc) : c.transmit.enabled = c.enabled := by
  unfold Clc.transmit; split_ifs <;> simp
@[simp] theorem Clc.takeNext_order (c : Clc) : c.takeNext.order = c.order := by
  unfold Clc.takeNext; split <;> (try split) <;> rfl
@[simp] theorem Clc.transmit_order (c : Clc) : c.transmit.order = c.order := by
  unfold Clc.transmit; split_ifs <;> simp
@[simp] theorem Clc.takeNext_alarms (c : Clc) : c.takeNext.alarms = c.alarms := by
  unfold Clc.takeNext; split <;> (try split) <;> rfl
@[simp] theorem Clc.transmit_alarms (c : Clc) : c.transmit.alarms = c.alarms := by
  unfold Clc.transmit; split_ifs <;> simp
@[simp] theorem Clc.takeNext_ready (c : Clc) : c.takeNext.ready = c.ready := by
  unfold Clc.takeNext; split <;> (try split) <;> rfl
@[simp] theorem Clc.transmit_ready (c : Clc) : c.transmit.ready = c.ready := by
  unfold Clc.transmit; split_ifs <;> simp

/-- A transmitter that is sending takes nothing (R206). -/
theorem Clc.transmit_of_busy {c : Clc} (h : c.tx ≠ .idle) : c.transmit = c := by simp [Clc.transmit, h]

/-- An IDLE transmitter takes the oldest reply (R206). -/
theorem Clc.transmit_of_reply {c : Clc} {r : Reply} {l : List Reply} (h : c.tx = .idle) (u : c.ready = .up)
    (q : c.replies = r :: l) : c.transmit = { c with tx := .reply r } := by simp [Clc.transmit, Clc.takeNext, h, u, q]

@[simp] theorem raise_jt (cls : ReportClass) (code subject : Nat) (data : List Byte) (s : State) : (raise cls code subject data s).jt = s.jt := rfl
@[simp] theorem raise_cm (cls : ReportClass) (code subject : Nat) (data : List Byte) (s : State) : (raise cls code subject data s).cm = s.cm := rfl
@[simp] theorem raise_rs (cls : ReportClass) (code subject : Nat) (data : List Byte) (s : State) : (raise cls code subject data s).rs = s.rs := rfl
@[simp] theorem raise_dc (cls : ReportClass) (code subject : Nat) (data : List Byte) (s : State) : (raise cls code subject data s).dc = s.dc := rfl
@[simp] theorem raise_bc (cls : ReportClass) (code subject : Nat) (data : List Byte) (s : State) : (raise cls code subject data s).bc = s.bc := rfl
@[simp] theorem raise_sup (cls : ReportClass) (code subject : Nat) (data : List Byte) (s : State) : (raise cls code subject data s).sup = s.sup := rfl
@[simp] theorem raise_pending (cls : ReportClass) (code subject : Nat) (data : List Byte) (s : State) : (raise cls code subject data s).pending = s.pending := rfl

@[simp] theorem raise_clc_rate (cls : ReportClass) (code subject : Nat) (data : List Byte) (s : State) :
    (raise cls code subject data s).clc.rate = s.clc.rate := by simp [raise]
@[simp] theorem raise_clc_rx (cls : ReportClass) (code subject : Nat) (data : List Byte) (s : State) :
    (raise cls code subject data s).clc.rx = s.clc.rx := by simp [raise]
@[simp] theorem raise_clc_linkError (cls : ReportClass) (code subject : Nat) (data : List Byte) (s : State) :
    (raise cls code subject data s).clc.linkError = s.clc.linkError := by simp [raise]
@[simp] theorem raise_clc_queue (cls : ReportClass) (code subject : Nat) (data : List Byte) (s : State) :
    (raise cls code subject data s).clc.queue = s.clc.queue := by simp [raise]
@[simp] theorem raise_clc_replies (cls : ReportClass) (code subject : Nat) (data : List Byte) (s : State) :
    (raise cls code subject data s).clc.replies = s.clc.replies := by simp [raise]
@[simp] theorem raise_clc_enabled (cls : ReportClass) (code subject : Nat) (data : List Byte) (s : State) :
    (raise cls code subject data s).clc.enabled = s.clc.enabled := by simp [raise]
@[simp] theorem raise_clc_order (cls : ReportClass) (code subject : Nat) (data : List Byte) (s : State) :
    (raise cls code subject data s).clc.order = s.clc.order := by simp [raise]
@[simp] theorem raise_clc_ready (cls : ReportClass) (code subject : Nat) (data : List Byte) (s : State) :
    (raise cls code subject data s).clc.ready = s.clc.ready := by simp [raise]

@[simp] theorem addReply_jt (r : Reply) (s : State) : (addReply r s).jt = s.jt := rfl
@[simp] theorem addReply_cm (r : Reply) (s : State) : (addReply r s).cm = s.cm := rfl
@[simp] theorem addReply_rs (r : Reply) (s : State) : (addReply r s).rs = s.rs := rfl
@[simp] theorem addReply_dc (r : Reply) (s : State) : (addReply r s).dc = s.dc := rfl
@[simp] theorem addReply_bc (r : Reply) (s : State) : (addReply r s).bc = s.bc := rfl
@[simp] theorem addReply_sup (r : Reply) (s : State) : (addReply r s).sup = s.sup := rfl
@[simp] theorem addReply_pending (r : Reply) (s : State) : (addReply r s).pending = s.pending := rfl

@[simp] theorem setAlarms_jt (f : Alarms → Alarms) (s : State) : (setAlarms f s).jt = s.jt := rfl
@[simp] theorem setAlarms_cm (f : Alarms → Alarms) (s : State) : (setAlarms f s).cm = s.cm := rfl
@[simp] theorem setAlarms_rs (f : Alarms → Alarms) (s : State) : (setAlarms f s).rs = s.rs := rfl
@[simp] theorem setAlarms_dc (f : Alarms → Alarms) (s : State) : (setAlarms f s).dc = s.dc := rfl
@[simp] theorem setAlarms_bc (f : Alarms → Alarms) (s : State) : (setAlarms f s).bc = s.bc := rfl
@[simp] theorem setAlarms_sup (f : Alarms → Alarms) (s : State) : (setAlarms f s).sup = s.sup := rfl
@[simp] theorem setAlarms_pending (f : Alarms → Alarms) (s : State) : (setAlarms f s).pending = s.pending := rfl

theorem finishHead_eq (r : ResultCode) (data : List Byte) (s : State) :
    ∃ c, finishHead r data s = s.setClc c := by
  unfold finishHead addReply; split
  · split_ifs
    · exact ⟨_, rfl⟩
    · exact ⟨s.clc, rfl⟩
  · exact ⟨s.clc, rfl⟩

@[simp] theorem finishHead_jt (r : ResultCode) (data : List Byte) (s : State) : (finishHead r data s).jt = s.jt := by
  obtain ⟨c, h⟩ := finishHead_eq r data s; rw [h]; rfl
@[simp] theorem finishHead_cm (r : ResultCode) (data : List Byte) (s : State) : (finishHead r data s).cm = s.cm := by
  obtain ⟨c, h⟩ := finishHead_eq r data s; rw [h]; rfl
@[simp] theorem finishHead_rs (r : ResultCode) (data : List Byte) (s : State) : (finishHead r data s).rs = s.rs := by
  obtain ⟨c, h⟩ := finishHead_eq r data s; rw [h]; rfl
@[simp] theorem finishHead_dc (r : ResultCode) (data : List Byte) (s : State) : (finishHead r data s).dc = s.dc := by
  obtain ⟨c, h⟩ := finishHead_eq r data s; rw [h]; rfl
@[simp] theorem finishHead_bc (r : ResultCode) (data : List Byte) (s : State) : (finishHead r data s).bc = s.bc := by
  obtain ⟨c, h⟩ := finishHead_eq r data s; rw [h]; rfl
@[simp] theorem finishHead_sup (r : ResultCode) (data : List Byte) (s : State) : (finishHead r data s).sup = s.sup := by
  obtain ⟨c, h⟩ := finishHead_eq r data s; rw [h]; rfl
@[simp] theorem finishHead_pending (r : ResultCode) (data : List Byte) (s : State) : (finishHead r data s).pending = s.pending := by
  obtain ⟨c, h⟩ := finishHead_eq r data s; rw [h]; rfl

/-! ## The CONTENT frame in flight -/

/-- An abort changes the frame, the count of aborted frames and ABORT_SENT of both lines, nothing else (R159, R177). -/
theorem abortFrame_spec (s : State) :
    abortFrame s = s ∨ ∃ f n, abortFrame s = (s.setBc { s.bc with frame := some f, aborted := countUp n }).setSup
      { s.sup with a := s.sup.a.abortSent, b := s.sup.b.abortSent } := by
  unfold abortFrame; split
  · exact .inr ⟨_, _, rfl⟩
  · exact .inl rfl

/-- A conditional abort is the abort or nothing. -/
theorem abortIf_spec (test : Nat → BlockKind → Bool) (s : State) : abortIf test s = s ∨ abortIf test s = abortFrame s := by
  unfold abortIf; split
  · split_ifs <;> simp
  · exact .inl rfl

@[simp] theorem abortFrame_jt (s : State) : (abortFrame s).jt = s.jt := by
  obtain h | ⟨_, _, h⟩ := abortFrame_spec s <;> simp [h]
@[simp] theorem abortIf_jt (test : Nat → BlockKind → Bool) (s : State) : (abortIf test s).jt = s.jt := by
  obtain h | h := abortIf_spec test s <;> simp [h]
@[simp] theorem abortFrame_cm (s : State) : (abortFrame s).cm = s.cm := by
  obtain h | ⟨_, _, h⟩ := abortFrame_spec s <;> simp [h]
@[simp] theorem abortIf_cm (test : Nat → BlockKind → Bool) (s : State) : (abortIf test s).cm = s.cm := by
  obtain h | h := abortIf_spec test s <;> simp [h]
@[simp] theorem abortFrame_rs (s : State) : (abortFrame s).rs = s.rs := by
  obtain h | ⟨_, _, h⟩ := abortFrame_spec s <;> simp [h]
@[simp] theorem abortIf_rs (test : Nat → BlockKind → Bool) (s : State) : (abortIf test s).rs = s.rs := by
  obtain h | h := abortIf_spec test s <;> simp [h]
@[simp] theorem abortFrame_dc (s : State) : (abortFrame s).dc = s.dc := by
  obtain h | ⟨_, _, h⟩ := abortFrame_spec s <;> simp [h]
@[simp] theorem abortIf_dc (test : Nat → BlockKind → Bool) (s : State) : (abortIf test s).dc = s.dc := by
  obtain h | h := abortIf_spec test s <;> simp [h]
@[simp] theorem abortFrame_clc (s : State) : (abortFrame s).clc = s.clc := by
  obtain h | ⟨_, _, h⟩ := abortFrame_spec s <;> simp [h]
@[simp] theorem abortIf_clc (test : Nat → BlockKind → Bool) (s : State) : (abortIf test s).clc = s.clc := by
  obtain h | h := abortIf_spec test s <;> simp [h]
@[simp] theorem abortFrame_pending (s : State) : (abortFrame s).pending = s.pending := by
  obtain h | ⟨_, _, h⟩ := abortFrame_spec s <;> simp [h]
@[simp] theorem abortIf_pending (test : Nat → BlockKind → Bool) (s : State) : (abortIf test s).pending = s.pending := by
  obtain h | h := abortIf_spec test s <;> simp [h]
@[simp] theorem abortFrame_bc_state (s : State) : (abortFrame s).bc.state = s.bc.state := by
  obtain h | ⟨_, _, h⟩ := abortFrame_spec s <;> simp [h]
@[simp] theorem abortIf_bc_state (test : Nat → BlockKind → Bool) (s : State) : (abortIf test s).bc.state = s.bc.state := by
  obtain h | h := abortIf_spec test s <;> simp [h]
@[simp] theorem abortFrame_bc_segment (s : State) : (abortFrame s).bc.segment = s.bc.segment := by
  obtain h | ⟨_, _, h⟩ := abortFrame_spec s <;> simp [h]
@[simp] theorem abortIf_bc_segment (test : Nat → BlockKind → Bool) (s : State) : (abortIf test s).bc.segment = s.bc.segment := by
  obtain h | h := abortIf_spec test s <;> simp [h]
@[simp] theorem abortFrame_bc_clock (s : State) : (abortFrame s).bc.clock = s.bc.clock := by
  obtain h | ⟨_, _, h⟩ := abortFrame_spec s <;> simp [h]
@[simp] theorem abortIf_bc_clock (test : Nat → BlockKind → Bool) (s : State) : (abortIf test s).bc.clock = s.bc.clock := by
  obtain h | h := abortIf_spec test s <;> simp [h]
@[simp] theorem abortFrame_bc_counter (s : State) : (abortFrame s).bc.counter = s.bc.counter := by
  obtain h | ⟨_, _, h⟩ := abortFrame_spec s <;> simp [h]
@[simp] theorem abortIf_bc_counter (test : Nat → BlockKind → Bool) (s : State) : (abortIf test s).bc.counter = s.bc.counter := by
  obtain h | h := abortIf_spec test s <;> simp [h]
@[simp] theorem abortFrame_bc_beacon (s : State) : (abortFrame s).bc.beacon = s.bc.beacon := by
  obtain h | ⟨_, _, h⟩ := abortFrame_spec s <;> simp [h]
@[simp] theorem abortIf_bc_beacon (test : Nat → BlockKind → Bool) (s : State) : (abortIf test s).bc.beacon = s.bc.beacon := by
  obtain h | h := abortIf_spec test s <;> simp [h]
@[simp] theorem abortFrame_bc_call (s : State) : (abortFrame s).bc.call = s.bc.call := by
  obtain h | ⟨_, _, h⟩ := abortFrame_spec s <;> simp [h]
@[simp] theorem abortIf_bc_call (test : Nat → BlockKind → Bool) (s : State) : (abortIf test s).bc.call = s.bc.call := by
  obtain h | h := abortIf_spec test s <;> simp [h]
@[simp] theorem abortFrame_bc_rxA (s : State) : (abortFrame s).bc.rxA = s.bc.rxA := by
  obtain h | ⟨_, _, h⟩ := abortFrame_spec s <;> simp [h]
@[simp] theorem abortIf_bc_rxA (test : Nat → BlockKind → Bool) (s : State) : (abortIf test s).bc.rxA = s.bc.rxA := by
  obtain h | h := abortIf_spec test s <;> simp [h]
@[simp] theorem abortFrame_bc_rxB (s : State) : (abortFrame s).bc.rxB = s.bc.rxB := by
  obtain h | ⟨_, _, h⟩ := abortFrame_spec s <;> simp [h]
@[simp] theorem abortIf_bc_rxB (test : Nat → BlockKind → Bool) (s : State) : (abortIf test s).bc.rxB = s.bc.rxB := by
  obtain h | h := abortIf_spec test s <;> simp [h]
@[simp] theorem abortFrame_bc_gotA (s : State) : (abortFrame s).bc.gotA = s.bc.gotA := by
  obtain h | ⟨_, _, h⟩ := abortFrame_spec s <;> simp [h]
@[simp] theorem abortIf_bc_gotA (test : Nat → BlockKind → Bool) (s : State) : (abortIf test s).bc.gotA = s.bc.gotA := by
  obtain h | h := abortIf_spec test s <;> simp [h]
@[simp] theorem abortFrame_bc_gotB (s : State) : (abortFrame s).bc.gotB = s.bc.gotB := by
  obtain h | ⟨_, _, h⟩ := abortFrame_spec s <;> simp [h]
@[simp] theorem abortIf_bc_gotB (test : Nat → BlockKind → Bool) (s : State) : (abortIf test s).bc.gotB = s.bc.gotB := by
  obtain h | h := abortIf_spec test s <;> simp [h]
@[simp] theorem abortFrame_bc_sent (s : State) : (abortFrame s).bc.sent = s.bc.sent := by
  obtain h | ⟨_, _, h⟩ := abortFrame_spec s <;> simp [h]
@[simp] theorem abortIf_bc_sent (test : Nat → BlockKind → Bool) (s : State) : (abortIf test s).bc.sent = s.bc.sent := by
  obtain h | h := abortIf_spec test s <;> simp [h]
@[simp] theorem abortFrame_bc_lastCall (s : State) : (abortFrame s).bc.lastCall = s.bc.lastCall := by
  obtain h | ⟨_, _, h⟩ := abortFrame_spec s <;> simp [h]
@[simp] theorem abortIf_bc_lastCall (test : Nat → BlockKind → Bool) (s : State) : (abortIf test s).bc.lastCall = s.bc.lastCall := by
  obtain h | h := abortIf_spec test s <;> simp [h]
@[simp] theorem abortFrame_sup_mismatch (s : State) : (abortFrame s).sup.mismatch = s.sup.mismatch := by
  obtain h | ⟨_, _, h⟩ := abortFrame_spec s <;> simp [h]
@[simp] theorem abortIf_sup_mismatch (test : Nat → BlockKind → Bool) (s : State) : (abortIf test s).sup.mismatch = s.sup.mismatch := by
  obtain h | h := abortIf_spec test s <;> simp [h]
@[simp] theorem abortFrame_sup_even (s : State) : (abortFrame s).sup.even = s.sup.even := by
  obtain h | ⟨_, _, h⟩ := abortFrame_spec s <;> simp [h]
@[simp] theorem abortIf_sup_even (test : Nat → BlockKind → Bool) (s : State) : (abortIf test s).sup.even = s.sup.even := by
  obtain h | h := abortIf_spec test s <;> simp [h]
@[simp] theorem abortFrame_sup_odd (s : State) : (abortFrame s).sup.odd = s.sup.odd := by
  obtain h | ⟨_, _, h⟩ := abortFrame_spec s <;> simp [h]
@[simp] theorem abortIf_sup_odd (test : Nat → BlockKind → Bool) (s : State) : (abortIf test s).sup.odd = s.sup.odd := by
  obtain h | h := abortIf_spec test s <;> simp [h]
@[simp] theorem abortFrame_sup_capture (s : State) : (abortFrame s).sup.capture = s.sup.capture := by
  obtain h | ⟨_, _, h⟩ := abortFrame_spec s <;> simp [h]
@[simp] theorem abortIf_sup_capture (test : Nat → BlockKind → Bool) (s : State) : (abortIf test s).sup.capture = s.sup.capture := by
  obtain h | h := abortIf_spec test s <;> simp [h]
@[simp] theorem abortFrame_sup_a_obs (s : State) : (abortFrame s).sup.a.obs = s.sup.a.obs := by
  obtain h | ⟨_, _, h⟩ := abortFrame_spec s
  · rw [h]
  · rw [h]; rfl
@[simp] theorem abortIf_sup_a_obs (test : Nat → BlockKind → Bool) (s : State) : (abortIf test s).sup.a.obs = s.sup.a.obs := by
  obtain h | h := abortIf_spec test s <;> simp [h]
@[simp] theorem abortFrame_sup_a_runs (s : State) : (abortFrame s).sup.a.runs = s.sup.a.runs := by
  obtain h | ⟨_, _, h⟩ := abortFrame_spec s
  · rw [h]
  · rw [h]; rfl
@[simp] theorem abortIf_sup_a_runs (test : Nat → BlockKind → Bool) (s : State) : (abortIf test s).sup.a.runs = s.sup.a.runs := by
  obtain h | h := abortIf_spec test s <;> simp [h]
@[simp] theorem abortFrame_sup_a_state (s : State) : (abortFrame s).sup.a.state = s.sup.a.state := by
  obtain h | ⟨_, _, h⟩ := abortFrame_spec s
  · rw [h]
  · rw [h]; rfl
@[simp] theorem abortIf_sup_a_state (test : Nat → BlockKind → Bool) (s : State) : (abortIf test s).sup.a.state = s.sup.a.state := by
  obtain h | h := abortIf_spec test s <;> simp [h]
@[simp] theorem abortFrame_sup_b_obs (s : State) : (abortFrame s).sup.b.obs = s.sup.b.obs := by
  obtain h | ⟨_, _, h⟩ := abortFrame_spec s
  · rw [h]
  · rw [h]; rfl
@[simp] theorem abortIf_sup_b_obs (test : Nat → BlockKind → Bool) (s : State) : (abortIf test s).sup.b.obs = s.sup.b.obs := by
  obtain h | h := abortIf_spec test s <;> simp [h]
@[simp] theorem abortFrame_sup_b_runs (s : State) : (abortFrame s).sup.b.runs = s.sup.b.runs := by
  obtain h | ⟨_, _, h⟩ := abortFrame_spec s
  · rw [h]
  · rw [h]; rfl
@[simp] theorem abortIf_sup_b_runs (test : Nat → BlockKind → Bool) (s : State) : (abortIf test s).sup.b.runs = s.sup.b.runs := by
  obtain h | h := abortIf_spec test s <;> simp [h]
@[simp] theorem abortFrame_sup_b_state (s : State) : (abortFrame s).sup.b.state = s.sup.b.state := by
  obtain h | ⟨_, _, h⟩ := abortFrame_spec s
  · rw [h]
  · rw [h]; rfl
@[simp] theorem abortIf_sup_b_state (test : Nat → BlockKind → Bool) (s : State) : (abortIf test s).sup.b.state = s.sup.b.state := by
  obtain h | h := abortIf_spec test s <;> simp [h]

/-! ## Content blocks -/

/-- The list after one event's effects on the blocks (R126). -/
def revisedList (f : Entry → BlockKind → BlockEffect) (s : State) : List Entry :=
  s.cm.list.map fun e =>
    { e with blocks := .ofKinds fun k => (e.blocks.get k).after (s.dc.advanced.contains (e.coach.id, k)) (f e k) }

@[simp] theorem revise_jt (f : Entry → BlockKind → BlockEffect) (s : State) : (revise f s).jt = s.jt := by simp [revise]
@[simp] theorem revise_rs (f : Entry → BlockKind → BlockEffect) (s : State) : (revise f s).rs = s.rs := by simp [revise]
@[simp] theorem revise_clc (f : Entry → BlockKind → BlockEffect) (s : State) : (revise f s).clc = s.clc := by simp [revise]
@[simp] theorem revise_pending (f : Entry → BlockKind → BlockEffect) (s : State) : (revise f s).pending = s.pending := by simp [revise]
@[simp] theorem revise_cm_detached (f : Entry → BlockKind → BlockEffect) (s : State) : (revise f s).cm.detached = s.cm.detached := by simp [revise]
@[simp] theorem revise_cm_survey (f : Entry → BlockKind → BlockEffect) (s : State) : (revise f s).cm.survey = s.cm.survey := by simp [revise]
@[simp] theorem revise_cm_confused (f : Entry → BlockKind → BlockEffect) (s : State) : (revise f s).cm.confused = s.cm.confused := by simp [revise]
@[simp] theorem revise_cm_partings (f : Entry → BlockKind → BlockEffect) (s : State) : (revise f s).cm.partings = s.cm.partings := by simp [revise]
@[simp] theorem revise_cm_types (f : Entry → BlockKind → BlockEffect) (s : State) : (revise f s).cm.types = s.cm.types := by simp [revise]
@[simp] theorem revise_dc_table (f : Entry → BlockKind → BlockEffect) (s : State) : (revise f s).dc.table = s.dc.table := by simp [revise]
@[simp] theorem revise_dc_start (f : Entry → BlockKind → BlockEffect) (s : State) : (revise f s).dc.start = s.dc.start := by simp [revise]
@[simp] theorem revise_dc_current (f : Entry → BlockKind → BlockEffect) (s : State) : (revise f s).dc.current = s.dc.current := by simp [revise]
@[simp] theorem revise_dc_dwell (f : Entry → BlockKind → BlockEffect) (s : State) : (revise f s).dc.dwell = s.dc.dwell := by simp [revise]
@[simp] theorem revise_dc_page (f : Entry → BlockKind → BlockEffect) (s : State) : (revise f s).dc.page = s.dc.page := by simp [revise]
@[simp] theorem revise_bc_state (f : Entry → BlockKind → BlockEffect) (s : State) : (revise f s).bc.state = s.bc.state := by simp [revise]
@[simp] theorem revise_bc_segment (f : Entry → BlockKind → BlockEffect) (s : State) : (revise f s).bc.segment = s.bc.segment := by simp [revise]
@[simp] theorem revise_bc_clock (f : Entry → BlockKind → BlockEffect) (s : State) : (revise f s).bc.clock = s.bc.clock := by simp [revise]
@[simp] theorem revise_bc_counter (f : Entry → BlockKind → BlockEffect) (s : State) : (revise f s).bc.counter = s.bc.counter := by simp [revise]
@[simp] theorem revise_bc_beacon (f : Entry → BlockKind → BlockEffect) (s : State) : (revise f s).bc.beacon = s.bc.beacon := by simp [revise]
@[simp] theorem revise_bc_call (f : Entry → BlockKind → BlockEffect) (s : State) : (revise f s).bc.call = s.bc.call := by simp [revise]
@[simp] theorem revise_bc_rxA (f : Entry → BlockKind → BlockEffect) (s : State) : (revise f s).bc.rxA = s.bc.rxA := by simp [revise]
@[simp] theorem revise_bc_rxB (f : Entry → BlockKind → BlockEffect) (s : State) : (revise f s).bc.rxB = s.bc.rxB := by simp [revise]
@[simp] theorem revise_bc_gotA (f : Entry → BlockKind → BlockEffect) (s : State) : (revise f s).bc.gotA = s.bc.gotA := by simp [revise]
@[simp] theorem revise_bc_gotB (f : Entry → BlockKind → BlockEffect) (s : State) : (revise f s).bc.gotB = s.bc.gotB := by simp [revise]
@[simp] theorem revise_bc_sent (f : Entry → BlockKind → BlockEffect) (s : State) : (revise f s).bc.sent = s.bc.sent := by simp [revise]
@[simp] theorem revise_bc_lastCall (f : Entry → BlockKind → BlockEffect) (s : State) : (revise f s).bc.lastCall = s.bc.lastCall := by simp [revise]
@[simp] theorem revise_sup_mismatch (f : Entry → BlockKind → BlockEffect) (s : State) : (revise f s).sup.mismatch = s.sup.mismatch := by simp [revise]
@[simp] theorem revise_sup_even (f : Entry → BlockKind → BlockEffect) (s : State) : (revise f s).sup.even = s.sup.even := by simp [revise]
@[simp] theorem revise_sup_odd (f : Entry → BlockKind → BlockEffect) (s : State) : (revise f s).sup.odd = s.sup.odd := by simp [revise]
@[simp] theorem revise_sup_capture (f : Entry → BlockKind → BlockEffect) (s : State) : (revise f s).sup.capture = s.sup.capture := by simp [revise]
@[simp] theorem revise_sup_a_obs (f : Entry → BlockKind → BlockEffect) (s : State) : (revise f s).sup.a.obs = s.sup.a.obs := by simp [revise]
@[simp] theorem revise_sup_a_runs (f : Entry → BlockKind → BlockEffect) (s : State) : (revise f s).sup.a.runs = s.sup.a.runs := by simp [revise]
@[simp] theorem revise_sup_a_state (f : Entry → BlockKind → BlockEffect) (s : State) : (revise f s).sup.a.state = s.sup.a.state := by simp [revise]
@[simp] theorem revise_sup_b_obs (f : Entry → BlockKind → BlockEffect) (s : State) : (revise f s).sup.b.obs = s.sup.b.obs := by simp [revise]
@[simp] theorem revise_sup_b_runs (f : Entry → BlockKind → BlockEffect) (s : State) : (revise f s).sup.b.runs = s.sup.b.runs := by simp [revise]
@[simp] theorem revise_sup_b_state (f : Entry → BlockKind → BlockEffect) (s : State) : (revise f s).sup.b.state = s.sup.b.state := by simp [revise]

@[simp] theorem revise_cm_list (f : Entry → BlockKind → BlockEffect) (s : State) :
    (revise f s).cm.list = revisedList f s := by simp [revise, revisedList]

@[simp] theorem revise_coaches (f : Entry → BlockKind → BlockEffect) (s : State) :
    (revise f s).cm.list.map (·.coach) = s.cm.list.map (·.coach) := by simp [revisedList, Function.comp_def]


@[simp] theorem markBlocks_jt (pick : Entry → BlockKind → Bool) (s : State) : (markBlocks pick s).jt = s.jt := by simp [markBlocks]
@[simp] theorem markBlocks_rs (pick : Entry → BlockKind → Bool) (s : State) : (markBlocks pick s).rs = s.rs := by simp [markBlocks]
@[simp] theorem markBlocks_clc (pick : Entry → BlockKind → Bool) (s : State) : (markBlocks pick s).clc = s.clc := by simp [markBlocks]
@[simp] theorem markBlocks_pending (pick : Entry → BlockKind → Bool) (s : State) : (markBlocks pick s).pending = s.pending := by simp [markBlocks]
@[simp] theorem markBlocks_cm_detached (pick : Entry → BlockKind → Bool) (s : State) : (markBlocks pick s).cm.detached = s.cm.detached := by simp [markBlocks]
@[simp] theorem markBlocks_cm_survey (pick : Entry → BlockKind → Bool) (s : State) : (markBlocks pick s).cm.survey = s.cm.survey := by simp [markBlocks]
@[simp] theorem markBlocks_cm_confused (pick : Entry → BlockKind → Bool) (s : State) : (markBlocks pick s).cm.confused = s.cm.confused := by simp [markBlocks]
@[simp] theorem markBlocks_cm_partings (pick : Entry → BlockKind → Bool) (s : State) : (markBlocks pick s).cm.partings = s.cm.partings := by simp [markBlocks]
@[simp] theorem markBlocks_cm_types (pick : Entry → BlockKind → Bool) (s : State) : (markBlocks pick s).cm.types = s.cm.types := by simp [markBlocks]
@[simp] theorem markBlocks_dc_table (pick : Entry → BlockKind → Bool) (s : State) : (markBlocks pick s).dc.table = s.dc.table := by simp [markBlocks]
@[simp] theorem markBlocks_dc_start (pick : Entry → BlockKind → Bool) (s : State) : (markBlocks pick s).dc.start = s.dc.start := by simp [markBlocks]
@[simp] theorem markBlocks_dc_current (pick : Entry → BlockKind → Bool) (s : State) : (markBlocks pick s).dc.current = s.dc.current := by simp [markBlocks]
@[simp] theorem markBlocks_dc_dwell (pick : Entry → BlockKind → Bool) (s : State) : (markBlocks pick s).dc.dwell = s.dc.dwell := by simp [markBlocks]
@[simp] theorem markBlocks_dc_page (pick : Entry → BlockKind → Bool) (s : State) : (markBlocks pick s).dc.page = s.dc.page := by simp [markBlocks]
@[simp] theorem markBlocks_bc_state (pick : Entry → BlockKind → Bool) (s : State) : (markBlocks pick s).bc.state = s.bc.state := by simp [markBlocks]
@[simp] theorem markBlocks_bc_segment (pick : Entry → BlockKind → Bool) (s : State) : (markBlocks pick s).bc.segment = s.bc.segment := by simp [markBlocks]
@[simp] theorem markBlocks_bc_clock (pick : Entry → BlockKind → Bool) (s : State) : (markBlocks pick s).bc.clock = s.bc.clock := by simp [markBlocks]
@[simp] theorem markBlocks_bc_counter (pick : Entry → BlockKind → Bool) (s : State) : (markBlocks pick s).bc.counter = s.bc.counter := by simp [markBlocks]
@[simp] theorem markBlocks_bc_beacon (pick : Entry → BlockKind → Bool) (s : State) : (markBlocks pick s).bc.beacon = s.bc.beacon := by simp [markBlocks]
@[simp] theorem markBlocks_bc_call (pick : Entry → BlockKind → Bool) (s : State) : (markBlocks pick s).bc.call = s.bc.call := by simp [markBlocks]
@[simp] theorem markBlocks_bc_rxA (pick : Entry → BlockKind → Bool) (s : State) : (markBlocks pick s).bc.rxA = s.bc.rxA := by simp [markBlocks]
@[simp] theorem markBlocks_bc_rxB (pick : Entry → BlockKind → Bool) (s : State) : (markBlocks pick s).bc.rxB = s.bc.rxB := by simp [markBlocks]
@[simp] theorem markBlocks_bc_gotA (pick : Entry → BlockKind → Bool) (s : State) : (markBlocks pick s).bc.gotA = s.bc.gotA := by simp [markBlocks]
@[simp] theorem markBlocks_bc_gotB (pick : Entry → BlockKind → Bool) (s : State) : (markBlocks pick s).bc.gotB = s.bc.gotB := by simp [markBlocks]
@[simp] theorem markBlocks_bc_sent (pick : Entry → BlockKind → Bool) (s : State) : (markBlocks pick s).bc.sent = s.bc.sent := by simp [markBlocks]
@[simp] theorem markBlocks_bc_lastCall (pick : Entry → BlockKind → Bool) (s : State) : (markBlocks pick s).bc.lastCall = s.bc.lastCall := by simp [markBlocks]
@[simp] theorem markBlocks_sup_mismatch (pick : Entry → BlockKind → Bool) (s : State) : (markBlocks pick s).sup.mismatch = s.sup.mismatch := by simp [markBlocks]
@[simp] theorem markBlocks_sup_even (pick : Entry → BlockKind → Bool) (s : State) : (markBlocks pick s).sup.even = s.sup.even := by simp [markBlocks]
@[simp] theorem markBlocks_sup_odd (pick : Entry → BlockKind → Bool) (s : State) : (markBlocks pick s).sup.odd = s.sup.odd := by simp [markBlocks]
@[simp] theorem markBlocks_sup_capture (pick : Entry → BlockKind → Bool) (s : State) : (markBlocks pick s).sup.capture = s.sup.capture := by simp [markBlocks]
@[simp] theorem markBlocks_sup_a_obs (pick : Entry → BlockKind → Bool) (s : State) : (markBlocks pick s).sup.a.obs = s.sup.a.obs := by simp [markBlocks]
@[simp] theorem markBlocks_sup_a_runs (pick : Entry → BlockKind → Bool) (s : State) : (markBlocks pick s).sup.a.runs = s.sup.a.runs := by simp [markBlocks]
@[simp] theorem markBlocks_sup_a_state (pick : Entry → BlockKind → Bool) (s : State) : (markBlocks pick s).sup.a.state = s.sup.a.state := by simp [markBlocks]
@[simp] theorem markBlocks_sup_b_obs (pick : Entry → BlockKind → Bool) (s : State) : (markBlocks pick s).sup.b.obs = s.sup.b.obs := by simp [markBlocks]
@[simp] theorem markBlocks_sup_b_runs (pick : Entry → BlockKind → Bool) (s : State) : (markBlocks pick s).sup.b.runs = s.sup.b.runs := by simp [markBlocks]
@[simp] theorem markBlocks_sup_b_state (pick : Entry → BlockKind → Bool) (s : State) : (markBlocks pick s).sup.b.state = s.sup.b.state := by simp [markBlocks]
@[simp] theorem markBlocks_coaches (pick : Entry → BlockKind → Bool) (s : State) :
    (markBlocks pick s).cm.list.map (·.coach) = s.cm.list.map (·.coach) := by unfold markBlocks; exact revise_coaches _ _

@[simp] theorem evaluateKinds_jt (pick : Entry → Bool) (s : State) : (evaluateKinds pick s).jt = s.jt := by simp [evaluateKinds]
@[simp] theorem evaluateKinds_rs (pick : Entry → Bool) (s : State) : (evaluateKinds pick s).rs = s.rs := by simp [evaluateKinds]
@[simp] theorem evaluateKinds_clc (pick : Entry → Bool) (s : State) : (evaluateKinds pick s).clc = s.clc := by simp [evaluateKinds]
@[simp] theorem evaluateKinds_pending (pick : Entry → Bool) (s : State) : (evaluateKinds pick s).pending = s.pending := by simp [evaluateKinds]
@[simp] theorem evaluateKinds_cm_detached (pick : Entry → Bool) (s : State) : (evaluateKinds pick s).cm.detached = s.cm.detached := by simp [evaluateKinds]
@[simp] theorem evaluateKinds_cm_survey (pick : Entry → Bool) (s : State) : (evaluateKinds pick s).cm.survey = s.cm.survey := by simp [evaluateKinds]
@[simp] theorem evaluateKinds_cm_confused (pick : Entry → Bool) (s : State) : (evaluateKinds pick s).cm.confused = s.cm.confused := by simp [evaluateKinds]
@[simp] theorem evaluateKinds_cm_partings (pick : Entry → Bool) (s : State) : (evaluateKinds pick s).cm.partings = s.cm.partings := by simp [evaluateKinds]
@[simp] theorem evaluateKinds_cm_types (pick : Entry → Bool) (s : State) : (evaluateKinds pick s).cm.types = s.cm.types := by simp [evaluateKinds]
@[simp] theorem evaluateKinds_dc_table (pick : Entry → Bool) (s : State) : (evaluateKinds pick s).dc.table = s.dc.table := by simp [evaluateKinds]
@[simp] theorem evaluateKinds_dc_start (pick : Entry → Bool) (s : State) : (evaluateKinds pick s).dc.start = s.dc.start := by simp [evaluateKinds]
@[simp] theorem evaluateKinds_dc_current (pick : Entry → Bool) (s : State) : (evaluateKinds pick s).dc.current = s.dc.current := by simp [evaluateKinds]
@[simp] theorem evaluateKinds_dc_dwell (pick : Entry → Bool) (s : State) : (evaluateKinds pick s).dc.dwell = s.dc.dwell := by simp [evaluateKinds]
@[simp] theorem evaluateKinds_dc_page (pick : Entry → Bool) (s : State) : (evaluateKinds pick s).dc.page = s.dc.page := by simp [evaluateKinds]
@[simp] theorem evaluateKinds_bc_state (pick : Entry → Bool) (s : State) : (evaluateKinds pick s).bc.state = s.bc.state := by simp [evaluateKinds]
@[simp] theorem evaluateKinds_bc_segment (pick : Entry → Bool) (s : State) : (evaluateKinds pick s).bc.segment = s.bc.segment := by simp [evaluateKinds]
@[simp] theorem evaluateKinds_bc_clock (pick : Entry → Bool) (s : State) : (evaluateKinds pick s).bc.clock = s.bc.clock := by simp [evaluateKinds]
@[simp] theorem evaluateKinds_bc_counter (pick : Entry → Bool) (s : State) : (evaluateKinds pick s).bc.counter = s.bc.counter := by simp [evaluateKinds]
@[simp] theorem evaluateKinds_bc_beacon (pick : Entry → Bool) (s : State) : (evaluateKinds pick s).bc.beacon = s.bc.beacon := by simp [evaluateKinds]
@[simp] theorem evaluateKinds_bc_call (pick : Entry → Bool) (s : State) : (evaluateKinds pick s).bc.call = s.bc.call := by simp [evaluateKinds]
@[simp] theorem evaluateKinds_bc_rxA (pick : Entry → Bool) (s : State) : (evaluateKinds pick s).bc.rxA = s.bc.rxA := by simp [evaluateKinds]
@[simp] theorem evaluateKinds_bc_rxB (pick : Entry → Bool) (s : State) : (evaluateKinds pick s).bc.rxB = s.bc.rxB := by simp [evaluateKinds]
@[simp] theorem evaluateKinds_bc_gotA (pick : Entry → Bool) (s : State) : (evaluateKinds pick s).bc.gotA = s.bc.gotA := by simp [evaluateKinds]
@[simp] theorem evaluateKinds_bc_gotB (pick : Entry → Bool) (s : State) : (evaluateKinds pick s).bc.gotB = s.bc.gotB := by simp [evaluateKinds]
@[simp] theorem evaluateKinds_bc_sent (pick : Entry → Bool) (s : State) : (evaluateKinds pick s).bc.sent = s.bc.sent := by simp [evaluateKinds]
@[simp] theorem evaluateKinds_bc_lastCall (pick : Entry → Bool) (s : State) : (evaluateKinds pick s).bc.lastCall = s.bc.lastCall := by simp [evaluateKinds]
@[simp] theorem evaluateKinds_sup_mismatch (pick : Entry → Bool) (s : State) : (evaluateKinds pick s).sup.mismatch = s.sup.mismatch := by simp [evaluateKinds]
@[simp] theorem evaluateKinds_sup_even (pick : Entry → Bool) (s : State) : (evaluateKinds pick s).sup.even = s.sup.even := by simp [evaluateKinds]
@[simp] theorem evaluateKinds_sup_odd (pick : Entry → Bool) (s : State) : (evaluateKinds pick s).sup.odd = s.sup.odd := by simp [evaluateKinds]
@[simp] theorem evaluateKinds_sup_capture (pick : Entry → Bool) (s : State) : (evaluateKinds pick s).sup.capture = s.sup.capture := by simp [evaluateKinds]
@[simp] theorem evaluateKinds_sup_a_obs (pick : Entry → Bool) (s : State) : (evaluateKinds pick s).sup.a.obs = s.sup.a.obs := by simp [evaluateKinds]
@[simp] theorem evaluateKinds_sup_a_runs (pick : Entry → Bool) (s : State) : (evaluateKinds pick s).sup.a.runs = s.sup.a.runs := by simp [evaluateKinds]
@[simp] theorem evaluateKinds_sup_a_state (pick : Entry → Bool) (s : State) : (evaluateKinds pick s).sup.a.state = s.sup.a.state := by simp [evaluateKinds]
@[simp] theorem evaluateKinds_sup_b_obs (pick : Entry → Bool) (s : State) : (evaluateKinds pick s).sup.b.obs = s.sup.b.obs := by simp [evaluateKinds]
@[simp] theorem evaluateKinds_sup_b_runs (pick : Entry → Bool) (s : State) : (evaluateKinds pick s).sup.b.runs = s.sup.b.runs := by simp [evaluateKinds]
@[simp] theorem evaluateKinds_sup_b_state (pick : Entry → Bool) (s : State) : (evaluateKinds pick s).sup.b.state = s.sup.b.state := by simp [evaluateKinds]
@[simp] theorem evaluateKinds_coaches (pick : Entry → Bool) (s : State) :
    (evaluateKinds pick s).cm.list.map (·.coach) = s.cm.list.map (·.coach) := by unfold evaluateKinds; exact revise_coaches _ _

@[simp] theorem dirtyBlocks_jt (pick : Entry → Bool) (s : State) : (dirtyBlocks pick s).jt = s.jt := by simp [dirtyBlocks]
@[simp] theorem dirtyBlocks_rs (pick : Entry → Bool) (s : State) : (dirtyBlocks pick s).rs = s.rs := by simp [dirtyBlocks]
@[simp] theorem dirtyBlocks_clc (pick : Entry → Bool) (s : State) : (dirtyBlocks pick s).clc = s.clc := by simp [dirtyBlocks]
@[simp] theorem dirtyBlocks_pending (pick : Entry → Bool) (s : State) : (dirtyBlocks pick s).pending = s.pending := by simp [dirtyBlocks]
@[simp] theorem dirtyBlocks_cm_detached (pick : Entry → Bool) (s : State) : (dirtyBlocks pick s).cm.detached = s.cm.detached := by simp [dirtyBlocks]
@[simp] theorem dirtyBlocks_cm_survey (pick : Entry → Bool) (s : State) : (dirtyBlocks pick s).cm.survey = s.cm.survey := by simp [dirtyBlocks]
@[simp] theorem dirtyBlocks_cm_confused (pick : Entry → Bool) (s : State) : (dirtyBlocks pick s).cm.confused = s.cm.confused := by simp [dirtyBlocks]
@[simp] theorem dirtyBlocks_cm_partings (pick : Entry → Bool) (s : State) : (dirtyBlocks pick s).cm.partings = s.cm.partings := by simp [dirtyBlocks]
@[simp] theorem dirtyBlocks_cm_types (pick : Entry → Bool) (s : State) : (dirtyBlocks pick s).cm.types = s.cm.types := by simp [dirtyBlocks]
@[simp] theorem dirtyBlocks_dc_table (pick : Entry → Bool) (s : State) : (dirtyBlocks pick s).dc.table = s.dc.table := by simp [dirtyBlocks]
@[simp] theorem dirtyBlocks_dc_start (pick : Entry → Bool) (s : State) : (dirtyBlocks pick s).dc.start = s.dc.start := by simp [dirtyBlocks]
@[simp] theorem dirtyBlocks_dc_current (pick : Entry → Bool) (s : State) : (dirtyBlocks pick s).dc.current = s.dc.current := by simp [dirtyBlocks]
@[simp] theorem dirtyBlocks_dc_dwell (pick : Entry → Bool) (s : State) : (dirtyBlocks pick s).dc.dwell = s.dc.dwell := by simp [dirtyBlocks]
@[simp] theorem dirtyBlocks_dc_page (pick : Entry → Bool) (s : State) : (dirtyBlocks pick s).dc.page = s.dc.page := by simp [dirtyBlocks]
@[simp] theorem dirtyBlocks_bc_state (pick : Entry → Bool) (s : State) : (dirtyBlocks pick s).bc.state = s.bc.state := by simp [dirtyBlocks]
@[simp] theorem dirtyBlocks_bc_segment (pick : Entry → Bool) (s : State) : (dirtyBlocks pick s).bc.segment = s.bc.segment := by simp [dirtyBlocks]
@[simp] theorem dirtyBlocks_bc_clock (pick : Entry → Bool) (s : State) : (dirtyBlocks pick s).bc.clock = s.bc.clock := by simp [dirtyBlocks]
@[simp] theorem dirtyBlocks_bc_counter (pick : Entry → Bool) (s : State) : (dirtyBlocks pick s).bc.counter = s.bc.counter := by simp [dirtyBlocks]
@[simp] theorem dirtyBlocks_bc_beacon (pick : Entry → Bool) (s : State) : (dirtyBlocks pick s).bc.beacon = s.bc.beacon := by simp [dirtyBlocks]
@[simp] theorem dirtyBlocks_bc_call (pick : Entry → Bool) (s : State) : (dirtyBlocks pick s).bc.call = s.bc.call := by simp [dirtyBlocks]
@[simp] theorem dirtyBlocks_bc_rxA (pick : Entry → Bool) (s : State) : (dirtyBlocks pick s).bc.rxA = s.bc.rxA := by simp [dirtyBlocks]
@[simp] theorem dirtyBlocks_bc_rxB (pick : Entry → Bool) (s : State) : (dirtyBlocks pick s).bc.rxB = s.bc.rxB := by simp [dirtyBlocks]
@[simp] theorem dirtyBlocks_bc_gotA (pick : Entry → Bool) (s : State) : (dirtyBlocks pick s).bc.gotA = s.bc.gotA := by simp [dirtyBlocks]
@[simp] theorem dirtyBlocks_bc_gotB (pick : Entry → Bool) (s : State) : (dirtyBlocks pick s).bc.gotB = s.bc.gotB := by simp [dirtyBlocks]
@[simp] theorem dirtyBlocks_bc_sent (pick : Entry → Bool) (s : State) : (dirtyBlocks pick s).bc.sent = s.bc.sent := by simp [dirtyBlocks]
@[simp] theorem dirtyBlocks_bc_lastCall (pick : Entry → Bool) (s : State) : (dirtyBlocks pick s).bc.lastCall = s.bc.lastCall := by simp [dirtyBlocks]
@[simp] theorem dirtyBlocks_sup_mismatch (pick : Entry → Bool) (s : State) : (dirtyBlocks pick s).sup.mismatch = s.sup.mismatch := by simp [dirtyBlocks]
@[simp] theorem dirtyBlocks_sup_even (pick : Entry → Bool) (s : State) : (dirtyBlocks pick s).sup.even = s.sup.even := by simp [dirtyBlocks]
@[simp] theorem dirtyBlocks_sup_odd (pick : Entry → Bool) (s : State) : (dirtyBlocks pick s).sup.odd = s.sup.odd := by simp [dirtyBlocks]
@[simp] theorem dirtyBlocks_sup_capture (pick : Entry → Bool) (s : State) : (dirtyBlocks pick s).sup.capture = s.sup.capture := by simp [dirtyBlocks]
@[simp] theorem dirtyBlocks_sup_a_obs (pick : Entry → Bool) (s : State) : (dirtyBlocks pick s).sup.a.obs = s.sup.a.obs := by simp [dirtyBlocks]
@[simp] theorem dirtyBlocks_sup_a_runs (pick : Entry → Bool) (s : State) : (dirtyBlocks pick s).sup.a.runs = s.sup.a.runs := by simp [dirtyBlocks]
@[simp] theorem dirtyBlocks_sup_a_state (pick : Entry → Bool) (s : State) : (dirtyBlocks pick s).sup.a.state = s.sup.a.state := by simp [dirtyBlocks]
@[simp] theorem dirtyBlocks_sup_b_obs (pick : Entry → Bool) (s : State) : (dirtyBlocks pick s).sup.b.obs = s.sup.b.obs := by simp [dirtyBlocks]
@[simp] theorem dirtyBlocks_sup_b_runs (pick : Entry → Bool) (s : State) : (dirtyBlocks pick s).sup.b.runs = s.sup.b.runs := by simp [dirtyBlocks]
@[simp] theorem dirtyBlocks_sup_b_state (pick : Entry → Bool) (s : State) : (dirtyBlocks pick s).sup.b.state = s.sup.b.state := by simp [dirtyBlocks]
@[simp] theorem dirtyBlocks_coaches (pick : Entry → Bool) (s : State) :
    (dirtyBlocks pick s).cm.list.map (·.coach) = s.cm.list.map (·.coach) := by unfold dirtyBlocks; exact revise_coaches _ _

@[simp] theorem markHeaders_jt (pick : Entry → Bool) (s : State) : (markHeaders pick s).jt = s.jt := by simp [markHeaders]
@[simp] theorem markHeaders_rs (pick : Entry → Bool) (s : State) : (markHeaders pick s).rs = s.rs := by simp [markHeaders]
@[simp] theorem markHeaders_clc (pick : Entry → Bool) (s : State) : (markHeaders pick s).clc = s.clc := by simp [markHeaders]
@[simp] theorem markHeaders_pending (pick : Entry → Bool) (s : State) : (markHeaders pick s).pending = s.pending := by simp [markHeaders]
@[simp] theorem markHeaders_cm_detached (pick : Entry → Bool) (s : State) : (markHeaders pick s).cm.detached = s.cm.detached := by simp [markHeaders]
@[simp] theorem markHeaders_cm_survey (pick : Entry → Bool) (s : State) : (markHeaders pick s).cm.survey = s.cm.survey := by simp [markHeaders]
@[simp] theorem markHeaders_cm_confused (pick : Entry → Bool) (s : State) : (markHeaders pick s).cm.confused = s.cm.confused := by simp [markHeaders]
@[simp] theorem markHeaders_cm_partings (pick : Entry → Bool) (s : State) : (markHeaders pick s).cm.partings = s.cm.partings := by simp [markHeaders]
@[simp] theorem markHeaders_cm_types (pick : Entry → Bool) (s : State) : (markHeaders pick s).cm.types = s.cm.types := by simp [markHeaders]
@[simp] theorem markHeaders_dc_table (pick : Entry → Bool) (s : State) : (markHeaders pick s).dc.table = s.dc.table := by simp [markHeaders]
@[simp] theorem markHeaders_dc_start (pick : Entry → Bool) (s : State) : (markHeaders pick s).dc.start = s.dc.start := by simp [markHeaders]
@[simp] theorem markHeaders_dc_current (pick : Entry → Bool) (s : State) : (markHeaders pick s).dc.current = s.dc.current := by simp [markHeaders]
@[simp] theorem markHeaders_dc_dwell (pick : Entry → Bool) (s : State) : (markHeaders pick s).dc.dwell = s.dc.dwell := by simp [markHeaders]
@[simp] theorem markHeaders_dc_page (pick : Entry → Bool) (s : State) : (markHeaders pick s).dc.page = s.dc.page := by simp [markHeaders]
@[simp] theorem markHeaders_bc_state (pick : Entry → Bool) (s : State) : (markHeaders pick s).bc.state = s.bc.state := by simp [markHeaders]
@[simp] theorem markHeaders_bc_segment (pick : Entry → Bool) (s : State) : (markHeaders pick s).bc.segment = s.bc.segment := by simp [markHeaders]
@[simp] theorem markHeaders_bc_clock (pick : Entry → Bool) (s : State) : (markHeaders pick s).bc.clock = s.bc.clock := by simp [markHeaders]
@[simp] theorem markHeaders_bc_counter (pick : Entry → Bool) (s : State) : (markHeaders pick s).bc.counter = s.bc.counter := by simp [markHeaders]
@[simp] theorem markHeaders_bc_beacon (pick : Entry → Bool) (s : State) : (markHeaders pick s).bc.beacon = s.bc.beacon := by simp [markHeaders]
@[simp] theorem markHeaders_bc_call (pick : Entry → Bool) (s : State) : (markHeaders pick s).bc.call = s.bc.call := by simp [markHeaders]
@[simp] theorem markHeaders_bc_rxA (pick : Entry → Bool) (s : State) : (markHeaders pick s).bc.rxA = s.bc.rxA := by simp [markHeaders]
@[simp] theorem markHeaders_bc_rxB (pick : Entry → Bool) (s : State) : (markHeaders pick s).bc.rxB = s.bc.rxB := by simp [markHeaders]
@[simp] theorem markHeaders_bc_gotA (pick : Entry → Bool) (s : State) : (markHeaders pick s).bc.gotA = s.bc.gotA := by simp [markHeaders]
@[simp] theorem markHeaders_bc_gotB (pick : Entry → Bool) (s : State) : (markHeaders pick s).bc.gotB = s.bc.gotB := by simp [markHeaders]
@[simp] theorem markHeaders_bc_sent (pick : Entry → Bool) (s : State) : (markHeaders pick s).bc.sent = s.bc.sent := by simp [markHeaders]
@[simp] theorem markHeaders_bc_lastCall (pick : Entry → Bool) (s : State) : (markHeaders pick s).bc.lastCall = s.bc.lastCall := by simp [markHeaders]
@[simp] theorem markHeaders_sup_mismatch (pick : Entry → Bool) (s : State) : (markHeaders pick s).sup.mismatch = s.sup.mismatch := by simp [markHeaders]
@[simp] theorem markHeaders_sup_even (pick : Entry → Bool) (s : State) : (markHeaders pick s).sup.even = s.sup.even := by simp [markHeaders]
@[simp] theorem markHeaders_sup_odd (pick : Entry → Bool) (s : State) : (markHeaders pick s).sup.odd = s.sup.odd := by simp [markHeaders]
@[simp] theorem markHeaders_sup_capture (pick : Entry → Bool) (s : State) : (markHeaders pick s).sup.capture = s.sup.capture := by simp [markHeaders]
@[simp] theorem markHeaders_sup_a_obs (pick : Entry → Bool) (s : State) : (markHeaders pick s).sup.a.obs = s.sup.a.obs := by simp [markHeaders]
@[simp] theorem markHeaders_sup_a_runs (pick : Entry → Bool) (s : State) : (markHeaders pick s).sup.a.runs = s.sup.a.runs := by simp [markHeaders]
@[simp] theorem markHeaders_sup_a_state (pick : Entry → Bool) (s : State) : (markHeaders pick s).sup.a.state = s.sup.a.state := by simp [markHeaders]
@[simp] theorem markHeaders_sup_b_obs (pick : Entry → Bool) (s : State) : (markHeaders pick s).sup.b.obs = s.sup.b.obs := by simp [markHeaders]
@[simp] theorem markHeaders_sup_b_runs (pick : Entry → Bool) (s : State) : (markHeaders pick s).sup.b.runs = s.sup.b.runs := by simp [markHeaders]
@[simp] theorem markHeaders_sup_b_state (pick : Entry → Bool) (s : State) : (markHeaders pick s).sup.b.state = s.sup.b.state := by simp [markHeaders]
@[simp] theorem markHeaders_coaches (pick : Entry → Bool) (s : State) :
    (markHeaders pick s).cm.list.map (·.coach) = s.cm.list.map (·.coach) := by unfold markHeaders; exact markBlocks_coaches _ _

@[simp] theorem markSeats_jt (pick : Entry → Bool) (s : State) : (markSeats pick s).jt = s.jt := by simp [markSeats]
@[simp] theorem markSeats_rs (pick : Entry → Bool) (s : State) : (markSeats pick s).rs = s.rs := by simp [markSeats]
@[simp] theorem markSeats_clc (pick : Entry → Bool) (s : State) : (markSeats pick s).clc = s.clc := by simp [markSeats]
@[simp] theorem markSeats_pending (pick : Entry → Bool) (s : State) : (markSeats pick s).pending = s.pending := by simp [markSeats]
@[simp] theorem markSeats_cm_detached (pick : Entry → Bool) (s : State) : (markSeats pick s).cm.detached = s.cm.detached := by simp [markSeats]
@[simp] theorem markSeats_cm_survey (pick : Entry → Bool) (s : State) : (markSeats pick s).cm.survey = s.cm.survey := by simp [markSeats]
@[simp] theorem markSeats_cm_confused (pick : Entry → Bool) (s : State) : (markSeats pick s).cm.confused = s.cm.confused := by simp [markSeats]
@[simp] theorem markSeats_cm_partings (pick : Entry → Bool) (s : State) : (markSeats pick s).cm.partings = s.cm.partings := by simp [markSeats]
@[simp] theorem markSeats_cm_types (pick : Entry → Bool) (s : State) : (markSeats pick s).cm.types = s.cm.types := by simp [markSeats]
@[simp] theorem markSeats_dc_table (pick : Entry → Bool) (s : State) : (markSeats pick s).dc.table = s.dc.table := by simp [markSeats]
@[simp] theorem markSeats_dc_start (pick : Entry → Bool) (s : State) : (markSeats pick s).dc.start = s.dc.start := by simp [markSeats]
@[simp] theorem markSeats_dc_current (pick : Entry → Bool) (s : State) : (markSeats pick s).dc.current = s.dc.current := by simp [markSeats]
@[simp] theorem markSeats_dc_dwell (pick : Entry → Bool) (s : State) : (markSeats pick s).dc.dwell = s.dc.dwell := by simp [markSeats]
@[simp] theorem markSeats_dc_page (pick : Entry → Bool) (s : State) : (markSeats pick s).dc.page = s.dc.page := by simp [markSeats]
@[simp] theorem markSeats_bc_state (pick : Entry → Bool) (s : State) : (markSeats pick s).bc.state = s.bc.state := by simp [markSeats]
@[simp] theorem markSeats_bc_segment (pick : Entry → Bool) (s : State) : (markSeats pick s).bc.segment = s.bc.segment := by simp [markSeats]
@[simp] theorem markSeats_bc_clock (pick : Entry → Bool) (s : State) : (markSeats pick s).bc.clock = s.bc.clock := by simp [markSeats]
@[simp] theorem markSeats_bc_counter (pick : Entry → Bool) (s : State) : (markSeats pick s).bc.counter = s.bc.counter := by simp [markSeats]
@[simp] theorem markSeats_bc_beacon (pick : Entry → Bool) (s : State) : (markSeats pick s).bc.beacon = s.bc.beacon := by simp [markSeats]
@[simp] theorem markSeats_bc_call (pick : Entry → Bool) (s : State) : (markSeats pick s).bc.call = s.bc.call := by simp [markSeats]
@[simp] theorem markSeats_bc_rxA (pick : Entry → Bool) (s : State) : (markSeats pick s).bc.rxA = s.bc.rxA := by simp [markSeats]
@[simp] theorem markSeats_bc_rxB (pick : Entry → Bool) (s : State) : (markSeats pick s).bc.rxB = s.bc.rxB := by simp [markSeats]
@[simp] theorem markSeats_bc_gotA (pick : Entry → Bool) (s : State) : (markSeats pick s).bc.gotA = s.bc.gotA := by simp [markSeats]
@[simp] theorem markSeats_bc_gotB (pick : Entry → Bool) (s : State) : (markSeats pick s).bc.gotB = s.bc.gotB := by simp [markSeats]
@[simp] theorem markSeats_bc_sent (pick : Entry → Bool) (s : State) : (markSeats pick s).bc.sent = s.bc.sent := by simp [markSeats]
@[simp] theorem markSeats_bc_lastCall (pick : Entry → Bool) (s : State) : (markSeats pick s).bc.lastCall = s.bc.lastCall := by simp [markSeats]
@[simp] theorem markSeats_sup_mismatch (pick : Entry → Bool) (s : State) : (markSeats pick s).sup.mismatch = s.sup.mismatch := by simp [markSeats]
@[simp] theorem markSeats_sup_even (pick : Entry → Bool) (s : State) : (markSeats pick s).sup.even = s.sup.even := by simp [markSeats]
@[simp] theorem markSeats_sup_odd (pick : Entry → Bool) (s : State) : (markSeats pick s).sup.odd = s.sup.odd := by simp [markSeats]
@[simp] theorem markSeats_sup_capture (pick : Entry → Bool) (s : State) : (markSeats pick s).sup.capture = s.sup.capture := by simp [markSeats]
@[simp] theorem markSeats_sup_a_obs (pick : Entry → Bool) (s : State) : (markSeats pick s).sup.a.obs = s.sup.a.obs := by simp [markSeats]
@[simp] theorem markSeats_sup_a_runs (pick : Entry → Bool) (s : State) : (markSeats pick s).sup.a.runs = s.sup.a.runs := by simp [markSeats]
@[simp] theorem markSeats_sup_a_state (pick : Entry → Bool) (s : State) : (markSeats pick s).sup.a.state = s.sup.a.state := by simp [markSeats]
@[simp] theorem markSeats_sup_b_obs (pick : Entry → Bool) (s : State) : (markSeats pick s).sup.b.obs = s.sup.b.obs := by simp [markSeats]
@[simp] theorem markSeats_sup_b_runs (pick : Entry → Bool) (s : State) : (markSeats pick s).sup.b.runs = s.sup.b.runs := by simp [markSeats]
@[simp] theorem markSeats_sup_b_state (pick : Entry → Bool) (s : State) : (markSeats pick s).sup.b.state = s.sup.b.state := by simp [markSeats]
@[simp] theorem markSeats_coaches (pick : Entry → Bool) (s : State) :
    (markSeats pick s).cm.list.map (·.coach) = s.cm.list.map (·.coach) := by unfold markSeats; exact markBlocks_coaches _ _

@[simp] theorem markSeatsOf_jt (seats : List (Nat × Nat)) (s : State) : (markSeatsOf seats s).jt = s.jt := by simp [markSeatsOf]
@[simp] theorem markSeatsOf_rs (seats : List (Nat × Nat)) (s : State) : (markSeatsOf seats s).rs = s.rs := by simp [markSeatsOf]
@[simp] theorem markSeatsOf_clc (seats : List (Nat × Nat)) (s : State) : (markSeatsOf seats s).clc = s.clc := by simp [markSeatsOf]
@[simp] theorem markSeatsOf_pending (seats : List (Nat × Nat)) (s : State) : (markSeatsOf seats s).pending = s.pending := by simp [markSeatsOf]
@[simp] theorem markSeatsOf_cm_detached (seats : List (Nat × Nat)) (s : State) : (markSeatsOf seats s).cm.detached = s.cm.detached := by simp [markSeatsOf]
@[simp] theorem markSeatsOf_cm_survey (seats : List (Nat × Nat)) (s : State) : (markSeatsOf seats s).cm.survey = s.cm.survey := by simp [markSeatsOf]
@[simp] theorem markSeatsOf_cm_confused (seats : List (Nat × Nat)) (s : State) : (markSeatsOf seats s).cm.confused = s.cm.confused := by simp [markSeatsOf]
@[simp] theorem markSeatsOf_cm_partings (seats : List (Nat × Nat)) (s : State) : (markSeatsOf seats s).cm.partings = s.cm.partings := by simp [markSeatsOf]
@[simp] theorem markSeatsOf_cm_types (seats : List (Nat × Nat)) (s : State) : (markSeatsOf seats s).cm.types = s.cm.types := by simp [markSeatsOf]
@[simp] theorem markSeatsOf_dc_table (seats : List (Nat × Nat)) (s : State) : (markSeatsOf seats s).dc.table = s.dc.table := by simp [markSeatsOf]
@[simp] theorem markSeatsOf_dc_start (seats : List (Nat × Nat)) (s : State) : (markSeatsOf seats s).dc.start = s.dc.start := by simp [markSeatsOf]
@[simp] theorem markSeatsOf_dc_current (seats : List (Nat × Nat)) (s : State) : (markSeatsOf seats s).dc.current = s.dc.current := by simp [markSeatsOf]
@[simp] theorem markSeatsOf_dc_dwell (seats : List (Nat × Nat)) (s : State) : (markSeatsOf seats s).dc.dwell = s.dc.dwell := by simp [markSeatsOf]
@[simp] theorem markSeatsOf_dc_page (seats : List (Nat × Nat)) (s : State) : (markSeatsOf seats s).dc.page = s.dc.page := by simp [markSeatsOf]
@[simp] theorem markSeatsOf_bc_state (seats : List (Nat × Nat)) (s : State) : (markSeatsOf seats s).bc.state = s.bc.state := by simp [markSeatsOf]
@[simp] theorem markSeatsOf_bc_segment (seats : List (Nat × Nat)) (s : State) : (markSeatsOf seats s).bc.segment = s.bc.segment := by simp [markSeatsOf]
@[simp] theorem markSeatsOf_bc_clock (seats : List (Nat × Nat)) (s : State) : (markSeatsOf seats s).bc.clock = s.bc.clock := by simp [markSeatsOf]
@[simp] theorem markSeatsOf_bc_counter (seats : List (Nat × Nat)) (s : State) : (markSeatsOf seats s).bc.counter = s.bc.counter := by simp [markSeatsOf]
@[simp] theorem markSeatsOf_bc_beacon (seats : List (Nat × Nat)) (s : State) : (markSeatsOf seats s).bc.beacon = s.bc.beacon := by simp [markSeatsOf]
@[simp] theorem markSeatsOf_bc_call (seats : List (Nat × Nat)) (s : State) : (markSeatsOf seats s).bc.call = s.bc.call := by simp [markSeatsOf]
@[simp] theorem markSeatsOf_bc_rxA (seats : List (Nat × Nat)) (s : State) : (markSeatsOf seats s).bc.rxA = s.bc.rxA := by simp [markSeatsOf]
@[simp] theorem markSeatsOf_bc_rxB (seats : List (Nat × Nat)) (s : State) : (markSeatsOf seats s).bc.rxB = s.bc.rxB := by simp [markSeatsOf]
@[simp] theorem markSeatsOf_bc_gotA (seats : List (Nat × Nat)) (s : State) : (markSeatsOf seats s).bc.gotA = s.bc.gotA := by simp [markSeatsOf]
@[simp] theorem markSeatsOf_bc_gotB (seats : List (Nat × Nat)) (s : State) : (markSeatsOf seats s).bc.gotB = s.bc.gotB := by simp [markSeatsOf]
@[simp] theorem markSeatsOf_bc_sent (seats : List (Nat × Nat)) (s : State) : (markSeatsOf seats s).bc.sent = s.bc.sent := by simp [markSeatsOf]
@[simp] theorem markSeatsOf_bc_lastCall (seats : List (Nat × Nat)) (s : State) : (markSeatsOf seats s).bc.lastCall = s.bc.lastCall := by simp [markSeatsOf]
@[simp] theorem markSeatsOf_sup_mismatch (seats : List (Nat × Nat)) (s : State) : (markSeatsOf seats s).sup.mismatch = s.sup.mismatch := by simp [markSeatsOf]
@[simp] theorem markSeatsOf_sup_even (seats : List (Nat × Nat)) (s : State) : (markSeatsOf seats s).sup.even = s.sup.even := by simp [markSeatsOf]
@[simp] theorem markSeatsOf_sup_odd (seats : List (Nat × Nat)) (s : State) : (markSeatsOf seats s).sup.odd = s.sup.odd := by simp [markSeatsOf]
@[simp] theorem markSeatsOf_sup_capture (seats : List (Nat × Nat)) (s : State) : (markSeatsOf seats s).sup.capture = s.sup.capture := by simp [markSeatsOf]
@[simp] theorem markSeatsOf_sup_a_obs (seats : List (Nat × Nat)) (s : State) : (markSeatsOf seats s).sup.a.obs = s.sup.a.obs := by simp [markSeatsOf]
@[simp] theorem markSeatsOf_sup_a_runs (seats : List (Nat × Nat)) (s : State) : (markSeatsOf seats s).sup.a.runs = s.sup.a.runs := by simp [markSeatsOf]
@[simp] theorem markSeatsOf_sup_a_state (seats : List (Nat × Nat)) (s : State) : (markSeatsOf seats s).sup.a.state = s.sup.a.state := by simp [markSeatsOf]
@[simp] theorem markSeatsOf_sup_b_obs (seats : List (Nat × Nat)) (s : State) : (markSeatsOf seats s).sup.b.obs = s.sup.b.obs := by simp [markSeatsOf]
@[simp] theorem markSeatsOf_sup_b_runs (seats : List (Nat × Nat)) (s : State) : (markSeatsOf seats s).sup.b.runs = s.sup.b.runs := by simp [markSeatsOf]
@[simp] theorem markSeatsOf_sup_b_state (seats : List (Nat × Nat)) (s : State) : (markSeatsOf seats s).sup.b.state = s.sup.b.state := by simp [markSeatsOf]
@[simp] theorem markSeatsOf_coaches (seats : List (Nat × Nat)) (s : State) :
    (markSeatsOf seats s).cm.list.map (·.coach) = s.cm.list.map (·.coach) := by unfold markSeatsOf; exact markBlocks_coaches _ _

@[simp] theorem markPhase_jt (s : State) : (markPhase s).jt = s.jt := by simp [markPhase]
@[simp] theorem markPhase_rs (s : State) : (markPhase s).rs = s.rs := by simp [markPhase]
@[simp] theorem markPhase_clc (s : State) : (markPhase s).clc = s.clc := by simp [markPhase]
@[simp] theorem markPhase_pending (s : State) : (markPhase s).pending = s.pending := by simp [markPhase]
@[simp] theorem markPhase_cm_detached (s : State) : (markPhase s).cm.detached = s.cm.detached := by simp [markPhase]
@[simp] theorem markPhase_cm_survey (s : State) : (markPhase s).cm.survey = s.cm.survey := by simp [markPhase]
@[simp] theorem markPhase_cm_confused (s : State) : (markPhase s).cm.confused = s.cm.confused := by simp [markPhase]
@[simp] theorem markPhase_cm_partings (s : State) : (markPhase s).cm.partings = s.cm.partings := by simp [markPhase]
@[simp] theorem markPhase_cm_types (s : State) : (markPhase s).cm.types = s.cm.types := by simp [markPhase]
@[simp] theorem markPhase_dc_table (s : State) : (markPhase s).dc.table = s.dc.table := by simp [markPhase]
@[simp] theorem markPhase_dc_start (s : State) : (markPhase s).dc.start = s.dc.start := by simp [markPhase]
@[simp] theorem markPhase_dc_current (s : State) : (markPhase s).dc.current = s.dc.current := by simp [markPhase]
@[simp] theorem markPhase_dc_dwell (s : State) : (markPhase s).dc.dwell = s.dc.dwell := by simp [markPhase]
@[simp] theorem markPhase_dc_page (s : State) : (markPhase s).dc.page = s.dc.page := by simp [markPhase]
@[simp] theorem markPhase_bc_state (s : State) : (markPhase s).bc.state = s.bc.state := by simp [markPhase]
@[simp] theorem markPhase_bc_segment (s : State) : (markPhase s).bc.segment = s.bc.segment := by simp [markPhase]
@[simp] theorem markPhase_bc_clock (s : State) : (markPhase s).bc.clock = s.bc.clock := by simp [markPhase]
@[simp] theorem markPhase_bc_counter (s : State) : (markPhase s).bc.counter = s.bc.counter := by simp [markPhase]
@[simp] theorem markPhase_bc_beacon (s : State) : (markPhase s).bc.beacon = s.bc.beacon := by simp [markPhase]
@[simp] theorem markPhase_bc_call (s : State) : (markPhase s).bc.call = s.bc.call := by simp [markPhase]
@[simp] theorem markPhase_bc_rxA (s : State) : (markPhase s).bc.rxA = s.bc.rxA := by simp [markPhase]
@[simp] theorem markPhase_bc_rxB (s : State) : (markPhase s).bc.rxB = s.bc.rxB := by simp [markPhase]
@[simp] theorem markPhase_bc_gotA (s : State) : (markPhase s).bc.gotA = s.bc.gotA := by simp [markPhase]
@[simp] theorem markPhase_bc_gotB (s : State) : (markPhase s).bc.gotB = s.bc.gotB := by simp [markPhase]
@[simp] theorem markPhase_bc_sent (s : State) : (markPhase s).bc.sent = s.bc.sent := by simp [markPhase]
@[simp] theorem markPhase_bc_lastCall (s : State) : (markPhase s).bc.lastCall = s.bc.lastCall := by simp [markPhase]
@[simp] theorem markPhase_sup_mismatch (s : State) : (markPhase s).sup.mismatch = s.sup.mismatch := by simp [markPhase]
@[simp] theorem markPhase_sup_even (s : State) : (markPhase s).sup.even = s.sup.even := by simp [markPhase]
@[simp] theorem markPhase_sup_odd (s : State) : (markPhase s).sup.odd = s.sup.odd := by simp [markPhase]
@[simp] theorem markPhase_sup_capture (s : State) : (markPhase s).sup.capture = s.sup.capture := by simp [markPhase]
@[simp] theorem markPhase_sup_a_obs (s : State) : (markPhase s).sup.a.obs = s.sup.a.obs := by simp [markPhase]
@[simp] theorem markPhase_sup_a_runs (s : State) : (markPhase s).sup.a.runs = s.sup.a.runs := by simp [markPhase]
@[simp] theorem markPhase_sup_a_state (s : State) : (markPhase s).sup.a.state = s.sup.a.state := by simp [markPhase]
@[simp] theorem markPhase_sup_b_obs (s : State) : (markPhase s).sup.b.obs = s.sup.b.obs := by simp [markPhase]
@[simp] theorem markPhase_sup_b_runs (s : State) : (markPhase s).sup.b.runs = s.sup.b.runs := by simp [markPhase]
@[simp] theorem markPhase_sup_b_state (s : State) : (markPhase s).sup.b.state = s.sup.b.state := by simp [markPhase]
@[simp] theorem markPhase_coaches (s : State) :
    (markPhase s).cm.list.map (·.coach) = s.cm.list.map (·.coach) := by unfold markPhase; exact markBlocks_coaches _ _

end Sys2Proof.Machine
end

