-- ==== Sys2Proof/Laws/Blocks.lean ====
section
/-! SUPPORT. What an event on content blocks leaves: the consist but for the blocks, and at most one abort of the frame in
flight. -/

namespace Sys2Proof.Machine

variable {s t u : State}

@[simp] theorem BlockSet.get_ofKinds (f : BlockKind → Block) (k : BlockKind) : (BlockSet.ofKinds f).get k = f k := by
  cases k <;> rfl
@[simp] theorem BlockSet.ofKinds_get (b : BlockSet) : BlockSet.ofKinds b.get = b := rfl
@[simp] theorem Block.after_keep (b : Block) (already : Bool) : b.after already .keep = b := rfl

/-! ## Aborts -/

/-- Nothing happened. -/
theorem AbortAtMost.refl (s : State) : AbortAtMost s s := .inl ⟨rfl, rfl⟩

/-- What has the controller and supervision of either end is as good as that end. -/
theorem AbortAtMost.congr {s' t' : State} (h : AbortAtMost s t) (a : s'.bc = s.bc) (b : s'.sup = s.sup) (c : t'.bc = t.bc)
    (d : t'.sup = t.sup) : AbortAtMost s' t' := by
  unfold AbortAtMost abortFrame at *
  rw [a, b, c, d]
  obtain h | ⟨f, p, q, x, y⟩ := h
  · exact .inl h
  · rw [p] at x y
    exact .inr ⟨f, p, q, by rw [p]; simpa [a] using x, by rw [p]; simpa [b] using y⟩

/-- A frame that has been aborted is not in flight. -/
theorem abortFrame_not_inFlight {f g : ContentFrame} {t : Nat} (h : s.bc.frame = some f) (e : (abortFrame s).bc.frame = some g) :
    g.inFlight t = false := by
  simp only [abortFrame, h] at e
  cases e
  rfl

/-- Two events one after the other abort at most one frame. -/
theorem AbortAtMost.trans (h : AbortAtMost s t) (k : AbortAtMost t u) : AbortAtMost s u := by
  obtain ⟨a, b⟩ | ⟨f, p, q, x, y⟩ := h
  · exact k.congr a.symm b.symm rfl rfl
  · obtain ⟨a, b⟩ | ⟨g, r, w, -, -⟩ := k
    · exact .inr ⟨f, p, q, a.trans x, b.trans y⟩
    · rw [x] at r
      exact absurd w (by simp [abortFrame_not_inFlight p r])

/-- A conditional abort is at most one abort. -/
theorem abortAtMost_abortIf (test : Nat → BlockKind → Bool) (s : State) : AbortAtMost s (abortIf test s) := by
  unfold abortIf
  split
  · rename_i f h
    split_ifs with c
    · simp only [Bool.and_eq_true] at c
      exact .inr ⟨f, h, c.1, rfl, rfl⟩
    · exact .refl s
  · exact .refl s

/-- One event's effects on the blocks abort at most one frame (R126). -/
theorem abortAtMost_revise (f : Entry → BlockKind → BlockEffect) (s : State) : AbortAtMost s (revise f s) := by
  unfold revise
  exact (abortAtMost_abortIf _ _).congr (by rfl) (by rfl) rfl rfl

/-- Marking aborts at most one frame. -/
theorem abortAtMost_markBlocks (pick : Entry → BlockKind → Bool) (s : State) : AbortAtMost s (markBlocks pick s) :=
  abortAtMost_revise _ s

/-- Evaluating the kinds aborts at most one frame. -/
theorem abortAtMost_evaluateKinds (pick : Entry → Bool) (s : State) : AbortAtMost s (evaluateKinds pick s) :=
  abortAtMost_revise _ s

/-! ## The consist but for its blocks -/

/-- What an event on blocks changes of the consist is blocks (R126). -/
@[simp] theorem revise_unmarked (f : Entry → BlockKind → BlockEffect) (s : State) :
    (revise f s).cm.unmarked = s.cm.unmarked := by
  simp [Cm.unmarked, revisedList, Function.comp_def]
@[simp] theorem markBlocks_unmarked (pick : Entry → BlockKind → Bool) (s : State) :
    (markBlocks pick s).cm.unmarked = s.cm.unmarked := revise_unmarked _ s
@[simp] theorem evaluateKinds_unmarked (pick : Entry → Bool) (s : State) :
    (evaluateKinds pick s).cm.unmarked = s.cm.unmarked := revise_unmarked _ s
@[simp] theorem dirtyBlocks_unmarked (pick : Entry → Bool) (s : State) :
    (dirtyBlocks pick s).cm.unmarked = s.cm.unmarked := revise_unmarked _ s

/-- The consists of two states agree in their outlines when they agree but for blocks. -/
theorem Cm.outline_of_unmarked {c d : Cm} (h : c.unmarked = d.unmarked) : c.outline = d.outline := by
  have a : c.detached = d.detached := by have q := congrArg Cm.detached h; exact q
  have b : c.survey = d.survey := by have q := congrArg Cm.survey h; exact q
  have e : c.confused = d.confused := by have q := congrArg Cm.confused h; exact q
  have p : c.partings = d.partings := by have q := congrArg Cm.partings h; exact q
  have q : c.types = d.types := by have q := congrArg Cm.types h; exact q
  unfold Cm.outline
  rw [h, a, b, e, p, q]

/-- Two consists with the same fields are the same. -/
theorem Cm.eq_of_fields {c d : Cm} (l : c.list = d.list) (k : c.detached = d.detached) (v : c.survey = d.survey)
    (m : c.confused = d.confused) (p : c.partings = d.partings) (y : c.types = d.types) : c = d := by
  cases c; cases d; simp_all

/-- The first event of a command marks each valid block picked once (R126). -/
theorem markBlocks_cm_first (pick : Entry → BlockKind → Bool) (d : s.dc.advanced = []) :
    (markBlocks pick s).cm = s.cm.marked pick := by
  have l : (markBlocks pick s).cm.list = (s.cm.marked pick).list := by
    simp only [markBlocks, revise_cm_list, revisedList, d, Cm.marked, List.contains_nil]
    refine List.map_congr_left fun e _ => ?_
    congr 1
    refine congrArg BlockSet.ofKinds (funext fun k => ?_)
    unfold Block.markedIf
    split_ifs <;> rfl
  exact Cm.eq_of_fields l (by simp [Cm.marked]) (by simp [Cm.marked]) (by simp [Cm.marked]) (by simp [Cm.marked])
    (by simp [Cm.marked])

/-- Every kind is in the order of R119. -/
theorem BlockKind.mem_all (k : BlockKind) : k ∈ BlockKind.all := by cases k <;> decide

/-- An abort leaves the composer's state out of account. -/
theorem abortIf_setDc (test : Nat → BlockKind → Bool) (d : Dc) (s : State) :
    abortIf test (s.setDc d) = (abortIf test s).setDc d := by
  have a : abortFrame (s.setDc d) = (abortFrame s).setDc d := by
    unfold abortFrame; rw [State.setDc_bc]; split <;> rfl
  unfold abortIf; rw [State.setDc_bc]; split
  · split_ifs
    · exact a
    · rfl
  · rfl

/-- An abort leaves the consist out of account. -/
theorem abortIf_setCm (test : Nat → BlockKind → Bool) (c : Cm) (s : State) :
    abortIf test (s.setCm c) = (abortIf test s).setCm c := by
  have a : abortFrame (s.setCm c) = (abortFrame s).setCm c := by
    unfold abortFrame; rw [State.setCm_bc]; split <;> rfl
  unfold abortIf; rw [State.setCm_bc]; split
  · split_ifs
    · exact a
    · rfl
  · rfl

/-- The blocks that a first mark advances are the valid ones picked. -/
theorem fresh_of_mark (pick : Entry → BlockKind → Bool) (l : List Entry) :
    (fun d k => (l.flatMap fun e =>
        (BlockKind.all.filter fun k =>
          (if (e.blocks.get k).valid && pick e k then BlockEffect.mark else .keep).advances).map fun k =>
            (e.coach.id, k)).contains (d, k))
      = fun (d : Nat) (k : BlockKind) => l.any fun e => e.coach.id = d && (e.blocks.get k).valid && pick e k := by
  funext d k
  rw [Bool.eq_iff_iff]
  simp only [List.contains_iff_mem, List.mem_flatMap, List.mem_map, List.mem_filter, List.any_eq_true, Prod.mk.injEq,
    Bool.and_eq_true, decide_eq_true_eq]
  constructor
  · rintro ⟨e, he, k', ⟨-, hk⟩, rfl, rfl⟩
    refine ⟨e, he, ⟨rfl, ?_⟩, ?_⟩ <;> by_contra q <;> simp [q, BlockEffect.advances] at hk
  · rintro ⟨e, he, ⟨h1, h2⟩, h3⟩
    exact ⟨e, he, k, ⟨BlockKind.mem_all k, by simp [h2, h3, BlockEffect.advances]⟩, h1, rfl⟩

/-- The first event of a command on content blocks, as the command leaves it: each valid block picked is marked once, and the
frame in flight of one of them is aborted (R126, R159). -/
theorem markBlocks_first (pick : Entry → BlockKind → Bool) (s : State) (h : s.dc.advanced = []) :
    (markBlocks pick s).setDc { (markBlocks pick s).dc with advanced := [] }
      = abortIf (fun d k => s.cm.list.any fun e => e.coach.id = d && (e.blocks.get k).valid && pick e k)
          (s.setCm (s.cm.marked pick)) := by
  have c := markBlocks_cm_first pick h
  unfold markBlocks revise at c ⊢
  simp only [h, List.contains_nil, Bool.not_false, Bool.and_true, abortIf_cm, State.setDc_cm, State.setCm_cm] at c ⊢
  rw [fresh_of_mark, c, abortIf_setDc]
  have d : (abortIf (fun d k => s.cm.list.any fun e => e.coach.id = d && (e.blocks.get k).valid && pick e k)
      (s.setCm (s.cm.marked pick))).dc = { s.dc with advanced := [] } := by
    rw [abortIf_dc, State.setCm_dc, ← h]
  generalize abortIf _ _ = u at d ⊢
  cases u
  cases d
  rfl

/-! ## What the lines carry -/

/-- Both lines carry the same symbols (R147). -/
@[simp] theorem Bc.sends_symbols (b : Bc) (line : Line) : b.sends line = b.symbols := by cases line <;> rfl
@[simp] theorem begunBy_zero : begunBy 0 = 0 := rfl
/-- A frame sent down the chain is five symbols longer than the bytes its CRC covers (R148). -/
@[simp] theorem downSymbols_length (span : List Byte) : (downSymbols span).length = span.length + 5 := by
  simp [downSymbols, u8, wordBytes]
/-- A frame sent down the chain is seven symbols longer than its payload (R148). -/
@[simp] theorem downFrame_length (kind : Nat) (payload : List Byte) : (downFrame kind payload).length = payload.length + 7 := by
  simp [downFrame, crcSpan, u8]
/-- After power-on both lines are quiet and have carried nothing (R147, R174). -/
theorem Bc.reset_quiet : Bc.reset.quiet = true ∧ ∀ line, Bc.reset.sends line = [] := ⟨rfl, by simp [Bc.symbols, Bc.reset]⟩

end Sys2Proof.Machine
end

