-- ==== Sys2Proof/Laws/Kept.lean ====
section
/-! SUPPORT. What every shared operation of the Journey Tracker, the Consist Manager, the Reservation Store and the Display
Composer leaves alone: one lemma for each operation. -/

namespace Sys2Proof.Machine

/-- The waiting commands, the page rotation, and of the link everything but reports, alarms and what an IDLE transmitter
takes are as before; the Backbone Controller and supervision saw at most one abort. -/
structure Kept (s t : State) : Prop where
  pending : t.pending = s.pending
  table : t.dc.table = s.dc.table
  start : t.dc.start = s.dc.start
  current : t.dc.current = s.dc.current
  dwell : t.dc.dwell = s.dc.dwell
  page : t.dc.page = s.dc.page
  abort : AbortAtMost s t
  rate : t.clc.rate = s.clc.rate
  rx : t.clc.rx = s.clc.rx
  linkError : t.clc.linkError = s.clc.linkError
  queue : t.clc.queue = s.clc.queue
  replies : t.clc.replies = s.clc.replies
  enabled : t.clc.enabled = s.clc.enabled
  order : t.clc.order = s.clc.order
  ready : t.clc.ready = s.clc.ready

variable {s t u : State}

theorem Kept.refl (s : State) : Kept s s :=
  ⟨rfl, rfl, rfl, rfl, rfl, rfl, .refl s, rfl, rfl, rfl, rfl, rfl, rfl, rfl, rfl⟩

theorem Kept.trans (h : Kept s t) (k : Kept t u) : Kept s u :=
  ⟨k.pending.trans h.pending, k.table.trans h.table, k.start.trans h.start, k.current.trans h.current,
   k.dwell.trans h.dwell, k.page.trans h.page, h.abort.trans k.abort, k.rate.trans h.rate, k.rx.trans h.rx,
   k.linkError.trans h.linkError, k.queue.trans h.queue, k.replies.trans h.replies, k.enabled.trans h.enabled,
   k.order.trans h.order, k.ready.trans h.ready⟩

/-- Kept step after step over a list. -/
theorem Kept.foldl {α : Type} {f : State → α → State} (h : ∀ s x, Kept s (f s x)) (l : List α) (s : State) :
    Kept s (l.foldl f s) := by
  induction l generalizing s with
  | nil => exact .refl s
  | cons x l ih => exact (h s x).trans (ih _)

/-! ## Updates of one block -/

theorem kept_setJt (s : State) (v : Jt) : Kept s (s.setJt v) :=
  ⟨rfl, rfl, rfl, rfl, rfl, rfl, .inl ⟨rfl, rfl⟩, rfl, rfl, rfl, rfl, rfl, rfl, rfl, rfl⟩
theorem kept_setCm (s : State) (v : Cm) : Kept s (s.setCm v) :=
  ⟨rfl, rfl, rfl, rfl, rfl, rfl, .inl ⟨rfl, rfl⟩, rfl, rfl, rfl, rfl, rfl, rfl, rfl, rfl⟩
theorem kept_setRs (s : State) (v : Rs) : Kept s (s.setRs v) :=
  ⟨rfl, rfl, rfl, rfl, rfl, rfl, .inl ⟨rfl, rfl⟩, rfl, rfl, rfl, rfl, rfl, rfl, rfl, rfl⟩
theorem kept_setAlarms (f : Alarms → Alarms) (s : State) : Kept s (setAlarms f s) :=
  ⟨rfl, rfl, rfl, rfl, rfl, rfl, .inl ⟨rfl, rfl⟩, rfl, rfl, rfl, rfl, rfl, rfl, rfl, rfl⟩
theorem kept_raise (cls : ReportClass) (code subject : Nat) (data : List Byte) (s : State) :
    Kept s (raise cls code subject data s) :=
  ⟨rfl, rfl, rfl, rfl, rfl, rfl, .inl ⟨rfl, rfl⟩, by simp, by simp, by simp, by simp, by simp, by simp, by simp, by simp⟩

/-! ## Content blocks -/

theorem kept_revise (f : Entry → BlockKind → BlockEffect) (s : State) : Kept s (revise f s) :=
  ⟨by simp, by simp, by simp, by simp, by simp, by simp, abortAtMost_revise f s, by simp, by simp, by simp, by simp,
   by simp, by simp, by simp, by simp⟩
theorem kept_markBlocks (pick : Entry → BlockKind → Bool) (s : State) : Kept s (markBlocks pick s) := kept_revise _ s
theorem kept_evaluateKinds (pick : Entry → Bool) (s : State) : Kept s (evaluateKinds pick s) := kept_revise _ s
theorem kept_dirtyBlocks (pick : Entry → Bool) (s : State) : Kept s (dirtyBlocks pick s) := kept_revise _ s
theorem kept_markHeaders (pick : Entry → Bool) (s : State) : Kept s (markHeaders pick s) := kept_markBlocks _ s
theorem kept_markSeats (pick : Entry → Bool) (s : State) : Kept s (markSeats pick s) := kept_markBlocks _ s
theorem kept_markSeatsOf (seats : List (Nat × Nat)) (s : State) : Kept s (markSeatsOf seats s) := kept_markBlocks _ s
theorem kept_markPhase (s : State) : Kept s (markPhase s) := kept_markBlocks _ s
theorem kept_withAdvisory {f : State → State} (h : Kept s (f s)) : Kept s (withAdvisory f s) :=
  h.trans (kept_markHeaders _ _)
theorem kept_abortIf (test : Nat → BlockKind → Bool) (s : State) : Kept s (abortIf test s) :=
  ⟨by simp, by simp, by simp, by simp, by simp, by simp, abortAtMost_abortIf test s, by simp, by simp, by simp, by simp,
   by simp, by simp, by simp, by simp⟩

/-! ## List entries -/

theorem kept_updateEntry (id : Nat) (f : Entry → Entry) (s : State) : Kept s (updateEntry id f s) := kept_setCm s _
theorem kept_leaveList (gone : Entry → Bool) (s : State) : Kept s (leaveList gone s) := by
  unfold leaveList
  exact (kept_setCm s _).trans (kept_abortIf _ _)
theorem kept_setEntryState (id : Nat) (st : EntryState) (s : State) : Kept s (setEntryState id st s) := by
  have h := (kept_updateEntry id (fun e => { e with state := st }) s).trans
    (kept_evaluateKinds (fun e => e.coach.id = id) _)
  unfold setEntryState
  dsimp only
  split_ifs
  · exact h.trans (kept_markHeaders _ _)
  · exact h
theorem kept_checkEntry (id : Nat) (s : State) : Kept s (checkEntry id s) := by
  unfold checkEntry
  split
  · exact .refl s
  · dsimp only
    split_ifs
    · exact kept_updateEntry _ _ s
    · exact (kept_updateEntry _ _ s).trans (kept_markSeats _ _)
    · exact ((kept_updateEntry _ _ s).trans (kept_markSeats _ _)).trans (kept_raise ..)
theorem kept_checkAgreement (pick : Entry → Bool) (s : State) : Kept s (checkAgreement pick s) :=
  .foldl (fun s x => kept_checkEntry x s) _ s

/-! ## Losses, splits and admission -/

theorem kept_detach (id : Nat) (s : State) : Kept s (detach id s) := by
  unfold detach
  split
  · exact (kept_leaveList _ s).trans (kept_setCm _ _)
  · exact .refl s
theorem kept_loseEntry (id : Nat) (s : State) : Kept s (loseEntry id s) :=
  ((kept_detach id s).trans (kept_setAlarms _ _)).trans (kept_raise ..)
theorem kept_completeSplit (unit : Nat) (s : State) : Kept s (completeSplit unit s) := by
  unfold completeSplit
  exact (((kept_setCm s _).trans (kept_withAdvisory (kept_setJt _ _))).trans (kept_setRs _ _)).trans (kept_raise ..)
theorem kept_checkSplit (unit : Nat) (s : State) : Kept s (checkSplit unit s) := by
  unfold checkSplit
  split_ifs
  · exact kept_completeSplit unit s
  · exact .refl s
theorem kept_deleteDeparting (id unit : Nat) (s : State) : Kept s (deleteDeparting id unit s) :=
  ((kept_leaveList _ s).trans (kept_setCm _ _)).trans (kept_checkSplit unit _)
theorem kept_failSplit (unit : Nat) (s : State) : Kept s (failSplit unit s) := by
  unfold failSplit
  dsimp only
  split_ifs
  · exact .refl s
  · refine Kept.trans ?_ (kept_raise ..)
    refine Kept.trans ?_ (kept_setCm _ _)
    refine Kept.trans ?_ (kept_withAdvisory (kept_setJt _ _))
    refine Kept.trans ?_ (kept_dirtyBlocks _ _)
    exact .foldl (fun t x => (kept_updateEntry _ _ t).trans (kept_setEntryState _ _ _)) _ s
theorem kept_failSplits (s : State) : Kept s (failSplits s) := .foldl (fun t x => kept_failSplit x t) _ s
theorem kept_admitCoach (a : CallAnswer) (missed : Nat) (notices : List Notice) (s : State) :
    Kept s (admitCoach a missed notices s) := (kept_setCm s _).trans (kept_checkEntry _ _)
theorem kept_reportUnknownType (id type : Nat) (s : State) : Kept s (reportUnknownType id type s) := by
  unfold reportUnknownType
  split_ifs
  · exact kept_raise ..
  · exact .refl s
theorem kept_setSurvey (f : Survey → Survey) (s : State) : Kept s (setSurvey f s) := kept_setCm s _
theorem kept_surveyOn (s : State) : Kept s (surveyOn s) := kept_setSurvey _ s
theorem kept_refuseCall (watch : Bool) (cause : CloseCause) (code id : Nat) (data : List Byte) (s : State) :
    Kept s (refuseCall watch cause code id data s) := by
  unfold refuseCall
  split_ifs
  · exact .refl s
  · exact (kept_setSurvey _ s).trans (kept_raise ..)
theorem kept_handleCallAnswer (a : CallAnswer) (target : Nat) (watch : Bool) (s : State) :
    Kept s (handleCallAnswer a target watch s) := by
  have finish : ∀ u : State, Kept s u → ∀ code, Kept s (surveyOn (reportUnknownType a.id a.type
      (raise .consist code a.id (u.cm.hopByte a.id ++ u16 a.unit) u))) := fun u h code =>
    ((h.trans (kept_raise ..)).trans (kept_reportUnknownType _ _ _)).trans (kept_surveyOn _)
  unfold handleCallAnswer
  split
  · exact kept_refuseCall ..
  · split
    · split_ifs
      · exact kept_refuseCall ..
      · exact finish _ ((kept_setCm s _).trans (kept_admitCoach ..)) 2
    · split_ifs
      · exact kept_refuseCall ..
      · exact kept_refuseCall ..
      · exact finish _ (kept_admitCoach ..) 1
theorem kept_callUnanswered (watch : Bool) (s : State) : Kept s (callUnanswered watch s) := by
  unfold callUnanswered
  dsimp only
  split_ifs
  · exact .refl s
  · exact ((kept_setSurvey _ s).trans (kept_setSurvey _ _)).trans (kept_raise ..)
  · exact kept_setSurvey _ s
theorem kept_stopConsist (s : State) : Kept s (stopConsist s) := by
  have h : ∀ v : Cm, Kept s ((leaveList (fun _ => true) (failSplits s)).setCm v) := fun v =>
    ((kept_failSplits s).trans (kept_leaveList _ _)).trans (kept_setCm _ v)
  unfold stopConsist
  dsimp only
  refine Kept.trans ?_ (kept_raise ..)
  split_ifs
  · exact h _
  · exact (h _).trans (kept_setAlarms _ _)

/-! ## Figures, departure and arrival -/

theorem kept_setOdo (f : Odometer → Odometer) (s : State) : Kept s (setOdo f s) := kept_setJt s _
theorem kept_setPhase (p : Phase) (s : State) : Kept s (setPhase p s) := kept_setJt s _
theorem kept_formPositions (s : State) : Kept s (formPositions s) := (kept_setJt s _).trans (kept_markBlocks _ _)
theorem kept_formEta (s : State) : Kept s (formEta s) := by
  unfold formEta
  dsimp only
  split_ifs
  · exact kept_setOdo _ s
  · exact (kept_setOdo _ s).trans (kept_markHeaders _ _)
theorem kept_formFigures (s : State) : Kept s (formFigures s) := (kept_formPositions s).trans (kept_formEta _)
theorem kept_setNotice (n : JourneyNotice) (s : State) : Kept s (setNotice n s) := by
  unfold setNotice
  split_ifs
  · exact .refl s
  · exact (kept_withAdvisory (kept_setJt _ _)).trans (kept_markHeaders _ _)
theorem kept_purgeBanks (indices : List (Nat × Nat)) (s : State) : Kept s (purgeBanks indices s) :=
  (kept_setRs s _).trans (kept_markSeatsOf _ _)
theorem kept_switchBanks (code : Nat) (trigger departure : Option Nat) (s : State) :
    Kept s (switchBanks code trigger departure s) :=
  (((kept_setRs s _).trans (kept_raise ..)).trans (kept_checkAgreement _ _)).trans (kept_markSeats _ _)
theorem kept_departBanks (d : Nat) (s : State) : Kept s (departBanks d s) := by
  unfold departBanks
  dsimp only
  refine Kept.trans ?_ (kept_purgeBanks _ _)
  split
  · split_ifs
    · exact kept_switchBanks ..
    · exact kept_switchBanks ..
    · exact .refl s
  · exact .refl s
theorem kept_departureEvent (d : Nat) (s : State) : Kept s (departureEvent d s) :=
  ((kept_departBanks d s).trans (kept_failSplits _)).trans (kept_markPhase _)
theorem kept_expireNotices (keep : Coach → Notice → Bool) (s : State) : Kept s (expireNotices keep s) :=
  (kept_setCm s _).trans (kept_markHeaders _ _)
theorem kept_reportPassed (m : Nat) (s : State) : Kept s (reportPassed m s) := .foldl (fun _ _ => kept_raise ..) _ s
theorem kept_arrivalEvent (m : Nat) (s : State) : Kept s (arrivalEvent m s) :=
  ((kept_expireNotices _ s).trans (kept_markPhase _)).trans (kept_reportPassed m _)
theorem kept_goStale (s : State) : Kept s (goStale s) := (kept_setAlarms _ s).trans (kept_raise ..)
theorem kept_skip (s : State) : Kept s (skip s) := by
  unfold skip
  dsimp only
  split_ifs
  · exact (kept_setOdo _ s).trans (kept_goStale _)
  · exact kept_setOdo _ s
  · exact .refl s
theorem kept_calibrate (leg : Nat) (s : State) : Kept s (calibrate leg s) := by
  unfold calibrate
  dsimp only
  split_ifs
  · exact kept_setJt s _
  · exact (kept_setJt s _).trans (kept_raise ..)
theorem kept_endLeg (atNext : Bool) (s : State) : Kept s (endLeg atNext s) := by
  unfold endLeg
  split_ifs
  · exact kept_calibrate _ s
  · exact kept_skip s

end Sys2Proof.Machine
end

