-- ==== Sys2Proof/Laws/Lines.lean ====
section
/-! SUPPORT. What a line carried, against the tables of chapters 6 and 7; and the next stop of a route, against R8. -/

namespace Sys2Proof.Machine

/-- The classification of a line is the table of R163. -/
theorem Takings.classify_eq (g : Takings) (opens closes : Nat) (kind : Byte) (len : Nat) :
    g.classify opens closes kind.toNat len = resultOf opens closes kind len g := by
  obtain ⟨starts, violation, startAt, frame⟩ := g
  unfold Takings.classify resultOf
  by_cases h : 2 ≤ starts ∨ violation = true
  · simp [h]
  · by_cases z : starts = 0
    · simp_all
    · by_cases w : startAt < opens ∨ closes < startAt
      · simp only [not_or] at h
        simp [h, z, w, ← or_assoc]
      · simp only [not_or] at h w
        rcases frame with _ | _ | _ | ⟨k, p, _ | _⟩ <;> simp [h, z, w, BitVec.toNat_inj]

/-- The flags of a line after a result are those of the table of R177. -/
theorem LineFlags.after_eq (f : LineFlags) (r : LineResult) (ok : Bool) (h : ok = true → r = .valid) :
    f.after r ok = flagsWith f r ok := by
  cases r <;> cases ok <;> simp_all [LineFlags.after, flagsWith]

/-- A line part of a row is that of R188. -/
theorem Heard.part_eq (h : Heard) : h.part = partWith h.result h.payload := by
  unfold Heard.part partWith nodeAnswer
  split <;> rfl

/-- The first stop served from the head of a list on is the one before which every stop is cancelled. -/
theorem firstServed_eq {l : List Stop} {m n : Nat} {q : Stop} (h : m ≤ n) (at_ : l[n - m]? = some q)
    (served : q.cancelled = false) (skipped : ∀ i, m ≤ i → i < n → ∃ p, l[i - m]? = some p ∧ p.cancelled = true) :
    firstServed l m = some n := by
  induction l generalizing m with
  | nil => simp at at_
  | cons x rest ih =>
    obtain rfl | lt := Nat.eq_or_lt_of_le h
    · simp only [Nat.sub_self, List.getElem?_cons_zero, Option.some.injEq] at at_
      simp [firstServed, at_, served]
    · obtain ⟨y, hy, c⟩ := skipped m le_rfl lt
      simp only [Nat.sub_self, List.getElem?_cons_zero, Option.some.injEq] at hy
      have e (i : Nat) (g : m < i) : (x :: rest)[i - m]? = rest[i - (m + 1)]? := by
        rw [show i - m = i - (m + 1) + 1 by omega, List.getElem?_cons_succ]
      simp only [firstServed, hy, c, if_true]
      exact ih lt (e n lt ▸ at_) fun i a b => e i a ▸ skipped i (by omega) b

/-- The next stop from home index c is the first stop above c that is not cancelled (R8, R18). -/
theorem eff_eq {l : List Stop} {c n : Nat} {q : Stop} (h : c < n) (at_ : l[n]? = some q) (served : q.cancelled = false)
    (skipped : ∀ i, c < i → i < n → ∃ p, l[i]? = some p ∧ p.cancelled = true) : eff l (c + 1) = n := by
  have e (i : Nat) (g : c < i) : (l.drop (c + 1))[i - (c + 1)]? = l[i]? := by
    rw [List.getElem?_drop, show c + 1 + (i - (c + 1)) = i by omega]
  simp [eff, firstServed_eq h ((e n h).trans at_) served fun i a b => (skipped i a b).imp fun _ p => ⟨(e i a).trans p.1, p.2⟩]

end Sys2Proof.Machine
end

