-- ==== Sys2Proof/Laws/Link.lean ====
section
/-! SUPPORT. What the arrival of a request does on a free controller: the owning block's answer, with its reply being sent. -/

namespace Sys2Proof.Machine

variable (s : State)

@[simp] theorem State.withQueue_jt (q : List Queued) : (s.withQueue q).jt = s.jt := rfl
@[simp] theorem State.withQueue_cm (q : List Queued) : (s.withQueue q).cm = s.cm := rfl
@[simp] theorem State.withQueue_rs (q : List Queued) : (s.withQueue q).rs = s.rs := rfl
@[simp] theorem State.withQueue_dc (q : List Queued) : (s.withQueue q).dc = s.dc := rfl
@[simp] theorem State.withQueue_bc (q : List Queued) : (s.withQueue q).bc = s.bc := rfl
@[simp] theorem State.withQueue_sup (q : List Queued) : (s.withQueue q).sup = s.sup := rfl
@[simp] theorem State.withQueue_pending (q : List Queued) : (s.withQueue q).pending = s.pending := rfl
@[simp] theorem State.withQueue_clc (q : List Queued) : (s.withQueue q).clc = { s.clc with queue := q } := rfl

variable {s}

/-- The state in which the owning block takes a request that has arrived at a free controller. -/
def handling (kind tag : Nat) (c : Option Instr) (s : State) : State :=
  s.withQueue [{ kind := kind, tag := tag, command := c, state := .handling }]

/-- Between commands the record of advanced blocks is empty, and emptying it changes nothing. -/
theorem State.setDc_advanced {t : State} (d : t.dc.advanced = []) : t.setDc { t.dc with advanced := [] } = t := by
  rw [← d]; rfl

/-- An event of a controller that is not held is its operation, when no block has been advanced before or after. -/
theorem event_eq {f : State → State} (u : s.clc.ready ≠ .held) (d : s.dc.advanced = []) (e : (f s).dc.advanced = []) :
    event f s = f s := by
  simp only [event, u, if_false, State.setDc_advanced d, State.setDc_advanced e]

/-- The head is answered on a controller whose transmitter is idle or sends a report that the request raised. -/
theorem finishHead_handling {kind tag : Nat} {c : Option Instr} {r : ResultCode} {data : List Byte} {t : State}
    (u : t.clc.ready = .up) (l : t.clc.replies = []) :
    (finishHead r data (handling kind tag c t)).setDc { t.dc with advanced := [] } = answered kind tag c r data t := by
  by_cases x : t.clc.tx = .idle <;>
    simp [finishHead, handling, State.withQueue, addReply, answered, replyTo, Clc.transmit, Clc.takeNext, x, u, l,
      State.setClc, State.setDc]

/-- The arrival of a frame at a free controller (R201, R202): handled at once. -/
theorem event_arrive_free {kind tag : Nat} {c : Option Instr} (h : Free s) :
    event (arrive { kind := kind, tag := tag, command := c, state := .waiting }) s =
      let t := settle (answerOf { kind := kind, tag := tag, command := c, state := .waiting } (handling kind tag c s))
      t.setDc { t.dc with advanced := [] } := by
  obtain ⟨u, q, -, x, d⟩ := h
  have e : s.setDc { s.dc with advanced := [] } = s := by rw [← d]; rfl
  simp [event, arrive, u, q, x, e, beginHead, handling, State.withQueue, Config.maxRequests, Transmitter.replying,
    State.setClc]

/-- A request whose owning block answers at once, whatever the request queue holds. -/
theorem event_submit_now {kind tag : Nat} {c : Instr} {r : ResultCode} {data : List Byte} {t : State} (h : Free s)
    (k : requestKinds.contains kind = true) (a : ∀ q, act c (s.withQueue q) = .now (t.withQueue q) r data)
    (u : t.clc.ready = .up) (l : t.clc.replies = []) :
    event (submit kind tag c) s = answered kind tag (some c) r data t := by
  unfold submit
  rw [event_arrive_free h]
  have b := a [{ kind := kind, tag := tag, command := some c, state := .handling }]
  simp only [answerOf, k, Bool.not_true, Bool.false_eq_true, if_false, handling]
  rw [b]
  simp only [settle]
  rw [show (finishHead r data (t.withQueue [{ kind := kind, tag := tag, command := some c, state := .handling }])).dc = t.dc
    by simp]
  exact finishHead_handling u l

/-- A request that its owning block refuses, whatever the request queue holds: nothing else changes (R204). -/
theorem event_submit_refused {kind tag : Nat} {c : Instr} {r : ResultCode} {data : List Byte} (h : Free s)
    (k : requestKinds.contains kind = true) (a : ∀ q, act c (s.withQueue q) = refuse (s.withQueue q) r data) :
    event (submit kind tag c) s = answered kind tag (some c) r data s :=
  event_submit_now h k a h.1 h.2.2.1

/-- An abort leaves the request queue out of account. -/
theorem abortIf_withQueue (test : Nat → BlockKind → Bool) (q : List Queued) :
    abortIf test (s.withQueue q) = (abortIf test s).withQueue q := by
  have a : abortFrame (s.withQueue q) = (abortFrame s).withQueue q := by
    unfold abortFrame; rw [State.withQueue_bc]; split <;> rfl
  unfold abortIf; rw [State.withQueue_bc]; split
  · split_ifs
    · exact a
    · rfl
  · rfl

/-- Marking leaves the request queue out of account. -/
theorem markBlocks_withQueue (pick : Entry → BlockKind → Bool) (q : List Queued) :
    markBlocks pick (s.withQueue q) = (markBlocks pick s).withQueue q := by
  unfold markBlocks revise
  dsimp only
  rw [← abortIf_withQueue]
  rfl

/-! ## Characters on the two pins -/

/-- A character takes ten bit times (R195). -/
@[simp] theorem characterBits_length (b : Byte) : (characterBits b).length = 10 := by simp [characterBits, dataBits]

/-- The bit times of a frame (R195, R206). -/
@[simp] theorem Transmitter.bits_length (t : Transmitter) : t.bits.length = 10 * t.frame.length := by
  simp [Transmitter.bits, List.length_flatMap, Nat.mul_comm]

/-- An IDLE transmitter holds LTXD at the level of a stop bit (R195). -/
@[simp] theorem Transmitter.ltxd_idle (i : Nat) : Transmitter.idle.ltxd i = .stop := by
  simp [Transmitter.ltxd, Transmitter.bits, Transmitter.frame]

end Sys2Proof.Machine
end

