-- ==== Sys2Proof/Laws/Operands.lean ====
section
/-! SUPPORT. Reading back what a payload carries: one lemma for each kind of field, for a list of records and for a stop
record (R224, R227). -/

namespace Sys2Proof.Machine

/-- A one-byte field is read back. -/
theorem takeField_u8 {n : Nat} (h : n < 256) (p : List Byte) : takeField 1 (u8 n ++ p) = some (n, p) := by
  simp [u8, takeField, numberOf, Nat.mod_eq_of_lt h]

/-- A two-byte field is read back. -/
theorem takeField_u16 {n : Nat} (h : n < 65536) (p : List Byte) : takeField 2 (u16 n ++ p) = some (n, p) := by
  simp [u16, takeField, numberOf]; omega

/-- A four-byte field is read back. -/
theorem takeField_u32 {n : Nat} (h : n < 4294967296) (p : List Byte) : takeField 4 (u32 n ++ p) = some (n, p) := by
  simp [u32, takeField, numberOf]; omega

/-- A text is read back. -/
theorem takeText_text {t : Text} (h : t.length < 256) (p : List Byte) : takeText (text t ++ p) = some (t, p) := by
  simp [text, u8, takeText, Nat.mod_eq_of_lt h]

/-- Records are read back one after another. -/
theorem takeMany_flatMap {α : Type} {f : List Byte → Option (α × List Byte)} {g : α → List Byte} {l : List α}
    (h : ∀ x ∈ l, ∀ p, f (g x ++ p) = some (x, p)) (p : List Byte) :
    takeMany f l.length (l.flatMap g ++ p) = some (l, p) := by
  induction l with
  | nil => rfl
  | cons x l ih =>
    have q := h x (by simp) (l.flatMap g ++ p)
    simp only [List.flatMap_cons, List.length_cons, takeMany, List.append_assoc, q]
    simp [ih fun y hy => h y (by simp [hy])]

/-- A list is read back. -/
theorem listOf_counted {α : Type} {f : List Byte → Option (α × List Byte)} {g : α → List Byte} {l : List α}
    (h : ∀ x ∈ l, ∀ p, f (g x ++ p) = some (x, p)) (n : l.length < 256) : listOf f (counted g l) = some l := by
  have q := takeMany_flatMap h []
  simp only [List.append_nil] at q
  simp [listOf, counted, u8, Nat.mod_eq_of_lt n, q]

/-- A well-formed stop record is read back. -/
theorem takeStop_stopRecord {f : StopFields} (h : f.wf = true) (p : List Byte) :
    takeStop (stopRecord f ++ p) = some (f, p) := by
  simp only [StopFields.wf, fits8, fits16, fits32, fitsText, Bool.and_eq_true, decide_eq_true_eq] at h
  obtain ⟨⟨⟨⟨⟨⟨h1, h2⟩, h3⟩, h4⟩, h5⟩, h6⟩, h7⟩ := h
  simp [takeStop, stopRecord, takeField_u16 h1, takeText_text h2, takeFields, takeField_u32 h3, takeField_u8 h4,
    takeField_u16 h5, takeField_u16 h6, takeField_u16 h7]

end Sys2Proof.Machine
end

