-- ==== Sys2Proof/Laws/Tables.lean ====
section
/-! SUPPORT. Reading after writing: route slots, banks, node status tables, and that the bank edits keep a seat's form. -/

namespace Sys2Proof.Machine

/-! ## Route slots -/

theorem Slots.get_set_same (q : Slots) {n : Nat} (v : RouteSlot) (h : n ≤ 3) : (q.set n v).get n = v := by
  obtain rfl | rfl | rfl | rfl : n = 0 ∨ n = 1 ∨ n = 2 ∨ n = 3 := by omega
  all_goals rfl

theorem Slots.get_set_other (q : Slots) {n m : Nat} (v : RouteSlot) (h : m ≠ n) : (q.set n v).get m = q.get m := by
  unfold Slots.get Slots.set
  split <;> first | rfl | (split <;> first | rfl | exact absurd rfl h)

/-- The numbers above 3 name no slot (R1). -/
theorem Slots.get_above (q : Slots) {n : Nat} (h : 3 < n) : q.get n = .absent := by
  unfold Slots.get
  split <;> first | rfl | omega

/-! ## Banks -/

@[simp] theorem BankNo.other_other (n : BankNo) : n.other.other = n := by cases n <;> rfl
@[simp] theorem Rs.setBank_live (r : Rs) (n : BankNo) (v : List Vehicle) : (r.setBank n v).live = r.live := by
  cases n <;> rfl
@[simp] theorem Rs.setBank_staging (r : Rs) (n : BankNo) (v : List Vehicle) : (r.setBank n v).staging = r.staging := by
  cases n <;> rfl
@[simp] theorem Rs.setBank_diverged (r : Rs) (n : BankNo) (v : List Vehicle) : (r.setBank n v).diverged = r.diverged := by
  cases n <;> rfl
@[simp] theorem Rs.setBank_recorded (r : Rs) (n : BankNo) (v : List Vehicle) : (r.setBank n v).recorded = r.recorded := by
  cases n <;> rfl
@[simp] theorem Rs.bank_setBank_same (r : Rs) (n : BankNo) (v : List Vehicle) : (r.setBank n v).bank n = v := by
  cases n <;> rfl
@[simp] theorem Rs.bank_setBank_other (r : Rs) (n : BankNo) (v : List Vehicle) :
    (r.setBank n v).bank n.other = r.bank n.other := by cases n <;> rfl
@[simp] theorem Rs.liveBank_setBank_live (r : Rs) (v : List Vehicle) : (r.setBank r.live v).liveBank = v := by
  simp [Rs.liveBank]
@[simp] theorem Rs.stagingBank_setBank_live (r : Rs) (v : List Vehicle) :
    (r.setBank r.live v).stagingBank = r.stagingBank := by simp [Rs.stagingBank]
@[simp] theorem Rs.stagingBank_setBank_other (r : Rs) (v : List Vehicle) :
    (r.setBank r.live.other v).stagingBank = v := by simp [Rs.stagingBank]
@[simp] theorem Rs.liveBank_setBank_other (r : Rs) (v : List Vehicle) :
    (r.setBank r.live.other v).liveBank = r.liveBank := by
  have h := Rs.bank_setBank_other r r.live.other v
  rw [BankNo.other_other] at h
  simp [Rs.liveBank, h]

/-! ## Seats -/

/-- Leaving leading segments out keeps a seat's form (R89, R110). -/
theorem SeatOk.drop {l : List Segment} (h : SeatOk l) (x : Nat) : SeatOk (purgeSeat x l) := by
  have s : (purgeSeat x l).Sublist l := List.dropWhile_sublist _
  exact ⟨s.length_le.trans h.1, fun g m => h.2.1 g (s.subset m), h.2.2.sublist s⟩

/-- Leaving records out keeps a bank's form (R89, R112). -/
theorem BankOk.filter {b : List Vehicle} (h : BankOk b) (keep : Vehicle → Bool) : BankOk (b.filter keep) := by
  have s : (b.filter keep).Sublist b := List.filter_sublist
  refine ⟨s.length_le.trans h.1, (s.map _).nodup h.2.1, le_trans ?_ h.2.2.1, fun v m => h.2.2.2 v (s.subset m)⟩
  exact (s.map Vehicle.count).sum_le_sum fun _ _ => Nat.zero_le _

/-! ## Node status tables -/

@[simp] theorem Sup.table_setTable_same (u : Sup) (n : Nat) (t : NodeTable) : (u.setTable n t).table n = t := by
  unfold Sup.table Sup.setTable
  split_ifs <;> rfl
@[simp] theorem Sup.table_setTable_next (u : Sup) (n : Nat) (t : NodeTable) :
    (u.setTable n t).table (n + 1) = u.table (n + 1) := by
  unfold Sup.table Sup.setTable
  split_ifs <;> first | rfl | omega

end Sys2Proof.Machine
end

