-- ==== Sys2Proof/Tests/Slice0.lean ====
section
/-! SUPPORT. Tests: ill-formed commands that WellFormed refuses, single commands on small states at the boundaries the
rules name (expected values from the rules, not from the model), and for every statement of Obligations.lean with
hypotheses a named witness that meets them, with one for each of its clauses. -/

namespace Sys2Proof.Tests
open Sys2Proof Sys2Proof.Machine

-- One theorem is checked after another: many kernel evaluations waiting side by side each hold a thread's stack.
set_option Elab.async false

/-! ## Small states -/

/-- The state a command leads to. -/
def went (c : Instr) (s : State) : State :=
  match exec c s with
  | .next t => t
  | _ => s

/-- The result and the data of the first reply that a command leaves in the reply list. -/
def answer (c : Instr) (s : State) : Option (ResultCode × List Byte) :=
  (went c s).clc.replies.head?.map fun r => (r.result, r.data)

/-- After power-on, once READY has been raised and sent. -/
def up : State := State.reset.setClc { State.reset.clc with ready := .up }

/-- A report that the transmitter is sending. -/
def sent : Report := { cls := .ready, code := 1, subject := 0, data := [0, 1] }

/-- A state whose transmitter is sending a report. -/
def busy (s : State) : State := s.setClc { s.clc with tx := .report sent false 0 }

/-- A stop record. -/
def stopAt (code leg column : Nat) : Stop :=
  { code := code, name := [0x53], leg := leg, side := .left, approach := 800, announce := 200, column := column,
    cancelled := false }

/-- A route of three stops. -/
def route (state : SlotState) (stops : List Stop) : RouteSlot :=
  { state := state, code := 7, dest := [0x44], stops := stops }

/-- Three stops with the codes 1, 2 and 3. -/
def three : List Stop := [stopAt 1 0 10, stopAt 2 2500 20, stopAt 3 2500 30]

/-- A state with one route slot set. -/
def withSlot (n : Nat) (r : RouteSlot) (s : State) : State := s.setJt { s.jt with slots := s.jt.slots.set n r }

/-- A portion table entry. -/
def portion (unit slot : Nat) (home : Bool) (partAt : Option Nat) : Portion :=
  { unit := unit, slot := slot, delta := 0, partAt := partAt, state := .attached, home := home, assignedAt := 0,
    pos := some 10 }

/-- A journey of units 1 (home, slot 0) and 2 (slot 1, parting at stop 1) in a phase. -/
def journey (p : Phase) : State :=
  let s := withSlot 0 (route .inUse three) (withSlot 1 (route .inUse three) up)
  s.setJt { s.jt with portions := [portion 1 0 true none, portion 2 1 false (some 1)], phase := p }

/-- A list entry with a valid HEADER and a valid SEAT0 block, both clean. -/
def entry (id unit : Nat) (state : EntryState) (missed : Nat) : Entry :=
  { coach := { id := id, unit := unit, number := 7, type := 20, orient := .forward, missed := missed,
               unitDiffers := false, notices := [] }
    state := state, pairCount := 0, evenHeld := false, evenValid := false, oddValid := false, pairHop := .none,
    evidenceHop := none, evidenceCount := 0, agree := .unitUnassigned, refresh := .map
    blocks := .ofKinds fun k => { valid := k = .header || k = .seat0, gen := 5, dirty := false } }

/-- A type record of two seats. -/
def twoSeats : TypeRecord := { code := 20, seats := 2, labels := [[0x31], [0x32]] }

/-- The consist with a list, type 20 defined and a survey state. -/
def consist (l : List Entry) (st : SurveyState) (s : State) : State :=
  s.setCm { s.cm with list := l, types := [twoSeats], survey := { s.cm.survey with state := st, attempts := 2 } }

/-- A segment of the backbone cycle on a state. -/
def cycle (x : CycleSegment) (counter : Nat) (s : State) : State :=
  s.setBc { s.bc with state := .running, segment := x, counter := counter }

/-- Entry 1 ACTIVE and entry 2 in PROBATION, the survey SURVEYING, at a segment of cycle 1. -/
def train (x : CycleSegment) : State :=
  cycle x 1 (consist [entry 1 1 .active 2, entry 2 2 .probation 31] .surveying up)

/-- A CONTENT frame of a header that has ended at 100 microseconds with a check. -/
def frame (dest : Nat) : ContentFrame :=
  { dest := dest, kind := .header, gen := 5, len := 18, sent := [], state := .completed 0x1234, endAt := 100 }

/-- An ANSWER payload of an identity at a hop: forward, type 20, a unit, number 7, not restarted, echoing the header of
generation 5 with check 0x1234. -/
def answerOf (id hop unit : Nat) : List Byte :=
  u32 id ++ u8 hop ++ u8 0 ++ u8 20 ++ u16 unit ++ u16 7 ++ u8 0 ++ u8 BlockKind.header.code ++ u8 5 ++ u16 0x1234 ++ u8 0

/-- One good frame taken on a line. -/
def heard (kind : Byte) (p : List Byte) (at_ : Nat) : Takings :=
  { starts := 1, violation := false, startAt := at_, frame := some (.complete kind p true) }

/-- A seat record of vehicle 1 in the live bank: two seats, the first with a segment of 1 to 2. -/
def vehicle : Vehicle :=
  { id := 1, type := 20, slot := 0, seats := [[{ fromIx := 1, toIx := 2, kind := .reserved, label := [] }], []] }

/-- A state with a live bank. -/
def stocked (s : State) : State := s.setRs { s.rs with bank0 := [vehicle] }

/-- A state with a staging state. -/
def staged (x : Staging) (s : State) : State := s.setRs { s.rs with staging := x }

/-- A notice. -/
def notice (p : Priority) (e : Expiry) : Machine.Notice := { text := [0x4E], priority := p, expiry := e }

/-! ## WellFormed refuses an ill-formed term for each check -/

/-- A well-formed stop record. -/
def goodStop : StopFields :=
  { code := 1, name := [0x53], leg := 0, side := 0, approach := 0, announce := 0, column := 0 }

/-- Every term of a list is refused. -/
def allRefused (l : List Instr) : Bool := l.all fun c => !c.wf

theorem test_wf_link : allRefused
    [.describePart 256 1, .describePart 1 65536, .linkReset 256, .partReset 256, .setReporting 256 0 0,
     .setReporting 1 256 0, .setReporting 1 0 256, .ackAlarms 256 0, .ackAlarms 1 256, .summary 256,
     .unknownRequestKind 7 256, .unknownRequestKind 0x60 1, .unknownRequestKind 0x06 1] = true := by decide +kernel

theorem test_wf_routes : allRefused
    [.openRoute 256 0 0 [], .openRoute 1 256 0 [], .openRoute 1 0 65536 [], .openRoute 1 0 0 (List.replicate 256 0x41),
     .appendStops 256 0 [], .appendStops 1 256 [], .appendStops 1 0 (List.replicate 256 goodStop),
     .appendStops 1 0 (List.replicate 43 goodStop), .appendStops 1 0 [{ goodStop with code := 65536 }],
     .appendStops 1 0 [{ goodStop with name := List.replicate 256 0x41 }],
     .appendStops 1 0 [{ goodStop with leg := 4294967296 }], .appendStops 1 0 [{ goodStop with side := 256 }],
     .appendStops 1 0 [{ goodStop with approach := 65536 }], .appendStops 1 0 [{ goodStop with announce := 65536 }],
     .appendStops 1 0 [{ goodStop with column := 65536 }], .closeRoute 256 0, .closeRoute 1 256, .dropRoute 256 0,
     .dropRoute 1 256, .readRoute 256 0 0 1, .readRoute 1 256 0 1, .readRoute 1 0 256 1, .readRoute 1 0 0 256,
     .cancelStop 256 0 0, .cancelStop 1 256 0, .cancelStop 1 0 256, .restoreStop 256 0 0, .restoreStop 1 256 0,
     .restoreStop 1 0 256] = true := by decide +kernel

theorem test_wf_journey : allRefused
    [.assignUnitHome 256 1 0 0 0, .assignUnitHome 1 65536 0 0 0, .assignUnitHome 1 1 256 0 0,
     .assignUnitHome 1 1 0 256 0, .assignUnitHome 1 1 0 0 256, .assignUnit 256 1 0 0 0, .assignUnit 1 65536 0 0 0,
     .assignUnit 1 1 256 0 0, .assignUnit 1 1 0 256 0, .assignUnit 1 1 0 0 256, .endJourney 256, .departed 256,
     .arrived 256 1, .arrived 1 65536, .setDirection 256 0, .setDirection 1 256, .setTime 256 0, .setTime 1 65536,
     .configureOdometer 256 powerOnConfig, .configureOdometer 1 { powerOnConfig with pulseLen := 4294967296 },
     .configureOdometer 1 { powerOnConfig with shift := 256 },
     .configureOdometer 1 { powerOnConfig with vmin := 4294967296 },
     .configureOdometer 1 { powerOnConfig with creep := 4294967296 },
     .configureOdometer 1 { powerOnConfig with correction := 256 },
     .configureOdometer 1 { powerOnConfig with offset := 4294967296 },
     .configureOdometer 1 { powerOnConfig with minLeg := 4294967296 },
     .configureOdometer 1 { powerOnConfig with skipLimit := 256 }, .positionFix 256 0, .positionFix 1 4294967296,
     .readJourney 256] = true := by decide +kernel

theorem test_wf_consist : allRefused
    [.configureSurvey 256 1 1, .configureSurvey 1 256 1, .configureSurvey 1 1 256, .startBackbone 256,
     .stopBackbone 256, .survey 256, .split 256 1, .split 1 65536, .removeEntry 256 1, .removeEntry 1 4294967296,
     .readConsist 256, .defineType 256 1 1 [[0x41]], .defineType 1 256 1 [[0x41]], .defineType 1 1 256 [[0x41]],
     .defineType 1 1 1 (List.replicate 256 []), .defineType 1 1 1 [List.replicate 256 0x41],
     .defineType 1 1 1 (List.replicate 128 (List.replicate 4 0x41)), .deleteType 256 1, .deleteType 1 256,
     .readType 256 1 1, .readType 1 256 1, .readType 1 1 65536] = true := by decide +kernel

theorem test_wf_banks : allRefused
    [.declareVehicle 256 0 1 1 0, .declareVehicle 1 256 1 1 0, .declareVehicle 1 0 4294967296 1 0,
     .declareVehicle 1 0 1 256 0, .declareVehicle 1 0 1 1 256, .removeVehicle 256 0 1, .removeVehicle 1 256 1,
     .removeVehicle 1 0 4294967296, .addSegment 256 0 1 0 0 1 1 [], .addSegment 1 256 1 0 0 1 1 [],
     .addSegment 1 0 4294967296 0 0 1 1 [], .addSegment 1 0 1 256 0 1 1 [], .addSegment 1 0 1 0 256 1 1 [],
     .addSegment 1 0 1 0 0 256 1 [], .addSegment 1 0 1 0 0 1 256 [], .addSegment 1 0 1 0 0 1 1 (List.replicate 256 0x41),
     .dropSegment 256 0 1 0 0, .dropSegment 1 256 1 0 0, .dropSegment 1 0 4294967296 0 0, .dropSegment 1 0 1 256 0,
     .dropSegment 1 0 1 0 256, .clearSeat 256 0 1 0, .clearSeat 1 256 1 0, .clearSeat 1 0 4294967296 0,
     .clearSeat 1 0 1 256, .readSeat 256 0 1 0, .readSeat 1 256 1 0, .readSeat 1 0 4294967296 0, .readSeat 1 0 1 256,
     .readBanks 256, .openStagingEmpty 256, .openStagingCopy 256, .armStaging 256 0, .armStaging 1 256,
     .armStaging 1 0xFF, .armStagingImmediate 256, .disarmStaging 256, .abandonStaging 256] = true := by decide +kernel

theorem test_wf_displays_and_lines : allRefused
    [.refreshCoach 256 0 1, .refreshCoach 1 256 1, .refreshCoach 1 0 4294967296, .pushNotice 256 0 1 [] 0 0 0,
     .pushNotice 1 256 1 [] 0 0 0, .pushNotice 1 0 4294967296 [] 0 0 0,
     .pushNotice 1 0 1 (List.replicate 256 0x41) 0 0 0, .pushNotice 1 0 1 [] 256 0 0, .pushNotice 1 0 1 [] 0 256 0,
     .pushNotice 1 0 1 [] 0 0 65536, .popNotice 256 1, .popNotice 1 4294967296, .clearNotices 256 0 1,
     .clearNotices 1 256 1, .clearNotices 1 0 4294967296, .setRotationEntry 256 0 0 1 0,
     .setRotationEntry 1 256 0 1 0, .setRotationEntry 1 0 256 1 0, .setRotationEntry 1 0 0 256 0,
     .setRotationEntry 1 0 0 1 256, .setRotationStart 256 0, .setRotationStart 1 256, .readRotation 256,
     .readDisplay 256 1, .readDisplay 1 4294967296, .readBackbone 256, .readLineFlags 256, .clearLineFlags 256 0,
     .clearLineFlags 1 65536, .lockTable 256 0, .lockTable 1 256, .unlockTable 256 0, .unlockTable 1 256,
     .setCapture 256 0, .setCapture 1 256, .readTable 256 0, .readTable 1 256,
     .backboneFrameReceived .a 3000 []] = true := by decide +kernel

/-- Well-formed terms at the greatest values of their fields are accepted. -/
theorem test_wf_accepts : [Instr.describePart 255 65535, .unknownRequestKind 0x5F 255, .assignUnit 255 65535 255 255 255,
    .positionFix 255 4294967295, .armStaging 255 254, .appendStops 0 0 (List.replicate 42 goodStop),
    .backboneFrameReceived .b 2999 []].all Instr.wf = true := by decide +kernel

/-! ## Single commands at the boundaries of their rules -/

/-- R230: the CRC-16 of the nine bytes 31 to 39 is 29B1. -/
theorem test_crc16 : crc16 [0x31, 0x32, 0x33, 0x34, 0x35, 0x36, 0x37, 0x38, 0x39] = 0x29B1 := by decide +kernel

/-- The table gives no bits, so no word spells a command, and a queue is as before. -/
theorem test_decode : decodeTableWord 8 0x06 = none ∧ State.reset.withFetchWord 8 0x06 = State.reset := by
  decide +kernel

/-- R3: slot 3 and a destination of 24 are taken; slot 4, lengths 0 and 25, and byte 1F are refused. -/
theorem test_openRoute : [(3, List.replicate 24 0x41), (4, [0x41]), (0, []), (0, List.replicate 25 0x41), (0, [0x1F])].map
      (fun x => answer (.openRoute 1 x.1 9 x.2) up)
    = [some (.done, []), some (.badField, []), some (.badField, []), some (.badField, []), some (.badField, [])] := by
  decide +kernel

/-- R3: EDIT is WRONG_STATE, IN_USE is IN_USE. -/
theorem test_openRoute_states : [SlotState.edit, .inUse, .ready].map
      (fun x => answer (.openRoute 1 0 9 [0x41]) (withSlot 0 (route x three) up))
    = [some (.wrongState, []), some (.inUse, []), some (.done, [])] := by decide +kernel

/-- R4: a seventh record is refused; six are taken; the bad record is named; 41 stops are NO_SPACE. -/
theorem test_appendStops :
    [answer (.appendStops 1 0 (List.replicate 7 goodStop)) (withSlot 0 (route .edit []) up),
     answer (.appendStops 1 0 (List.replicate 6 goodStop)) (withSlot 0 (route .edit []) up),
     answer (.appendStops 1 0 [goodStop, { goodStop with column := 1024 }]) (withSlot 0 (route .edit []) up),
     answer (.appendStops 1 0 [goodStop]) (withSlot 0 (route .edit (List.replicate 40 (stopAt 1 0 1))) up)]
    = [some (.badField, []), some (.done, [6]), some (.badField, [1]), some (.noSpace, [])] := by decide +kernel

/-- R5: a first leg of 100 fails check 1 at index 0, a second leg of 99 at index 1, an equal column check 4, an equal code
check 5, an announce distance above the approach distance check 3. -/
theorem test_closeRoute : [[stopAt 1 100 1, stopAt 2 100 2], [stopAt 1 0 1, stopAt 2 99 2], [stopAt 1 0 2, stopAt 2 100 2],
      [stopAt 1 0 1, stopAt 1 100 2], [stopAt 1 0 1, { stopAt 2 100 2 with announce := 801 }],
      [stopAt 1 0 1, stopAt 2 100 2]].map (fun x => answer (.closeRoute 1 0) (withSlot 0 (route .edit x) up))
    = [some (.badField, [0, 1]), some (.badField, [1, 1]), some (.badField, [1, 4]), some (.badField, [1, 5]),
       some (.badField, [1, 3]), some (.done, [2])] := by decide +kernel

/-- R6, R7: a READY slot is dropped; an EMPTY one is NOT_FOUND to both. -/
theorem test_dropRoute_readRoute : [answer (.dropRoute 1 0) (withSlot 0 (route .ready three) up), answer (.dropRoute 1 0) up,
      answer (.readRoute 1 0 0 1) up, answer (.readRoute 1 0 3 1) (withSlot 0 (route .ready three) up)]
    = [some (.done, []), some (.notFound, []), some (.notFound, []), some (.outOfRange, [])] := by decide +kernel

/-- R10, R11: the last stop of a route is not cancelled, no stop stands at the stop count, the middle stop of a route not in
use is cancelled in 1 route, and a stop not cancelled is not restored. -/
theorem test_cancelStop : [answer (.cancelStop 1 0 2) (journey (.atStop 0)),
      answer (.cancelStop 1 0 3) (journey (.atStop 0)),
      answer (.cancelStop 1 2 1) (withSlot 2 (route .ready three) (journey (.atStop 0))),
      answer (.restoreStop 1 2 1) (withSlot 2 (route .ready three) (journey (.atStop 0)))]
    = [some (.wrongState, []), some (.outOfRange, []), some (.done, [1]), some (.wrongState, [])] := by decide +kernel

/-- R22: ARRIVED at the next stop skips 0, at the stop after it 1 (of code 3, the last: TERMINATED). -/
theorem test_arrived : [answer (.arrived 1 2) (journey (.running 0)), answer (.arrived 1 3) (journey (.running 0)),
      answer (.arrived 1 1) (journey (.running 0)), answer (.arrived 1 2) (journey (.atStop 0))]
    = [some (.done, [1, 0]), some (.done, [2, 1]), some (.notFound, []), some (.wrongState, [])]
    ∧ (went (.arrived 1 3) (journey (.running 0))).jt.phase = .terminated 2 := by decide +kernel

/-- R49: with the limit 500, a fix 500 away is taken whole and one 501 away moves D by 500. -/
theorem test_positionFix : [answer (.positionFix 1 500) (journey (.running 0)),
      answer (.positionFix 1 501) (journey (.running 0)), answer (.positionFix 1 0) (journey (.atStop 0))]
    = [some (.done, [0, 0, 0x01, 0xF4, 0]), some (.done, [0, 0, 0x01, 0xF4, 1]), some (.wrongState, [])] := by decide +kernel

/-- R34 to R37: 100 pulses of 30,000 micrometres are 3 m; the sample 30,000 mm/s moves v from 0 by an eighth. -/
theorem test_window :
    let s := journey (.running 0)
    let t := went .odometerWindowExpiry (s.setJt { s.jt with odo := { s.jt.odo with pulses := 100 } })
    t.jt.odo.dist = 3 ∧ t.jt.odo.rem = 0 ∧ t.jt.odo.speed = 3750 ∧ t.jt.odo.pulses = 0 := by decide +kernel

/-- R40: from 23:59 the minute goes to 0. -/
theorem test_minute : (went .minuteTimerExpiry (up.setJt { up.jt with minute := 1439 })).jt.minute = 0 := by decide +kernel

/-- R57, R225: the least and greatest values, and the position of the bad one. -/
theorem test_configureSurvey : [(0, 1), (1, 0), (31, 15), (32, 15), (31, 16)].map
      (fun x => answer (.configureSurvey 1 x.1 x.2) up)
    = [some (.badField, [1]), some (.badField, [2]), some (.done, []), some (.badField, [1]), some (.badField, [2])] := by
  decide +kernel

/-- R77, R79: unit 2 parts with one entry missed twice (not complete), and with one missed three times (complete). -/
theorem test_split : [2, 3].map (fun m => answer (.split 1 2)
      (consist [entry 1 1 .active 0, entry 2 2 .active m] .surveying (journey (.atStop 0))))
    = [some (.done, [1, 0]), some (.done, [1, 1])] := by decide +kernel

/-- R92: from not below to, to above the last index 2, an overlap, and a free place before and after. -/
theorem test_addSegment : [(1, 1), (1, 3), (0, 2), (0, 1)].map
      (fun x => answer (.addSegment 1 0 1 0 x.1 x.2 1 []) (stocked (withSlot 0 (route .ready three) up)))
    = [some (.outOfRange, []), some (.outOfRange, []), some (.overlap, [1, 2]), some (.done, [0, 0, 0, 2])] := by
  decide +kernel

/-- R101: on a route of three stops the trigger 1 is taken at stop 0 and at stop 1, not while running from 1; 2 is the last. -/
theorem test_armStaging : [(Phase.atStop 0, 1), (.atStop 1, 1), (.running 1, 1), (.atStop 0, 2), (.atStop 0, 40)].map
      (fun x => answer (.armStaging 1 x.2) (staged .openEmpty (journey x.1)))
    = [some (.done, []), some (.done, []), some (.outOfRange, []), some (.outOfRange, []), some (.badField, [])] := by
  decide +kernel

/-- R135, R136: 64 characters and index 39 are taken, 65 and 40 are not; the top notice is popped with its fields. -/
theorem test_notices : [answer (.pushNotice 1 0 1 (List.replicate 64 0x41) 0 1 39) (train .gap),
      answer (.pushNotice 1 0 1 (List.replicate 65 0x41) 0 1 39) (train .gap), answer (.pushNotice 1 0 1 [0x41] 0 1 40) (train .gap),
      answer (.pushNotice 1 0 1 [0x41] 0 2 0) (train .gap), answer (.popNotice 1 1) (train .gap)]
    = [some (.done, [1]), some (.badField, []), some (.badField, []), some (.badField, []), some (.notFound, [])] := by
  decide +kernel

/-- R225: the masks of the five flags of both lines and MISMATCH are taken, bit 13 is not. -/
theorem test_clearLineFlags : [0x9F1F, 0x2000].map (fun m => answer (.clearLineFlags 1 m) up)
    = [some (.done, [0, 0]), some (.badField, [1])] := by decide +kernel

/-- R154: the beacon of the first cycle of a START BACKBONE on a fresh controller: cycle 0, NEXT_STOP, HEAD_FIRST,
NO_JOURNEY with index 0, time 0 that is not valid. -/
theorem test_startBackbone : (went (.startBackbone 1) up).bc.beacon = [0, 1, 0, 0, 0, 0, 0, 0] := by decide +kernel

/-- R71: the third miss makes an ACTIVE entry MUTE; the 32nd takes a PROBATION entry off the list. -/
theorem test_misses : (went .coachSlotEnd ((train (.slot 1)).setBc { (train (.slot 1)).bc with frame := some (frame 1) })).cm.list.map
      (·.state) = [.mute, .probation]
    ∧ (went .coachSlotEnd ((train (.slot 2)).setBc { (train (.slot 2)).bc with frame := some (frame 2) })).cm.list.map
      (·.coach.id) = [1] := by decide +kernel

/-- R196, R203: the link frame of SUMMARY with tag 5, byte after byte, is answered. -/
theorem test_link_frame : ((frameBytes 0x06 5 []).foldl (fun s b => went (.linkCharacterReceived (.byte b)) s) up).clc.replies.map
      (fun r => (r.kind, r.tag, r.result)) = [(0x86, 5, .done)] := by decide +kernel

/-- R195: the sync byte 0xB6 on the link, its bits from the least significant, and what is received of it and of a line held
at the start-bit level. -/
theorem test_character : characterBits 0xB6 = [.start, .data false, .data true, .data true, .data false, .data true,
      .data true, .data false, .data true, .stop]
    ∧ received [false, true, true, false, true, true, false, true] true = .byte 0xB6
    ∧ received (List.replicate 8 false) false = .framingError := by decide +kernel

/-- R122, R125, R229: RUNNING from 0 to 1 with D at 1,250 of 2,500 m, the HEADER and MAP of a coach of the home portion. -/
theorem test_content_blocks :
    let e := entry 1 1 .active 0
    let j := consist [e] .surveying (journey (.running 0))
    let s := j.setJt { j.jt with odo := { j.jt.odo with dist := 1250 } }
    let t := went .odometerWindowExpiry s
    contentPayload t 1 .header 5 = [0, 0, 0, 1, 1, 5, 0, 7, 1, 0x44, 1, 2, 0, 0xFF, 0xFF, 0, 0, 0, 0xFF, 0]
    ∧ contentPayload t 1 .map 5 = [0, 0, 0, 1, 13, 5, 3, 0, 0, 15, 0, 10, 0, 0, 20, 0, 0, 30, 0] := by decide +kernel

/-- A call window with hop 7 called, at a moment. -/
def calling (t : Nat) : State :=
  (train .call).setBc { (train .call).bc with call := some { target := 7, watch := false }, clock := t }

/-- R148, R149, R167, R228: the CALL frame for hop 7 on both lines, its CRC reckoned by hand from R230. -/
theorem test_call_frame : [Line.a, .b].map (calling 32).bc.sends
    = List.replicate 2 [.start, .data 1, .data 3, .data 1, .data 7, .data 0xD6, .data 0x1A, .stop] := by decide +kernel

/-- R154, R228: the BEACON frame of cycle 0 with page NEXT_STOP and no journey. -/
theorem test_beacon_frame :
    ((cycle .beacon 0 up).setBc { (cycle .beacon 0 up).bc with beacon := beaconPayload up, clock := 60 }).bc.sends .b
      = [.start, .data 1, .data 1, .data 8, .data 0, .data 1, .data 0, .data 0, .data 0, .data 0, .data 0, .data 0,
         .data 0x1F, .data 0xE2, .stop] := by decide +kernel

/-- R159: aborted 41 microseconds into the slot, in the seventh payload byte, the frame ends with that byte and the abort
marker. -/
theorem test_abort_replaces_the_next_symbol :
    let f : ContentFrame := { frame 1 with state := .sending, len := 10, sent := List.replicate 7 9 }
    let s := (train (.slot 1)).setBc { (train (.slot 1)).bc with frame := some f, clock := 41 }
    (runTo 48 (abortFrame s)).bc.sends .a
      = [.start, .data 1, .data 2, .data 10] ++ List.replicate 7 (.data 9) ++ [.abort] := by decide +kernel

/-! ## Witnesses: states and operands that meet the hypotheses of the statements

Each theorem is named after its statement and meets all its hypotheses together; one line for each of its clauses. The
statements whose only hypothesis is Free hold their clauses in an if-chain over the operands: the tests above and below
take both sides of each bound. -/

/-- The state of most statements about one request. -/
theorem witness_Free : Free up ∧ Free (journey (.atStop 0)) ∧ Free (journey (.running 0)) ∧ Free (train .gap) := by
  decide +kernel

theorem witness_StepRunsFrontCommand : (up.setPending [.ready, .odoPulse]).pending = .ready :: [.odoPulse]
    ∧ up.pending = [] ∧ (train (.slot 1)).pending = [] := by decide +kernel

theorem witness_NoCommandTouchesTheQueue :
    exec .ready (State.reset.setPending [.odoPulse]) = .next (went .ready (State.reset.setPending [.odoPulse])) := rfl

theorem witness_ResetnLowHoldsTheController : (went .resetnLow up).clc.ready = .held ∧ Instr.odoPulse ≠ .resetnLow
    ∧ (Instr.resetnHigh true false) ≠ .resetnLow := by decide +kernel

/-- With quiet lines; and in the second symbol of a CALL frame. -/
theorem witness_PartResetRepliesThenResets : Free up ∧ (went (.partReset 3) up).clc.ready = .up
    ∧ (went (.partReset 3) up).clc.tx = .reply (replyTo 0x03 3 .done []) ∧ (went (.partReset 3) up).bc.quiet = true
    ∧ (went (.partReset 3) (calling 6)).clc.tx = .reply (replyTo 0x03 3 .done []) ∧ (calling 6).bc.quiet = false
    ∧ (went .transmitterFrameEnd (went (.partReset 3) (calling 6))).bc.cut = [.start, .data 1, .abort] := by decide +kernel

/-- Requests of kind 06 in the queue: the head REPLYING, the others WAITING. -/
def queued (n : Nat) : List Queued :=
  { kind := 0x06, tag := 1, command := some (.summary 1), state := .replying }
    :: List.replicate n { kind := 0x06, tag := 2, command := some (.summary 2), state := .waiting }

/-- The DONE of that head. -/
def headReply : Reply := replyTo 0x06 1 .done []

/-- A controller sending the head's reply, with requests behind and further replies. -/
def replying (n : Nat) (more : List Reply) : State :=
  up.setClc { up.clc with queue := queued n, replies := headReply :: more, tx := .reply headReply }

/-- With 3 queued and sending; with 4 queued and 3 or 4 QUEUE_FULL replies; and free. -/
theorem witness_RequestsJoinTheQueueOrAreRefused :
    let full : Reply := { kind := 0x86, tag := 9, result := .queueFull, data := [], forHead := false }
    (Instr.summary 5).request = some (0x06, 5)
    ∧ [up, replying 2 [], replying 3 (List.replicate 3 full), replying 3 (List.replicate 4 full)].all
        (fun s => s.clc.ready = .up && s.dc.advanced = []) = true
    ∧ (replying 2 []).clc.queue.length = 3 ∧ (replying 3 []).clc.queue.length = 4 := by decide +kernel

/-- Kind 07; and a SUMMARY with one payload byte, its last CRC byte to come. -/
theorem witness_UnknownKindAndBadLayoutAreAnswered : Free up ∧ 0x07 ∉ requestKinds ∧ 0x06 ∈ requestKinds
    ∧ parseRequest 0x06 1 [0] = none
    ∧ crc16 (u16 3 ++ (u8 0x06 ++ u8 1 ++ [0])) = (0x0B : Byte) ++ (0x41 : Byte)
    ∧ Free (up.setClc { up.clc with rx := .check 3 [6, 1, 0] (some 0x0B) }) := by decide +kernel

theorem witness_FrameByCharactersIsTheCommand : (Instr.addSegment 255 1 4294967295 255 0 39 3 [0x41]).wf = true
    ∧ (Instr.addSegment 255 1 4294967295 255 0 39 3 [0x41]).request = some (0x32, 255)
    ∧ up.clc.ready = .up ∧ up.clc.rx = .hunt ∧ up.dc.advanced = [] := by decide +kernel

/-- A receiver in each state; a length of 640 and of 641; the last byte of a body; a bad CRC; a kind of 0x60. -/
theorem witness_ReceiverFollowsItsTable : up.clc.ready = .up ∧ up.dc.advanced = [] ∧ up.clc.rx = .hunt
    ∧ LinkRx.length none ≠ .hunt ∧ 256 * (2 : Byte).toNat + (0x80 : Byte).toNat = 640
    ∧ 256 * (2 : Byte).toNat + (0x81 : Byte).toNat = 641 ∧ [(6 : Byte)].length + 1 = 2
    ∧ crc16 (u16 2 ++ [0x06, 0x01]) ≠ (0 : Byte) ++ (0 : Byte) ∧ 0x60 ≤ (0x60 : Byte).toNat := by decide +kernel

/-- The head alone; the head with one behind; a report sent with a reply waiting; a report waiting; the head's reply sent
while a report waits, alone and with a request behind. -/
theorem witness_FrameEndFreesTheTransmitter :
    let alone := replying 0 []
    let behind := replying 1 []
    let after := busy (replying 0 [])
    let told := up.setClc { up.clc with tx := .report sent false 0, reports := [sent] }
    let both (n : Nat) := (replying n []).setClc { (replying n []).clc with reports := [sent] }
    alone.clc.queue.length = 1 ∧ alone.clc.tx = .reply headReply ∧ headReply.forHead = true
    ∧ ¬ (headReply.kind = 0x83 ∧ headReply.result = .done) ∧ alone.clc.reports = [] ∧ 0x06 ∈ requestKinds
    ∧ behind.clc.queue.map (·.command) = [some (.summary 1), some (.summary 2)] ∧ behind.clc.replies = [headReply]
    ∧ after.clc.tx = .report sent false 0 ∧ after.clc.replies = [headReply] ∧ after.clc.queue.map (·.state) = [.replying]
    ∧ told.clc.replies = [] ∧ told.clc.queue = [] ∧ told.clc.nextReport = some sent
    ∧ (went .transmitterFrameEnd (both 0)).clc.tx = .report sent false 0 ∧ (went .transmitterFrameEnd (both 0)).clc.queue = []
    ∧ (went .transmitterFrameEnd (both 1)).clc.tx = .report sent false 0
    ∧ (went .transmitterFrameEnd (both 1)).clc.replies.map (·.tag) = [2] := by decide +kernel

theorem witness_ReportIsQueuedReplacedOrDropped : (busy up).clc.tx ≠ .idle := by decide +kernel

/-- Two reports of which the later has the higher rank. -/
theorem witness_ReportSentIsOfTheHighestRank :
    let line : Report := { cls := .line, code := 1, subject := 1, data := [] }
    { up.clc with reports := [line, sent] }.nextReport = some sent := by decide +kernel

/-- LINK RESET alone, and as the second of three requests. -/
theorem witness_LinkResetEmptiesTheLink :
    let waits : Queued := { kind := 0x02, tag := 2, command := some (.linkReset 2), state := .waiting }
    let s := up.setClc { up.clc with queue := (queued 1).insertIdx 1 waits, replies := [headReply], tx := .reply headReply }
    Free up ∧ s.clc.ready = .up ∧ s.dc.advanced = [] ∧ s.clc.queue.drop 1 = waits :: (queued 1).drop 1
    ∧ headReply.forHead = true ∧ ¬ (headReply.kind = 0x83 ∧ headReply.result = .done) ∧ s.clc.reports = [] := by
  decide +kernel

/-- SET REPORTING naming READY, order 2, and neither. -/
theorem witness_SetReportingFiltersTheQueue : Free up
    ∧ [answer (.setReporting 1 1 0) up, answer (.setReporting 1 62 2) up, answer (.setReporting 1 62 1) up]
      = [some (.badField, []), some (.badField, []), some (.done, [0])] := by decide +kernel

/-- ACK ALARMS naming all six flags, and one more. -/
theorem witness_AckAlarmsClearsWhatIsOver : Free up
    ∧ [answer (.ackAlarms 1 63) up, answer (.ackAlarms 1 64) up] = [some (.done, [0, 0, 0]), some (.badField, [])] := by
  decide +kernel

/-- DESCRIBE PART of 0 and of 1, and SUMMARY. -/
theorem witness_SummaryAndDescribePartCarryTheirReplies : Free up
    ∧ [answer (.describePart 1 0) up, answer (.describePart 1 1) up] = [some (.badField, [1]), some (.done, [0])]
    ∧ ((answer (.summary 1) up).map fun r => (r.1, r.2.length)) = some (.done, 18) := by decide +kernel

/-- OPEN ROUTE and DROP ROUTE of slot 3 and of slot 4. -/
theorem witness_OpenAndDropRouteFollowTheSlotState : let s := withSlot 3 (route .edit three) up
    Free up ∧ Free s ∧ [answer (.openRoute 1 3 7 [0x44]) up, answer (.openRoute 1 4 7 [0x44]) up, answer (.dropRoute 1 3) s,
      answer (.dropRoute 1 4) s] = [some (.done, []), some (.badField, []), some (.done, []), some (.badField, [])] := by
  decide +kernel

/-- A record of APPEND STOPS. -/
def fields (column : Nat) : StopFields :=
  { code := 9, name := [0x53], leg := 5, side := 1, approach := 0, announce := 0, column := column }

/-- APPEND STOPS to 3 stops, of a record at the largest column and of one above it. -/
theorem witness_AppendStopsChecksThenAppends : let s := withSlot 3 (route .edit three) up
    Free s ∧ [answer (.appendStops 1 3 [fields 1023]) s, answer (.appendStops 1 3 [fields 1023, fields 1024]) s]
      = [some (.done, [4]), some (.badField, [1])] := by decide +kernel

/-- READ ROUTE of 6 and of 7 records, and READ JOURNEY. -/
theorem witness_ReadJourneyAndReadRouteCarryTheirReplies : let s := withSlot 3 (route .edit three) up
    Free s ∧ ([answer (.readRoute 1 3 0 6) s, answer (.readRoute 1 3 0 7) s, answer (.readJourney 1) s].map
      fun r => r.map Prod.fst) = [some .done, some .badField, some .done] := by decide +kernel

/-- A route in EDIT whose stop 1 fails check 1 alone, one that fails nothing, and one of a single stop. -/
theorem witness_CloseRouteNamesTheFirstFailure :
    let s := withSlot 3 (route .edit [stopAt 1 0 1, stopAt 2 99 2]) up
    Free s ∧ (s.jt.slots.get 3).state = .edit ∧ (s.jt.slots.get 3).stops.length = 2
    ∧ (∃ p, (s.jt.slots.get 3).stops[1]? = some p ∧ p.leg < 100 ∧ p.approach ≤ 20000 ∧ p.announce ≤ p.approach) :=
  ⟨by decide +kernel, by decide +kernel, by decide +kernel, stopAt 2 99 2, by decide +kernel⟩

/-- A READY slot that no portion names; and the home route in use at stop 0, its stop 1 free to be cancelled once unit 2
runs to the end. -/
theorem witness_CancelAndRestoreSetTheMarks :
    let r := withSlot 2 (route .ready three) up
    let j := journey (.atStop 0)
    let s := j.setJt { j.jt with portions := [portion 1 0 true none, portion 2 1 false none] }
    Free r ∧ (r.jt.slots.get 2).state = .ready ∧ (∀ p ∈ r.jt.portions, p.slot ≠ 2)
    ∧ (r.jt.slots.get 2).stops[2]? = some (stopAt 3 2500 30) ∧ (r.jt.slots.get 2).stops.length ≤ 3
    ∧ Free s ∧ s.jt.home = some (portion 1 0 true none) ∧ (s.jt.slots.get 0).state = .inUse
    ∧ (∀ p ∈ s.jt.portions, p.slot = 0 → ∀ x ∈ s.jt.currentIndex p, x < 1)
    ∧ 1 + 1 < (s.jt.slots.get 0).stops.length ∧ (∀ p ∈ (s.jt.slots.get 0).stops[1]?, p.cancelled = false)
    ∧ (∀ p ∈ s.jt.portions, p.partAt ≠ some 1) := by decide +kernel

theorem witness_AssignUnitHomeStartsTheJourney :
    let s := withSlot 3 (route .ready three) up
    Free s ∧ s.jt.phase = .noJourney ∧ s.jt.portions = [] ∧ (s.jt.slots.get 3).state = .ready
    ∧ 1 + 1 < (s.jt.slots.get 3).stops.length ∧ (s.jt.slots.get 3).stops[1]? = some (stopAt 2 2500 20)
    ∧ (stopAt 2 2500 20).cancelled = false := by decide +kernel

/-- Unit 3 with a READY slot from stop 0 to part at stop 2, the last, and to run to the end. -/
theorem witness_AssignUnitPlacesThePortion :
    let s := withSlot 3 (route .ready three) (journey (.atStop 0))
    Free s ∧ s.jt.phase = .atStop 0 ∧ (∀ p ∈ s.jt.portions, p.unit ≠ 3) ∧ s.jt.portions.length < 4
    ∧ (s.jt.slots.get 3).state = .ready ∧ 2 = s.jt.homeLast ∧ 0 + 2 - 0 < (s.jt.slots.get 3).stops.length
    ∧ (∀ p ∈ s.jt.homeStops[2]?, p.cancelled = false) ∧ s.jt.homeStops = (s.jt.slots.get 3).stops
    ∧ (∀ p ∈ s.jt.portions, p.slot ≠ 3) := by decide +kernel

/-- NO_JOURNEY; an entry PARTING; and a journey that may end. -/
theorem witness_EndJourneyEmptiesThePortionTable : Free up ∧ up.jt.phase = .noJourney ∧ Free (journey (.terminated 2))
    ∧ (journey (.terminated 2)).jt.phase ≠ .noJourney
    ∧ (∀ p ∈ (journey (.terminated 2)).jt.portions, p.state ≠ .parting) := by decide +kernel

/-- The three phases; and at stop 1 the trigger 1 (switched) and 2 (not), and none. -/
theorem witness_DepartedStartsTheLegSwitchesAndPurges :
    let s := journey (.atStop 1)
    Free s ∧ s.jt.phase = .atStop 1 ∧ (journey (.running 1)).jt.phase = .running 1 ∧ up.jt.phase = .noJourney
    ∧ (∀ e ∈ s.cm.list, e.state ≠ .departing) ∧ (∃ i ∈ (staged (.armedEmpty (.home 1)) s).rs.staging.trigger, i ≤ 1)
    ∧ (∀ i ∈ (staged (.armedCopy (.home 2)) s).rs.staging.trigger, 1 < i)
    ∧ (∀ i ∈ (staged .copying s).rs.staging.trigger, 1 < i) := by decide +kernel

/-- RUNNING from 0 with code 2 at stop 1 and no stop of code 9; and a phase that is not RUNNING. -/
theorem witness_ArrivedTakesTheStop :
    let s := journey (.running 0)
    Free s ∧ s.jt.phase = .running 0 ∧ s.jt.homeStops[1]? = some (stopAt 2 2500 20) ∧ (stopAt 2 2500 20).cancelled = false
    ∧ (∀ q ∈ s.jt.homeStops, q.code ≠ 9) ∧ (journey (.atStop 0)).jt.phase ≠ .running 0 := by decide +kernel

/-- A leg of 2,500 with D 1,250: calibrated at the next stop; at the stop after it, skipped, to the limit with 7 skips. -/
theorem witness_ArrivalCalibratesOrSkips :
    let j := journey (.running 0)
    let s := j.setJt { j.jt with odo := { j.jt.odo with dist := 1250, skips := 7 } }
    Free s ∧ s.jt.phase = .running 0 ∧ s.jt.homeStops[1]? = some (stopAt 2 2500 20) ∧ s.jt.next = some 1
    ∧ s.jt.odo.tainted = false ∧ s.jt.config.minLeg ≤ s.jt.legEff ∧ s.jt.legEff = 2 * s.jt.odo.dist
    ∧ s.jt.homeStops[2]? = some (stopAt 3 2500 30) ∧ (∀ p ∈ s.jt.homeStops[1]?, p.code ≠ 3)
    ∧ s.jt.odo.skips + 1 = s.jt.config.skipLimit := by decide +kernel

/-- SET DIRECTION 0, 1 and 2 at a stop, and 1 in RUNNING. -/
theorem witness_SetDirectionMarksEveryMirror : [answer (.setDirection 1 0) up, answer (.setDirection 1 1) up,
      answer (.setDirection 1 2) up, answer (.setDirection 1 1) (journey (.running 0))]
    = [some (.done, []), some (.done, []), some (.badField, []), some (.wrongState, [])]
    ∧ exec (.linkReset 1) up = .next (went (.linkReset 1) up) := ⟨by decide +kernel, rfl⟩

theorem witness_TimeOfDayIsSetAndAdvances : [answer (.setTime 1 1439) up, answer (.setTime 1 1440) up]
      = [some (.done, []), some (.badField, [])] ∧ up.clc.ready = .up ∧ up.dc.advanced = [] := by decide +kernel

/-- Each parameter one below its range of R29 alone, one above the last, and the power-on values. -/
theorem witness_ConfigureOdometerReplacesAllOrNone : [{ powerOnConfig with pulseLen := 999 }, { powerOnConfig with shift := 0 },
      { powerOnConfig with vmin := 99 }, { powerOnConfig with creep := 19 }, { powerOnConfig with correction := 0 },
      { powerOnConfig with offset := 9 }, { powerOnConfig with minLeg := 499 }, { powerOnConfig with skipLimit := 16 },
      powerOnConfig].map (fun p => answer (.configureOdometer 1 p) up)
    = (List.range 8).map (fun i => some (.badField, [BitVec.ofNat 8 (i + 1)])) ++ [some (.done, [])] := by decide +kernel

/-- RUNNING, and another phase. -/
theorem witness_PositionFixMovesTheDistance : Free (journey (.running 0)) ∧ (journey (.running 0)).jt.phase = .running 0
    ∧ Free up ∧ up.jt.phase = .noJourney := by decide +kernel

/-- A window in a phase that moves, below the last metre and beyond it, and in one that does not; a gap of 2^k or more. -/
theorem witness_WindowAdvancesDistanceAndSpeed :
    let j := journey (.running 0)
    let s := j.setJt { j.jt with odo := { j.jt.odo with dist := 999999, pulses := 100 } }
    s.clc.ready ≠ .held ∧ s.dc.advanced = [] ∧ s.jt.phase = .running 0
    ∧ 999999 < s.jt.odo.dist + (s.jt.odo.rem + s.jt.odo.pulses * s.jt.config.pulseLen) / 1000000
    ∧ 2 ^ s.jt.config.shift ≤ min 125000 (s.jt.odo.pulses * s.jt.config.pulseLen / 100) - s.jt.odo.speed
    ∧ j.jt.odo.dist + 0 / 1000000 ≤ 999999 ∧ up.jt.phase = .noJourney := by decide +kernel

/-- Windows after which R is 0; is not 0 with v at vmin; and with v below it; with the portion parting at 1 while RUNNING from
1, at stop 1 and in TERMINATED(2). -/
theorem witness_WindowFormsEtaAndPosition :
    let j := journey (.running 0)
    let slow := went .odometerWindowExpiry j
    let fast := went .odometerWindowExpiry (j.setJt { j.jt with odo := { j.jt.odo with speed := 9000 } })
    j.clc.ready ≠ .held ∧ j.dc.advanced = [] ∧ slow.jt.remaining = 2500 ∧ slow.jt.odo.speed < slow.jt.config.vmin
    ∧ fast.jt.config.vmin ≤ fast.jt.odo.speed ∧ (went .odometerWindowExpiry up).jt.remaining = 0
    ∧ ((went .odometerWindowExpiry (journey (.running 1))).jt.portions.map fun p => (p.home, p.partAt, p.pos))
        = [(true, none, some 20), (false, some 1, some 20)]
    ∧ [Phase.atStop 1, .terminated 2].map (fun x => (went .odometerWindowExpiry (journey x)).jt.portions.map (·.pos))
        = [[some 20, some 20], [some 30, none]] := by decide +kernel

/-- At stop 0 with D one above the creep limit and at it; RUNNING at 200 m and 800 m from the next stop; and the states of
its later clauses. -/
theorem witness_WindowImpliesDepartureAndSetsTheNotice :
    let at_ (d : Nat) : State := busy ((journey (.atStop 0)).setJt
      { (journey (.atStop 0)).jt with odo := { (journey (.atStop 0)).jt.odo with dist := d } })
    let run (d : Nat) : State := busy ((journey (.running 0)).setJt
      { (journey (.running 0)).jt with odo := { (journey (.running 0)).jt.odo with dist := d } })
    (at_ 101).clc.ready = .up ∧ (at_ 101).dc.advanced = [] ∧ (at_ 101).clc.enabled.journey = true
    ∧ (at_ 101).clc.tx ≠ .idle ∧ (at_ 101).clc.reports = [] ∧ (at_ 101).rs.staging.trigger = none
    ∧ (at_ 101).jt.config.creep < (went .odometerWindowExpiry (at_ 101)).jt.odo.dist
    ∧ (went .odometerWindowExpiry (at_ 100)).jt.odo.dist ≤ (at_ 100).jt.config.creep
    ∧ (run 2300).jt.next = some 1 ∧ (run 2300).jt.homeStops[1]? = some (stopAt 2 2500 20)
    ∧ (went .odometerWindowExpiry (run 2300)).jt.remaining = 200 ∧ (went .odometerWindowExpiry (run 1700)).jt.remaining = 800
    ∧ (run 2300).jt.notice = .none
    ∧ (went (.assignUnitHome 1 1 0 1 0xFF) (withSlot 0 (route .ready three) up)).jt.phase = .atStop 1
    ∧ (went (.arrived 1 2) (journey (.running 0))).jt.phase = .atStop 1
    ∧ (went (.endJourney 1) (journey (.atStop 0))).jt.phase = .noJourney := by decide +kernel

/-- START BACKBONE with the survey OFF and with it SURVEYING; SURVEY in the three states. -/
theorem witness_SurveyIsConfiguredAndBackboneStarts : [answer (.startBackbone 1) up, answer (.startBackbone 1) (train .gap),
      answer (.survey 1) up, answer (.survey 1) (train .gap), answer (.survey 1) (consist [] .closed up)]
    = [some (.done, []), some (.wrongState, []), some (.wrongState, []), some (.done, []), some (.done, [])] := by
  decide +kernel

/-- STOP BACKBONE with the survey OFF and not; the gap's end while RUNNING, updating a table or a locked one, in each
capture; and while STOPPING with a handled head. -/
theorem witness_CycleEndRunsOnOrStops :
    let s := train .gap
    let locked := s.setSup { s.sup with even := { s.sup.even with lock := .locked }, capture := .waiting }
    let last := s.setSup { s.sup with odd := { s.sup.odd with lock := .locked }, capture := .evenTaken }
    let stopping := (busy ((train .gap).setBc { (train .gap).bc with state := .stopping })).withQueue
      [{ kind := 0x22, tag := 1, command := some (.stopBackbone 1), state := .handling }]
    answer (.stopBackbone 1) up = some (.wrongState, []) ∧ Free s ∧ s.cm.survey.state ≠ .off
    ∧ s.clc.ready ≠ .held ∧ s.dc.advanced = [] ∧ s.bc.segment = .gap ∧ s.bc.state = .running ∧ (s.bc.counter + 1) % 32 = 2
    ∧ s.sup.even.lock = .unlocked ∧ s.sup.capture = .continuous ∧ locked.sup.even.lock ≠ .unlocked
    ∧ last.sup.capture = .evenTaken ∧ last.sup.odd.lock ≠ .unlocked
    ∧ ConsistOk stopping.cm ∧ stopping.bc.segment = .gap ∧ stopping.bc.state = .stopping ∧ stopping.cm.list ≠ []
    ∧ stopping.clc.queue.map (·.state) = [.handling] ∧ stopping.clc.enabled.consist = true ∧ stopping.clc.tx ≠ .idle
    ∧ stopping.clc.reports = [] ∧ (∀ e ∈ stopping.cm.list, e.state ≠ .departing) := by decide +kernel

/-- A unit with an entry missed twice, one missed three times alone, the home unit, a unit without an entry, unit 0; and
REMOVE ENTRY of a detached entry of a parting unit, of a list entry, of neither, of 0. -/
theorem witness_SplitAndRemoveEntryTakeEntriesAway :
    let s := consist [entry 1 1 .active 0, entry 2 2 .active 2, entry 3 2 .mute 3] .surveying (journey (.atStop 0))
    let r := s.setCm { s.cm with detached := [(entry 9 2 .mute 32).coach], partings := [{ unit := 2, ids := [] }] }
    Free s ∧ ConsistOk s.cm ∧ s.jt.phase = .atStop 0 ∧ s.jt.portionOf 2 = some (portion 2 1 false (some 1))
    ∧ s.jt.portionOf 1 = some (portion 1 0 true none) ∧ s.jt.portionOf 3 = none ∧ (∀ x ∈ s.cm.partings, x.unit ≠ 2)
    ∧ (∃ e ∈ s.cm.list, e.coach.unit = 2 ∧ e.coach.missed < 3)
    ∧ (∀ e ∈ [entry 1 1 .active 0, entry 3 2 .mute 3], e.coach.unit = 2 → 3 ≤ e.coach.missed)
    ∧ [answer (.removeEntry 1 9) r, answer (.removeEntry 1 1) r, answer (.removeEntry 1 8) r, answer (.removeEntry 1 0) r]
      = [some (.done, []), some (.wrongState, []), some (.notFound, []), some (.badField, [])] := by decide +kernel

/-- DEFINE TYPE of code 0, of 97 seats, with a label too few, with a bad label, of a known code in use and not, of a ninth
code and of a new one; DELETE TYPE and READ TYPE likewise. -/
theorem witness_TypesAreDefinedReadAndDeleted :
    let s := train .gap
    let spare := consist [] .off up
    let full := spare.setCm { spare.cm with types := (List.range 8).map fun i => { twoSeats with code := i + 1 } }
    [answer (.defineType 1 0 1 [[0x31]]) up, answer (.defineType 1 9 97 []) up, answer (.defineType 1 9 2 [[0x31]]) up,
     answer (.defineType 1 9 2 [[0x31], List.replicate 5 0x31]) up, answer (.defineType 1 20 1 [[0x31]]) s,
     answer (.defineType 1 20 1 [[0x31]]) spare, answer (.defineType 1 9 1 [[0x31]]) full,
     answer (.defineType 1 9 1 [[0x31]]) up, answer (.defineType 1 9 96 (List.replicate 96 [0x31])) up,
     answer (.deleteType 1 0) s, answer (.deleteType 1 9) s, answer (.deleteType 1 20) s, answer (.deleteType 1 20) spare,
     answer (.readType 1 20 0) s, answer (.readType 1 9 1) s, answer (.readType 1 20 2) s, answer (.readType 1 20 2) spare]
    = [some (.badField, [0]), some (.badField, [0]), some (.badField, [1]), some (.badField, [1]), some (.inUse, []),
       some (.done, []), some (.noSpace, []), some (.done, []), some (.done, []),
       some (.badField, []), some (.notFound, []), some (.inUse, []), some (.done, []),
       some (.badField, []), some (.notFound, []), some (.done, [1, 20, 2]), some (.done, [0, 20, 2])] := by decide +kernel

/-- DECLARE VEHICLE and REMOVE VEHICLE of each outcome on either bank, the 21st record among them. -/
theorem witness_VehiclesAreDeclaredAndRemoved :
    let s := stocked (train .gap)
    let full := s.setRs { s.rs with bank0 := (List.range 20).map fun i => { vehicle with id := i + 1 } }
    Free s ∧ ConsistOk s.cm ∧ (staged .openCopy s).rs.staging = .openCopy
    ∧ [answer (.declareVehicle 1 2 5 20 0) s, answer (.declareVehicle 1 0 5 20 4) s, answer (.declareVehicle 1 1 5 20 3) s,
       answer (.declareVehicle 1 0 1 20 0) s, answer (.declareVehicle 1 0 5 21 0) s, answer (.declareVehicle 1 0 21 20 0) full,
       answer (.declareVehicle 1 0 5 20 3) s, answer (.declareVehicle 1 1 5 20 3) (staged .openCopy s),
       answer (.removeVehicle 1 0 0) s, answer (.removeVehicle 1 1 1) s, answer (.removeVehicle 1 0 5) s,
       answer (.removeVehicle 1 0 1) s]
      = [some (.badField, []), some (.badField, []), some (.wrongState, []), some (.inUse, []), some (.notFound, []),
         some (.noSpace, []), some (.done, [0, 2]), some (.done, [0, 1]), some (.badField, []), some (.wrongState, []),
         some (.notFound, []), some (.done, [0, 0, 1])] := by decide +kernel

/-- Each outcome of ADD SEGMENT, DROP SEGMENT and CLEAR SEAT; and an edit that aborts the CONTENT frame of its SEAT block. -/
theorem witness_SegmentsAreAddedDroppedAndCleared :
    let s := stocked (train .gap)
    let short (n : Nat) : Segment := { fromIx := 2 * n, toIx := 2 * n + 1, kind := .held, label := [] }
    let six := s.setRs { s.rs with bank0 := [{ vehicle with seats := [(List.range 6).map short, []] }] }
    let f : ContentFrame := { frame 1 with kind := .seat0, state := .sending }
    let sending := s.setBc { s.bc with segment := .slot 1, frame := some f, clock := 40 }
    [answer (.addSegment 1 0 1 0 2 3 4 []) s, answer (.addSegment 1 0 1 0 2 3 1 (List.replicate 9 0x41)) s,
     answer (.addSegment 1 1 1 0 2 3 1 []) s, answer (.addSegment 1 0 5 0 2 3 1 []) s, answer (.addSegment 1 0 1 2 2 3 1 []) s,
     answer (.addSegment 1 0 1 0 2 40 1 []) s, answer (.addSegment 1 0 1 0 38 39 1 []) s,
     answer (.addSegment 1 0 1 0 30 31 1 []) six, answer (.addSegment 1 1 1 0 2 3 3 []) (staged .openCopy s),
     answer (.dropSegment 1 0 1 0 1) s, answer (.dropSegment 1 0 1 0 2) s, answer (.dropSegment 1 0 1 2 1) s,
     answer (.clearSeat 1 0 1 0) s, answer (.clearSeat 1 0 1 1) s, answer (.clearSeat 1 0 1 2) s]
    = [some (.badField, []), some (.badField, []), some (.wrongState, []), some (.notFound, []), some (.outOfRange, []),
       some (.outOfRange, []), some (.done, [0, 1, 0, 2]), some (.noSpace, []), some (.notFound, []),
       some (.done, [0, 0, 0]), some (.notFound, []), some (.outOfRange, []),
       some (.done, [0, 0, 1, 0, 0]), some (.done, [0, 0, 0, 0, 1]), some (.outOfRange, [])]
    ∧ Free sending ∧ f.inFlight sending.bc.clock = true ∧ (∃ e ∈ sending.cm.list, e.coach.id = f.dest ∧ (e.blocks.get f.kind).valid = true)
    ∧ (went (.dropSegment 1 0 1 0 1) sending).bc.aborted = 1
    ∧ (staged .openCopy s).rs.staging.mirrored = true ∧ s.rs.staging.mirrored = false := by decide +kernel

/-- An edit that staging takes, and one that it refuses as NOT_FOUND (byte 8). -/
theorem witness_MirrorIsTheSameRequestOnStaging :
    let s := staged .openCopy (stocked (train .gap))
    let both := s.setRs { s.rs with bank1 := [vehicle] }
    Free s ∧ s.rs.staging.mirrored = true ∧ answer (.clearSeat 1 0 1 0) both = some (.done, [0, 0, 1, 0, 0])
    ∧ answer (.clearSeat 1 0 1 0) s = some (.done, [8, 0, 1, 0, 0]) := by decide +kernel

/-- Each request of the staging table in a state that takes it and in one that does not. -/
theorem witness_StagingFollowsItsTable :
    let s := journey (.atStop 0)
    [answer (.openStagingEmpty 1) s, answer (.openStagingEmpty 1) (staged .openEmpty s),
     answer (.disarmStaging 1) (staged (.armedCopy (.home 1)) s), answer (.disarmStaging 1) (staged .openCopy s),
     answer (.abandonStaging 1) (staged (.armedEmpty (.home 1)) s), answer (.abandonStaging 1) (staged .copying s)]
    = [some (.done, []), some (.wrongState, []), some (.done, []), some (.wrongState, []), some (.done, [0, 0]),
       some (.wrongState, [])] ∧ (254 : Nat) ≠ 0xFF := by decide +kernel

/-- OPEN STAGING COPY when CLOSED and not; a completion with a handled head and recorded work, and one without a copy;
ARM STAGING IMMEDIATE when OPEN and not. -/
theorem witness_StagingIsCopiedAndSwitched :
    let s := went (.openStagingCopy 1) (stocked (train .gap))
    let t := s.setRs { s.rs with recorded := [.purge [(0, 2)], .delete [5]] }
    answer (.openStagingCopy 1) (staged .openEmpty up) = some (.wrongState, []) ∧ t.rs.staging = .copying
    ∧ t.clc.queue.map (·.state) = [.handling] ∧ t.clc.ready ≠ .held ∧ t.dc.advanced = []
    ∧ answer .copyCompletion t = some (.done, [1, 0, 0]) ∧ up.rs.staging ≠ .copying
    ∧ answer (.armStagingImmediate 1) (staged .openCopy (stocked (train .gap))) = some (.done, [1])
    ∧ answer (.armStagingImmediate 1) up = some (.wrongState, []) ∧ ConsistOk (staged .openCopy (stocked (train .gap))).cm := by
  decide +kernel

/-- Notices on a coach, on ALL with one stack full and one unit past the stop, popped and cleared. -/
theorem witness_NoticesArePushedPoppedAndCleared :
    let e := entry 1 1 .active 0
    let f : Entry := { e with coach := { e.coach with notices := List.replicate 4 (notice .normal .none) } }
    let s := consist [f, entry 2 2 .active 0, entry 3 4 .active 0] .surveying (journey (.atStop 1))
    Free s ∧ ConsistOk s.cm
    ∧ [answer (.pushNotice 1 0 1 [0x41] 1 0 0) s, answer (.pushNotice 1 0 2 [0x41] 1 1 1) s, answer (.pushNotice 1 0 9 [0x41] 1 0 0) s,
       answer (.pushNotice 1 1 0 [0x41] 1 1 1) s, answer (.pushNotice 1 1 0 [0x41] 1 1 2) s, answer (.popNotice 1 0) s,
       answer (.popNotice 1 9) s, answer (.popNotice 1 1) s, answer (.clearNotices 1 0 1) s, answer (.clearNotices 1 1 0) s,
       answer (.clearNotices 1 2 1) s, answer (.clearNotices 1 0 9) s]
      = [some (.noSpace, []), some (.outOfRange, []), some (.notFound, []), some (.done, [1, 0, 2]), some (.done, [2, 1, 0]),
         some (.badField, []), some (.notFound, []), some (.done, [1, 0x4E, 0, 0, 0, 0, 3]), some (.done, [4]),
         some (.done, [4]), some (.badField, []), some (.notFound, [])] := by decide +kernel

/-- REFRESH COACH of an entry, of ALL, of a detached coach, of none; a rotation entry at its bounds. -/
theorem witness_RefreshAndRotationAreSet :
    let s := train .gap
    let d := s.setCm { s.cm with detached := [(entry 9 2 .mute 32).coach] }
    [answer (.refreshCoach 1 0 1) d, answer (.refreshCoach 1 1 0) d, answer (.refreshCoach 1 0 9) d,
     answer (.refreshCoach 1 0 8) d, answer (.refreshCoach 1 2 1) d, answer (.setRotationEntry 1 11 5 255 11) up,
     answer (.setRotationEntry 1 12 5 1 0) up, answer (.setRotationEntry 1 0 6 1 0) up, answer (.setRotationEntry 1 0 5 0 0) up,
     answer (.setRotationEntry 1 0 5 1 12) up, answer (.setRotationStart 1 11) up, answer (.setRotationStart 1 12) up]
    = [some (.done, [2]), some (.done, [2]), some (.wrongState, []), some (.notFound, []), some (.badField, []),
       some (.done, []), some (.badField, []), some (.badField, []), some (.badField, []), some (.badField, []),
       some (.done, []), some (.badField, [])] := by decide +kernel

/-- LOCK TABLE of a table being updated and of one that is not; the least bad value of each. -/
theorem witness_LineFlagsLocksAndCaptureAreSet :
    let s := up.setSup { up.sup with odd := { up.sup.odd with updating := true } }
    [answer (.lockTable 1 0) s, answer (.lockTable 1 1) s, answer (.lockTable 1 2) s, answer (.unlockTable 1 1) s,
     answer (.unlockTable 1 2) s, answer (.setCapture 1 0) s, answer (.setCapture 1 1) s, answer (.setCapture 1 2) s]
    = [some (.done, [2]), some (.done, [1]), some (.badField, []), some (.done, [0]), some (.badField, []),
       some (.done, []), some (.done, []), some (.badField, [])] := by decide +kernel

/-- READ SEAT, READ DISPLAY and READ TABLE of each outcome. -/
theorem witness_ReadsOfTheBlocksChangeNothing :
    let s := stocked (train .gap)
    [answer (.readSeat 1 2 1 0) s, answer (.readSeat 1 1 1 0) s, answer (.readSeat 1 0 5 0) s, answer (.readSeat 1 0 1 2) s,
     answer (.readDisplay 1 0) s, answer (.readDisplay 1 9) s, answer (.readTable 1 2) s].map (·.map (·.1))
    = [some .badField, some .wrongState, some .notFound, some .outOfRange, some .badField, some .notFound, some .badField]
    ∧ [answer (.readSeat 1 0 1 1) s, answer (.readDisplay 1 2) s, answer (.readTable 1 1) s].map (·.map (·.1))
      = [some .done, some .done, some .done] := by decide +kernel

/-- A cycle start with a notice that runs out and one that does not; with dwell 2, and with dwell 1 and a shown candidate
or none. -/
theorem witness_CycleStartCountsNoticesThenRotates :
    let e := entry 1 1 .active 0
    let f : Entry := { e with coach := { e.coach with notices := [notice .urgent (.cycles 1), notice .normal (.cycles 2)] } }
    let s := cycle .beacon 1 (consist [f] .surveying up)
    let shows := s.setDc { s.dc with table := s.dc.table.set 0 { page := .notice, dwell := 3, next := 0 } }
    s.clc.ready ≠ .held ∧ s.dc.advanced = [] ∧ ConsistOk s.cm ∧ s.bc.segment = .beacon ∧ s.dc.dwell ≤ 1
    ∧ s.bc.frame = none ∧ (s.setBc { s.bc with beacon := beaconPayload s }).bc.beacon.length = 8
    ∧ (s.setDc { s.dc with dwell := 2 }).dc.dwell = 2 ∧ (∀ x ∈ s.dc.table, x.page = .empty)
    ∧ (went .cycleStart shows).dc.page = .notice ∧ (went .cycleStart s).dc.page = .nextStop := by decide +kernel

/-- Slot 1 after the beacon and slot 16 after slot 15, with an entry and without; a frame of 208 bytes being sent and one
that is not. -/
theorem witness_SlotStartSendsTheChosenBlock :
    let s := train .beaconSent
    let f : ContentFrame := { frame 1 with state := .sending, len := 208 }
    let t := (train (.slot 1)).setBc { (train (.slot 1)).bc with frame := some f }
    s.clc.ready ≠ .held ∧ s.dc.advanced = [] ∧ s.bc.segment = .beaconSent ∧ (train (.slotDone 15)).bc.segment = .slotDone (16 - 1)
    ∧ s.cm.list[16 - 1]? = none ∧ s.cm.list[1 - 1]? = some (entry 1 1 .active 2)
    ∧ (BlockKind.all.drop BlockKind.map.code ++ BlockKind.all.take BlockKind.map.code).find?
        (fun x => ((entry 1 1 .active 2).blocks.get x).valid) = some .header
    ∧ t.bc.frame = some f ∧ f.state = .sending ∧ f.len ≤ 208 ∧ (frame 1).state ≠ .sending
    ∧ ((contentPayload t f.dest f.kind f.gen).take 18).length = 18 ∧ ConsistOk s.cm ∧ entry 1 1 .active 2 ∈ s.cm.list
    ∧ (journey (.running 0)).jt.portions.find? (fun p => p.unit = 1) = some (portion 1 0 true none)
    ∧ s.jt.portions.find? (fun p => p.unit = 1) = none ∧ s.cm.types.find? (fun x => x.code = 20) = some twoSeats := by
  decide +kernel

/-- A symbol in the beacon segment; one that ends with its slot; a whole ANSWER of 17 bytes after the frame's end, on each
line. -/
theorem witness_BackboneReceiversFollowTheirTable :
    let s := (train (.slot 1)).setBc { (train (.slot 1)).bc with frame := some (frame 1) }
    (train .beacon).bc.segment = .beacon ∧ s.clc.ready ≠ .held ∧ s.dc.advanced = [] ∧ 1996 + 4 ≤ s.bc.segment.length
    ∧ s.bc.frame = some (frame 1) ∧ (frame 1).state ≠ .sending ∧ (answerOf 1 1 1).length = 17 ∧ (frame 1).endAt ≤ 100
    ∧ 1908 + 4 * (17 + 6) = 2000 ∧ s.bc.rxA = .hunt ∧ s.bc.rxB = .hunt ∧ s.bc.gotA = .nothing ∧ s.bc.gotB = .nothing := by
  decide +kernel

/-- The ANSWER of entry 2 on both lines at the ends of its window, on A alone and on B alone; and beside it on A an answer too
early, too late, of another kind, twice begun, or of another identity. -/
theorem witness_SlotEndTakesAValidAnswer :
    let s := train (.slot 2)
    let t (a b : Takings) : State := s.setBc { s.bc with frame := some (frame 2), gotA := a, gotB := b }
    let p := answerOf 2 2 2
    s.clc.ready ≠ .held ∧ s.dc.advanced = [] ∧ ConsistOk s.cm ∧ s.bc.segment = .slot 2 ∧ (frame 2).state ≠ .sending
    ∧ entry 2 2 .probation 31 ∈ s.cm.list ∧ (frame 2).dest = 2
    ∧ (t (heard 0x81 p 140) (heard 0x81 p 1900)).bc.gotA.startAt = (frame 2).endAt + 40
    ∧ (t (heard 0x81 p 140) .nothing).bc.gotB = .nothing ∧ p.length = 17 ∧ field32 p 0 = 2
    ∧ field16 p 14 = (0x1234 : BitVec 16).toNat ∧ byteAt p 12 = BlockKind.header.code ∧ byteAt p 13 = 5
    ∧ (byteAt p 11).testBit 0 = false ∧ (true || false) = true
    ∧ (went .coachSlotEnd (t .nothing (heard 0x81 p 1900))).cm.list.map (·.coach.missed) = [2, 0]
    ∧ [heard 0x81 p 139, heard 0x81 p 140, heard 0x81 p 1901, heard 0x83 p 140, { heard 0x81 p 140 with starts := 2 },
        heard 0x81 (answerOf 1 2 2) 140].map
          (fun g => let f := (went .coachSlotEnd (t g (heard 0x81 p 140))).sup.a.flags
            (f.validSeen, f.crcError, f.late, f.clash))
      = [(false, false, true, false), (true, false, false, false), (false, false, true, false), (false, true, false, false),
         (false, false, false, true), (false, false, false, false)] := by decide +kernel

/-- A slot without an answer whose entry is muted, lost, deleted, or only counts; and an answer of another identity. -/
theorem witness_SlotEndTakesAMiss :
    let s := cycle (.slot 1) 1 (consist [entry 1 1 .active 2, entry 2 2 .mute 31, entry 3 2 .departing 2, entry 4 1 .active 1]
      .surveying up)
    let t (n : Nat) : State := s.setBc { s.bc with segment := .slot n, frame := some (frame n) }
    s.clc.ready ≠ .held ∧ s.dc.advanced = [] ∧ ConsistOk s.cm ∧ (t 3).bc.segment = .slot 3 ∧ (t 3).bc.gotA = .nothing
    ∧ (t 3).bc.gotB = .nothing ∧ entry 3 2 .departing 2 ∈ s.cm.list
    ∧ resultOf ((frame 3).endAt + 40) 1900 0x81 17 (heard 0x81 (answerOf 1 1 1) 1900) = .valid
    ∧ field32 (heard 0x81 (answerOf 1 1 1) 1900).payload 0 ≠ (frame 3).dest
    ∧ [1, 2, 3, 4].map (fun n => (went .coachSlotEnd (t n)).cm.list.map fun e => (e.coach.id, e.state))
      = [[(1, .mute), (2, .mute), (3, .departing), (4, .active)], [(1, .active), (3, .departing), (4, .active)],
         [(1, .active), (2, .mute), (4, .active)], [(1, .active), (2, .mute), (3, .departing), (4, .active)]] := by
  decide +kernel

/-- A CALL_ANSWER of an identity from hop 3, one of the unit given. -/
def callAnswer (id unit : Nat) : List Byte := u32 id ++ u8 3 ++ u8 0 ++ u8 20 ++ u16 unit ++ u16 999 ++ u8 0

/-- Each start of the window; a call unanswered, with the last attempt; and answers of a new coach, of one in the list, of a
detached one, of a fifth unit and of a seventeenth coach. -/
theorem witness_CallWindowSurveysTheChain :
    let s := train (.slotDone 16)
    let c := train .call
    let asked (watch : Bool) (x : Takings) (t : State) : State :=
      t.setBc { t.bc with call := some { target := 3, watch := watch }, gotA := x }
    let more (l : List Coach) : State := c.setCm { c.cm with detached := l }
    let coach (id unit : Nat) : Coach := (entry id unit .mute 32).coach
    s.bc.segment = .slotDone 16 ∧ s.cm.survey.state = .surveying ∧ s.cm.list.length < 16 ∧ s.clc.ready ≠ .held
    ∧ s.dc.advanced = [] ∧ (consist (List.replicate 16 (entry 1 1 .active 0)) .surveying s).cm.list.length = 16
    ∧ (consist [] .closed (cycle (.slotDone 16) 0 s)).bc.counter = 0 ∧ c.bc.segment = .call ∧ c.bc.frame = none
    ∧ c.bc.call = none ∧ (asked false .nothing c).bc.gotA = .nothing ∧ c.bc.gotB = .nothing
    ∧ (callAnswer 3 2).length = 12 ∧ byteAt (callAnswer 3 2) 4 = 3 ∧ field32 (callAnswer 3 2) 0 = 3
    ∧ field16 (callAnswer 3 2) 7 = 2 ∧ field16 (callAnswer 3 2) 9 = 999
    ∧ [71, 72, 2900, 2901].map (fun x => (went .callWindowEnd (asked true (heard 0x83 (callAnswer 3 2) x) c)).bc.lastCall.resultA)
        = [.late, .valid, .valid, .late]
    ∧ (went .callWindowEnd (asked false (heard 0x83 (callAnswer 3 2) 72) c)).cm.list.length = 3
    ∧ (went .callWindowEnd (asked true (heard 0x83 (callAnswer 2 2) 2900) c)).cm.survey.cause = .hopConfused 2
    ∧ (went .callWindowEnd (asked true (heard 0x83 (callAnswer 9 2) 72) (more [coach 9 3]))).cm.detached = []
    ∧ (went .callWindowEnd (asked true (heard 0x83 (callAnswer 9 5) 72) (more [coach 7 3, coach 8 4]))).cm.survey.cause
        = .unitLimit 9
    ∧ (went .callWindowEnd (asked true (heard 0x83 (callAnswer 99 2) 72)
        (more ((List.range 14).map fun i => coach (i + 20) 2)))).cm.survey.cause = .consistFull 99 := by decide +kernel

/-- A list of two entries that report hops h and k, having reported them at the pair end before, at an odd cycle's gap. -/
def chain (h k : Nat) : State :=
  let e (id hop : Nat) : Entry := { entry id 1 .active 0 with pairHop := .hop hop, evidenceHop := some hop, evidenceCount := 1 }
  cycle .callDone 1 (consist [e 1 h, e 2 k] .surveying up)

/-- An even cycle; an odd one with no mismatch confirmed; a confirmed exchange of hops 1 and 2; and two entries at hop 2. -/
theorem witness_QuietGapTakesThePairEnd :
    let s := train .callDone
    s.clc.ready ≠ .held ∧ s.dc.advanced = [] ∧ ConsistOk s.cm ∧ s.bc.segment = .callDone ∧ s.bc.counter % 2 = 1
    ∧ (cycle .callDone 2 s).bc.counter % 2 = 0 ∧ s.cm.list.map (·.evidenceHop) = [none, none]
    ∧ ConsistOk (chain 2 1).cm ∧ (chain 2 1).bc.segment = .callDone ∧ (∀ e ∈ (chain 2 1).cm.list, e.state ≠ .mute)
    ∧ (chain 2 1).cm.list.map (·.pairHop) = [.hop 2, .hop 1] ∧ (chain 2 1).cm.list.map (·.evidenceHop) = [some 2, some 1]
    ∧ (chain 2 2).cm.list.map (·.pairHop) = [.hop 2, .hop 2]
    ∧ (went .quietGapStart (chain 2 1)).cm.list.map (·.coach.id) = [2, 1]
    ∧ (went .quietGapStart (chain 2 2)).cm.confused = true := by decide +kernel

/-- A line with 7 and one with 31 cycles of a run behind it, in an even cycle that updates its table. -/
theorem witness_QuietGapEvaluatesTheLines :
    let s := busy (cycle .callDone 2 (train .callDone))
    let line (r : Runs) (o : Observations) : LineSup := { s.sup.a with runs := r, obs := o }
    let t := s.setSup { s.sup with
      a := line { short := 7, silent := 0, full := 0 } { entrySlot := true, carried := true, short := true }
      even := { s.sup.even with updating := true, lock := .pending } }
    let u := s.setSup { s.sup with
      a := line { short := 0, silent := 31, full := 0 } { entrySlot := true, carried := false, short := false } }
    t.clc.ready ≠ .held ∧ t.dc.advanced = [] ∧ t.bc.segment = .callDone ∧ t.bc.counter % 2 = 0 ∧ t.clc.tx ≠ .idle
    ∧ t.clc.reports = [] ∧ t.clc.enabled.line = true ∧ t.sup.even.updating = true ∧ t.sup.odd.updating = false
    ∧ (went .quietGapStart t).sup.a.state = .degraded ∧ (went .quietGapStart u).sup.a.state = .dead
    ∧ (went .quietGapStart t).sup.even.lock = .locked := by decide +kernel

/-- The invariants hold of a state in which every part is in use, and a step runs from it. -/
def worked : State := (stocked (cycle .gap 1 (consist [entry 1 1 .active 2, entry 2 2 .probation 31] .surveying
  (journey (.atStop 0))))).setPending [.cycleEnd]

theorem witness_EveryStepKeepsTheJourneyAndAlarmInvariants : PortionsOk worked.jt ∧ OdometerOk worked.jt ∧ AlarmsOk worked
    ∧ step worked = .next (went .cycleEnd (worked.setPending [])) :=
  ⟨by decide +kernel, by decide +kernel, by decide +kernel, rfl⟩

theorem witness_EveryStepKeepsTheConsistAndBlockInvariants : ConsistOk worked.cm ∧ BlocksOk worked.cm ∧ RotationOk worked.dc
    ∧ step worked = .next (went .cycleEnd (worked.setPending [])) :=
  ⟨by decide +kernel, by decide +kernel, by decide +kernel, rfl⟩

theorem witness_EveryStepKeepsTheBanksLawful : BanksOk worked.rs
    ∧ step worked = .next (went .cycleEnd (worked.setPending [])) := ⟨by decide +kernel, rfl⟩

theorem witness_EveryStepKeepsTheBackboneAndLinkInvariants : BackboneOk worked ∧ SupervisionOk worked.sup
    ∧ (worked.clc.queue.length ≤ Config.maxRequests ∧ worked.clc.replies = [] ∧ worked.clc.tx = .idle)
    ∧ ReportsOk worked.clc ∧ step worked = .next (went .cycleEnd (worked.setPending [])) :=
  ⟨by decide +kernel, by decide +kernel, by decide +kernel, by decide +kernel, rfl⟩

theorem witness_QueueOk : QueueOk worked.clc ∧ QueueOk (replying 3 []).clc :=
  ⟨⟨by decide +kernel, by decide +kernel, by decide +kernel, by decide +kernel, fun _ h => nomatch h⟩,
   ⟨by decide +kernel, by decide +kernel, by decide +kernel, by decide +kernel, fun r h => by cases h; rfl⟩⟩

end Sys2Proof.Tests
end

section
/-! What the shared operations do to the Journey Tracker: most leave it alone, a failed split reattaches portions, a completed
one removes a portion. -/

namespace Sys2Proof.Machine

/-- A field of the state kept step after step over a list. -/
theorem foldl_keeps {α β : Type} {f : State → α → State} (g : State → β) (h : ∀ s x, g (f s x) = g s) (l : List α) (s : State) :
    g (l.foldl f s) = g s := by
  induction l generalizing s with
  | nil => rfl
  | cons x l ih => exact (ih _).trans (h s x)

/-- A property kept step after step over a list. -/
theorem foldl_induct {α : Type} {f : State → α → State} {P : State → Prop} (h : ∀ s x, P s → P (f s x)) (l : List α) {s : State}
    (p : P s) : P (l.foldl f s) := by
  induction l generalizing s with
  | nil => exact p
  | cons x l ih => exact ih (h s x p)

/-! ## Operations that leave the Journey Tracker alone -/

@[simp] theorem updateEntry_jt (id : Nat) (f : Entry → Entry) (s : State) : (updateEntry id f s).jt = s.jt := rfl
@[simp] theorem withAdvisory_jt (f : State → State) (s : State) : (withAdvisory f s).jt = (f s).jt := by simp [withAdvisory]
@[simp] theorem leaveList_jt (gone : Entry → Bool) (s : State) : (leaveList gone s).jt = s.jt := by simp [leaveList]
@[simp] theorem setEntryState_jt (id : Nat) (st : EntryState) (s : State) : (setEntryState id st s).jt = s.jt := by
  unfold setEntryState; dsimp only; split_ifs <;> simp
@[simp] theorem checkEntry_jt (id : Nat) (s : State) : (checkEntry id s).jt = s.jt := by
  unfold checkEntry
  split
  · rfl
  · dsimp only; split_ifs <;> simp
@[simp] theorem checkAgreement_jt (pick : Entry → Bool) (s : State) : (checkAgreement pick s).jt = s.jt :=
  foldl_keeps State.jt (fun s id => checkEntry_jt id s) _ s
@[simp] theorem runTo_jt (t : Nat) (s : State) : (runTo t s).jt = s.jt := rfl
@[simp] theorem detach_jt (id : Nat) (s : State) : (detach id s).jt = s.jt := by
  unfold detach; split <;> simp
@[simp] theorem loseEntry_jt (id : Nat) (s : State) : (loseEntry id s).jt = s.jt := by simp [loseEntry]
@[simp] theorem setSurvey_jt (f : Survey → Survey) (s : State) : (setSurvey f s).jt = s.jt := rfl
@[simp] theorem surveyOn_jt (s : State) : (surveyOn s).jt = s.jt := rfl
@[simp] theorem admitCoach_jt (a : CallAnswer) (missed : Nat) (notices : List Notice) (s : State) :
    (admitCoach a missed notices s).jt = s.jt := by simp [admitCoach]
@[simp] theorem reportUnknownType_jt (id type : Nat) (s : State) : (reportUnknownType id type s).jt = s.jt := by
  unfold reportUnknownType; split_ifs <;> simp
@[simp] theorem refuseCall_jt (watch : Bool) (cause : CloseCause) (code id : Nat) (data : List Byte) (s : State) :
    (refuseCall watch cause code id data s).jt = s.jt := by
  unfold refuseCall; split_ifs <;> simp
@[simp] theorem handleCallAnswer_jt (a : CallAnswer) (target : Nat) (watch : Bool) (s : State) :
    (handleCallAnswer a target watch s).jt = s.jt := by
  unfold handleCallAnswer
  split
  · simp
  · split <;> split_ifs <;> simp
@[simp] theorem callUnanswered_jt (watch : Bool) (s : State) : (callUnanswered watch s).jt = s.jt := by
  unfold callUnanswered; dsimp only; split_ifs <;> simp
@[simp] theorem purgeBanks_jt (indices : List (Nat × Nat)) (s : State) : (purgeBanks indices s).jt = s.jt := by
  simp [purgeBanks]
@[simp] theorem switchBanks_jt (code : Nat) (trigger departure : Option Nat) (s : State) :
    (switchBanks code trigger departure s).jt = s.jt := by simp [switchBanks]
@[simp] theorem departBanks_jt (d : Nat) (s : State) : (departBanks d s).jt = s.jt := by
  unfold departBanks
  rw [purgeBanks_jt]
  split
  · split_ifs <;> simp
  · rfl
@[simp] theorem expireNotices_jt (keep : Coach → Notice → Bool) (s : State) : (expireNotices keep s).jt = s.jt := by
  simp [expireNotices]
@[simp] theorem reportPassed_jt (m : Nat) (s : State) : (reportPassed m s).jt = s.jt := by
  unfold reportPassed
  exact foldl_keeps State.jt (fun _ _ => raise_jt ..) _ s
@[simp] theorem arrivalEvent_jt (m : Nat) (s : State) : (arrivalEvent m s).jt = s.jt := by simp [arrivalEvent]
@[simp] theorem goStale_jt (s : State) : (goStale s).jt = s.jt := rfl
@[simp] theorem reviseAll_jt (pick : Entry → Bool) (s : State) : (reviseAll pick s).jt = s.jt := by simp [reviseAll]
@[simp] theorem assignPurge_jt (unit slot : Nat) (s : State) : (assignPurge unit slot s).jt = s.jt := by simp [assignPurge]
@[simp] theorem markRoute_jt (slot index : Nat) (s : State) : (markRoute slot index s).jt = s.jt := by simp [markRoute]

/-! ## The slot, the call window and the pair end -/

@[simp] theorem takeOrientation_jt (id : Nat) (o : Orientation) (s : State) : (takeOrientation id o s).jt = s.jt := by
  unfold takeOrientation
  split
  · rfl
  · split_ifs <;> simp
@[simp] theorem takeType_jt (id type : Nat) (s : State) : (takeType id type s).jt = s.jt := by
  unfold takeType
  split
  · rfl
  · split_ifs <;> simp
@[simp] theorem takeNumber_jt (id number : Nat) (s : State) : (takeNumber id number s).jt = s.jt := by
  unfold takeNumber
  split
  · rfl
  · split_ifs <;> simp
@[simp] theorem takeUnit_jt (id unit : Nat) (s : State) : (takeUnit id unit s).jt = s.jt := by
  unfold takeUnit
  split
  · rfl
  · split_ifs <;> simp
@[simp] theorem unmute_jt (id : Nat) (s : State) : (unmute id s).jt = s.jt := by
  unfold unmute
  split
  · rfl
  · split_ifs <;> simp
@[simp] theorem slotAnswered_jt (id : Nat) (a : NodeAnswer) (s : State) : (slotAnswered id a s).jt = s.jt := by
  simp [slotAnswered]
@[simp] theorem muteEntry_jt (id : Nat) (s : State) : (muteEntry id s).jt = s.jt := by simp [muteEntry]
@[simp] theorem acknowledge_jt (f : ContentFrame) (a : NodeAnswer) (s : State) : (acknowledge f a s).jt = s.jt := by
  unfold acknowledge
  split
  · rfl
  · split_ifs <;> simp
@[simp] theorem composerOutcome_jt (f : ContentFrame) (a : Option NodeAnswer) (s : State) :
    (composerOutcome f a s).1.jt = s.jt := by
  unfold composerOutcome
  split
  · rfl
  · rfl
  · dsimp only; split_ifs <;> simp
@[simp] theorem callOutcome_jt (c : Call) (a : Option CallAnswer) (s : State) : (callOutcome c a s).jt = s.jt := by
  unfold callOutcome
  split
  · split_ifs <;> simp
  · simp
@[simp] theorem callClose_jt (c : Call) (s : State) : (callClose c s).jt = s.jt := by simp [callClose]
@[simp] theorem pairStep_jt (id : Nat) (s : State) : (pairStep id s).jt = s.jt := by
  unfold pairStep
  split
  · rfl
  · dsimp only; split_ifs <;> simp
@[simp] theorem bypassEntry_jt (id hop : Nat) (s : State) : (bypassEntry id hop s).jt = s.jt := by simp [bypassEntry]
@[simp] theorem reorder_jt (s : State) : (reorder s).jt = s.jt := by
  unfold reorder
  split
  · split
    · exact foldl_keeps State.jt (fun s (x : Entry × Nat) => bypassEntry_jt x.1.coach.id x.2 s) _ s
    · split <;> rfl
  · rfl
@[simp] theorem pairEnd_jt (s : State) : (pairEnd s).jt = s.jt := by
  unfold pairEnd
  simp only [State.setCm_jt, reorder_jt]
  exact foldl_keeps State.jt (fun s id => pairStep_jt id s) _ s
@[simp] theorem tellLine_jt (line : Line) (old new : LineState) (s : State) : (tellLine line old new s).jt = s.jt := by
  unfold tellLine; dsimp only; split_ifs <;> simp
@[simp] theorem supervisionGap_jt (s : State) : (supervisionGap s).jt = s.jt := by simp [supervisionGap]
@[simp] theorem countNotices_jt (s : State) : (countNotices s).jt = s.jt := by simp [countNotices]
@[simp] theorem composerCycle_jt (s : State) : (composerCycle s).jt = s.jt := by simp [composerCycle]

/-! ## Splits -/

/-- The Journey Tracker with the portions of some units ATTACHED again (R80). -/
def Jt.reattached (j : Jt) (back : Nat → Bool) : Jt :=
  { j with portions := j.portions.map fun p => if back p.unit then { p with state := .attached } else p }

theorem Jt.reattached_none (j : Jt) : j.reattached (fun _ => false) = j := by simp [Jt.reattached]

theorem Jt.reattached_reattached (j : Jt) (f g : Nat → Bool) :
    (j.reattached f).reattached g = j.reattached fun u => f u || g u := by
  unfold Jt.reattached
  congr 1
  rw [List.map_map]
  refine List.map_congr_left fun p _ => ?_
  by_cases a : f p.unit <;> by_cases b : g p.unit <;> simp [a, b]

/-- A split that fails reattaches portions, at most (R80). -/
theorem failSplit_jt (unit : Nat) (s : State) : ∃ back, (failSplit unit s).jt = s.jt.reattached back := by
  unfold failSplit
  dsimp only
  split_ifs
  · exact ⟨fun _ => false, s.jt.reattached_none.symm⟩
  · refine ⟨fun u => u = unit, ?_⟩
    simp only [raise_jt, State.setCm_jt, withAdvisory_jt, State.setJt_jt, dirtyBlocks_jt]
    rw [foldl_keeps State.jt (by simp)]
    simp [Jt.reattached, Jt.setPortionState]

/-- The splits that fail at a departure or a stop reattach portions, at most (R80). -/
theorem failSplits_jt (s : State) : ∃ back, (failSplits s).jt = s.jt.reattached back := by
  unfold failSplits
  refine foldl_induct (P := fun t => ∃ back, t.jt = s.jt.reattached back) (fun t u => ?_) _ ⟨_, s.jt.reattached_none.symm⟩
  rintro ⟨f, hf⟩
  obtain ⟨g, hg⟩ := failSplit_jt u t
  exact ⟨_, by rw [hg, hf, Jt.reattached_reattached]⟩

/-- A departure event reattaches portions, at most (R21, R80). -/
theorem departureEvent_jt (d : Nat) (s : State) : ∃ back, (departureEvent d s).jt = s.jt.reattached back := by
  obtain ⟨f, hf⟩ := failSplits_jt (departBanks d s)
  exact ⟨f, by simpa [departureEvent] using hf⟩

/-- The stop of the backbone reattaches portions, at most (R59, R80). -/
theorem stopConsist_jt (s : State) : ∃ back, (stopConsist s).jt = s.jt.reattached back := by
  obtain ⟨f, hf⟩ := failSplits_jt s
  refine ⟨f, ?_⟩
  unfold stopConsist
  dsimp only
  split_ifs <;> simpa using hf

@[simp] theorem completeSplit_jt (unit : Nat) (s : State) : (completeSplit unit s).jt = s.jt.removePortion unit := by
  simp [completeSplit]

/-- A check for completion leaves the Journey Tracker, or removes the portion of a unit that is PARTING (R79). -/
theorem checkSplit_jt (unit : Nat) (s : State) :
    (checkSplit unit s).jt = s.jt
      ∨ ((s.jt.portionOf unit).any fun p => p.state = .parting) = true ∧ (checkSplit unit s).jt = s.jt.removePortion unit := by
  unfold checkSplit splitDone
  split_ifs with h
  · simp only [Bool.and_eq_true] at h
    exact .inr ⟨h.1, completeSplit_jt unit s⟩
  · exact .inl rfl

/-- A DEPARTING entry deleted: as the check for completion it ends with (R78). -/
theorem deleteDeparting_jt (id unit : Nat) (s : State) :
    (deleteDeparting id unit s).jt = s.jt
      ∨ ((s.jt.portionOf unit).any fun p => p.state = .parting) = true
        ∧ (deleteDeparting id unit s).jt = s.jt.removePortion unit := by
  have h := checkSplit_jt unit
    ((leaveList (fun e => e.coach.id = id) s).setCm ((leaveList (fun e => e.coach.id = id) s).cm.joinParting unit id))
  simpa [deleteDeparting] using h

/-- The Journey Tracker at the end of a coach slot: as it was, or without the portion of a PARTING unit (R78, R79). -/
def Jt.atSlotEnd (j k : Jt) : Prop :=
  k = j ∨ ∃ unit, ((j.portionOf unit).any fun p => p.state = .parting) = true ∧ k = j.removePortion unit

theorem slotMissed_jt (id : Nat) (s : State) : s.jt.atSlotEnd (slotMissed id s).jt := by
  unfold slotMissed
  split
  · exact .inl rfl
  · dsimp only
    split
    · split_ifs <;> exact .inl (by simp)
    · split_ifs <;> exact .inl (by simp)
    · split_ifs <;> exact .inl (by simp)
    · split_ifs
      · exact (deleteDeparting_jt id _ _).imp (fun h => h) fun h => ⟨_, h⟩
      · exact .inl (by simp)

theorem slotEnd_jt (s : State) : s.jt.atSlotEnd (slotEnd s).jt := by
  have out (a : Option NodeAnswer) (id : Nat) (t : State) : t.jt.atSlotEnd (consistOutcome id a t).jt := by
    unfold consistOutcome
    split
    · exact .inl rfl
    · exact .inl (by simp)
    · exact slotMissed_jt id t
  unfold slotEnd
  split
  · dsimp only
    split
    · simp only [State.setBc_jt, slotOutcome, State.setSup_jt, composerOutcome_jt]
      exact out _ _ _
    · exact .inl rfl
  · exact .inl rfl

end Sys2Proof.Machine
end

section
/-! What the operations of the Journey Tracker make of it: figures formed, notices, legs, the odometer window. -/

namespace Sys2Proof.Machine

/-! ## Figures -/

/-- pos and the positions of the portions as formed (R41, R42). -/
def Jt.positioned (j : Jt) : Jt :=
  { j with odo := { j.odo with pos := j.homePosition }, portions := j.portions.map fun p => { p with pos := j.position p } }

/-- eta_min and the arrival clock as formed (R40). -/
def Jt.timed (j : Jt) : Jt :=
  { j with odo := { j.odo with etaMin := ceilDiv j.odo.etaS 60
                               clock := arrivalClock j.timeValid j.minute (ceilDiv j.odo.etaS 60) } }

@[simp] theorem setOdo_jt (f : Odometer → Odometer) (s : State) : (setOdo f s).jt = { s.jt with odo := f s.jt.odo } := rfl
@[simp] theorem setPhase_jt (p : Phase) (s : State) : (setPhase p s).jt = { s.jt with phase := p } := rfl
@[simp] theorem formPositions_jt (s : State) : (formPositions s).jt = s.jt.positioned := by
  simp [formPositions, Jt.positioned]
@[simp] theorem formEta_jt (s : State) : (formEta s).jt = s.jt.timed := by
  unfold formEta
  dsimp only
  split_ifs <;> simp [Jt.timed]
@[simp] theorem formFigures_jt (s : State) : (formFigures s).jt = s.jt.positioned.timed := by simp [formFigures]
@[simp] theorem setNotice_jt (n : JourneyNotice) (s : State) : (setNotice n s).jt = { s.jt with notice := n } := by
  unfold setNotice
  split_ifs with h
  · rw [h]
  · simp

/-! ## The end of a leg -/

/-- A calibration changes the pulse length, within its range, and empties the skip counter (R46, R47). -/
theorem calibrate_jt (leg : Nat) (s : State) : ∃ value, (calibrate leg s).jt =
    { s.jt with config := { s.jt.config with pulseLen := clampPulse value }, odo := { s.jt.odo with skips := 0 } } := by
  unfold calibrate
  dsimp only
  split_ifs <;> exact ⟨_, rfl⟩

/-- A skip counts up to the skip limit (R48). -/
@[simp] theorem skip_jt (s : State) : (skip s).jt =
    { s.jt with odo := { s.jt.odo with
        skips := if s.jt.odo.skips < s.jt.config.skipLimit then s.jt.odo.skips + 1 else s.jt.odo.skips } } := by
  unfold skip
  dsimp only
  split_ifs <;> simp

/-- The end of a leg leaves everything but the pulse length and the skip counter (R46 to R48). -/
theorem endLeg_jt (atNext : Bool) (s : State) : ∃ len n, (endLeg atNext s).jt =
    { s.jt with config := { s.jt.config with pulseLen := len }, odo := { s.jt.odo with skips := n } } := by
  unfold endLeg
  split_ifs
  · obtain ⟨value, h⟩ := calibrate_jt s.jt.legEff s
    exact ⟨_, _, h⟩
  · exact ⟨_, _, skip_jt s⟩

/-! ## The odometer window -/

/-- The distance step of a window (R32, R34, R35): D and rem grow or stay, the pulse count is 0 again. -/
theorem windowDistance_jt (p : Nat) (s : State) : ∃ dist rem ps ds, (windowDistance p s).jt =
    { s.jt with odo := { s.jt.odo with dist := dist, rem := rem, pulses := 0, pulseSat := ps, distSat := ds } }
    ∧ (s.jt.odo.dist ≤ Config.maxDist → dist ≤ Config.maxDist) ∧ (s.jt.odo.rem < 1000000 → rem < 1000000) := by
  unfold windowDistance
  dsimp only
  refine ⟨_, _, _, _, (apply_ite State.jt _ _ _).trans (ite_self _), fun h => ?_, fun h => ?_⟩
  · split_ifs with a b
    · exact h
    · exact le_rfl
    · simp_all
  · split_ifs
    · exact h
    · decide
    · exact Nat.mod_lt _ (by decide)

/-- The speed step of a window (R36, R37). -/
@[simp] theorem windowSpeed_jt (p : Nat) (s : State) : (windowSpeed p s).jt =
    { s.jt with odo := { s.jt.odo with
        speed := filterStep s.jt.config.shift s.jt.odo.speed (speedSample p s.jt.config.pulseLen) } } := rfl

/-- A window that implies no departure (R20). -/
theorem windowDeparture_of_not {s : State} (h : ∀ c, s.jt.phase = .atStop c → s.jt.odo.dist ≤ s.jt.config.creep) :
    windowDeparture s = s := by
  unfold windowDeparture
  split
  · next c p => rw [if_neg (Nat.not_lt.mpr (h c p))]
  · rfl

/-- The Journey Tracker as an implied departure from a stop leaves it, but for failed splits (R20, R45). -/
def Jt.departedBy (j : Jt) (c : Nat) : Jt :=
  { j with phase := .running c, notice := .none, odo := { j.odo with etaS := 0, etaHeld := true, tainted := false } }.timed

/-- A window that implies a departure (R20). -/
theorem windowDeparture_jt {s : State} {c : Nat} (p : s.jt.phase = .atStop c) (h : s.jt.config.creep < s.jt.odo.dist) :
    ∃ back, (windowDeparture s).jt = (s.jt.departedBy c).reattached back := by
  unfold windowDeparture
  simp only [p, h, if_true, raise_jt]
  obtain ⟨back, hb⟩ := departureEvent_jt c
    (formEta (setNotice .none (setOdo (fun o => { o with etaS := 0, etaHeld := true, tainted := false }) (setPhase (.running c) s))))
  exact ⟨back, by rw [hb]; simp [Jt.departedBy]⟩

@[simp] theorem windowNotice_jt (s : State) : (windowNotice s).jt = { s.jt with notice := evaluateNotice s.jt } := by
  unfold windowNotice
  dsimp only
  split_ifs with h
  · rw [h]
  · simp

/-- The Journey Tracker after steps 4 to 6 of a window and the positions formed (R33). -/
def Jt.evaluated (j : Jt) : Jt :=
  let k := { j with odo := evaluateEta j }.timed
  { k with notice := evaluateNotice k }.positioned

@[simp] theorem windowExpiry_jt (s : State) : (windowExpiry s).jt =
    (windowDeparture (windowSpeed s.jt.odo.pulses (windowDistance s.jt.odo.pulses s))).jt.evaluated := by
  simp [windowExpiry, Jt.evaluated]

@[simp] theorem pulse_jt (s : State) : (pulse s).jt = { s.jt with odo := { s.jt.odo with pulses := min 4095 (s.jt.odo.pulses + 1) } } := rfl
@[simp] theorem minuteTick_jt (s : State) : (minuteTick s).jt = { s.jt with minute := (s.jt.minute + 1) % 1440 }.timed := by
  simp [minuteTick]

end Sys2Proof.Machine
end

section
/-! The requests that leave the Journey Tracker alone: those of every other block, but SPLIT. -/

namespace Sys2Proof.Machine

variable (s : State)

@[simp] theorem done_state (data : List Byte) : (done s data).state = s := rfl
@[simp] theorem refuse_state (r : ResultCode) (data : List Byte) : (refuse s r data).state = s := rfl
@[simp] theorem later_state : (Answer.later s).state = s := rfl
@[simp] theorem now_state (r : ResultCode) (data : List Byte) : (Answer.now s r data).state = s := rfl

/-! ## Consist Manager -/

@[simp] theorem doConfigureSurvey_jt (attempts pairs : Nat) : (doConfigureSurvey attempts pairs s).state.jt = s.jt := by
  unfold doConfigureSurvey; split_ifs <;> rfl
@[simp] theorem doStartBackbone_jt : (doStartBackbone s).state.jt = s.jt := by
  unfold doStartBackbone; split_ifs <;> rfl
@[simp] theorem doStopBackbone_jt : (doStopBackbone s).state.jt = s.jt := by
  unfold doStopBackbone; split_ifs <;> rfl
@[simp] theorem doSurvey_jt : (doSurvey s).state.jt = s.jt := by
  unfold doSurvey; split <;> rfl
@[simp] theorem doRemoveEntry_jt (id : Nat) : (doRemoveEntry id s).state.jt = s.jt := by
  unfold doRemoveEntry
  split_ifs
  · rfl
  · rfl
  · split <;> rfl
@[simp] theorem doDefineType_jt (code seats : Nat) (labels : List Text) : (doDefineType code seats labels s).state.jt = s.jt := by
  unfold doDefineType
  split
  · rfl
  · split
    · rfl
    · split
      · rfl
      · split_ifs <;> simp
@[simp] theorem doDeleteType_jt (code : Nat) : (doDeleteType code s).state.jt = s.jt := by
  unfold doDeleteType; split_ifs <;> rfl
@[simp] theorem doReadType_state (code length : Nat) : (doReadType code length s).state = s := by
  unfold doReadType
  split_ifs
  · rfl
  · split <;> rfl

/-! ## Reservation Store -/

@[simp] theorem tell_jt (t : Told) : (tell t s).jt = s.jt := by cases t <;> simp [tell]
@[simp] theorem putBank_jt (n : BankNo) (bank : List Vehicle) : (putBank n bank s).jt = s.jt := rfl
@[simp] theorem mirrorEdit_jt (op : BankOp) : (mirrorEdit op s).1.jt = s.jt := by
  unfold mirrorEdit
  split_ifs
  · split <;> rfl
  · rfl
@[simp] theorem editBank_jt (bad : Bool) (target : Nat) (op : BankOp) (told : Told) :
    (editBank bad target op told s).state.jt = s.jt := by
  unfold editBank
  split
  · rfl
  · split_ifs
    · rfl
    · rfl
    · dsimp only
      split
      · rfl
      · split <;> simp
@[simp] theorem doDeclareVehicle_jt (bank id type slot : Nat) : (doDeclareVehicle bank id type slot s).state.jt = s.jt :=
  editBank_jt s ..
@[simp] theorem doRemoveVehicle_jt (bank id : Nat) : (doRemoveVehicle bank id s).state.jt = s.jt := editBank_jt s ..
@[simp] theorem doAddSegment_jt (bank id seat fromIx toIx kind : Nat) (label : Text) :
    (doAddSegment bank id seat fromIx toIx kind label s).state.jt = s.jt := by
  unfold doAddSegment; split <;> simp
@[simp] theorem doDropSegment_jt (bank id seat fromIx : Nat) : (doDropSegment bank id seat fromIx s).state.jt = s.jt :=
  editBank_jt s ..
@[simp] theorem doClearSeat_jt (bank id seat : Nat) : (doClearSeat bank id seat s).state.jt = s.jt := editBank_jt s ..
@[simp] theorem doReadSeat_state (bank id seat : Nat) : (doReadSeat bank id seat s).state = s := by
  unfold doReadSeat
  split
  · rfl
  · split_ifs
    · rfl
    · rfl
    · dsimp only
      split
      · rfl
      · split <;> rfl
@[simp] theorem doOpenStagingEmpty_jt : (doOpenStagingEmpty s).state.jt = s.jt := by
  unfold doOpenStagingEmpty; split_ifs <;> rfl
@[simp] theorem doOpenStagingCopy_jt : (doOpenStagingCopy s).state.jt = s.jt := by
  unfold doOpenStagingCopy; split_ifs <;> rfl
@[simp] theorem doArmStagingImmediate_jt : (doArmStagingImmediate s).state.jt = s.jt := by
  unfold doArmStagingImmediate
  split
  · rfl
  · simp [setStaging]
@[simp] theorem armAt_jt (i : Nat) : (armAt i s).state.jt = s.jt := by
  unfold armAt
  split
  · rfl
  · split <;> rfl
@[simp] theorem doArmStaging_jt (trigger : Nat) : (doArmStaging trigger s).state.jt = s.jt := by
  unfold doArmStaging; split_ifs <;> simp
@[simp] theorem doDisarmStaging_jt : (doDisarmStaging s).state.jt = s.jt := by
  unfold doDisarmStaging; split <;> rfl
@[simp] theorem doAbandonStaging_jt : (doAbandonStaging s).state.jt = s.jt := by
  unfold doAbandonStaging; split_ifs <;> rfl
@[simp] theorem completeCopy_jt : (completeCopy s).jt = s.jt := by
  unfold completeCopy; dsimp only; split_ifs <;> simp

/-! ## Display Composer -/

@[simp] theorem doRefreshCoach_jt (target id : Nat) : (doRefreshCoach target id s).state.jt = s.jt := by
  unfold doRefreshCoach
  split
  · rfl
  · simp
  · split_ifs
    · rfl
    · split <;> simp
@[simp] theorem changeStacks_jt (pick : Coach → Bool) (f : List Notice → List Notice) (before after : State → Entry → Bool) :
    (changeStacks pick f before after s).jt = s.jt := by simp [changeStacks]
@[simp] theorem pushOn_jt (pick : Coach → Bool) (n : Notice) : (pushOn pick n s).jt = s.jt := by simp [pushOn]
@[simp] theorem clearStacks_jt (pick : Coach → Bool) : (clearStacks pick s).jt = s.jt := by simp [clearStacks]
@[simp] theorem doPushNotice_jt (target id : Nat) (t : Text) (priority expiry value : Nat) :
    (doPushNotice target id t priority expiry value s).state.jt = s.jt := by
  unfold doPushNotice
  split
  · simp
  · split_ifs
    · rfl
    · split
      · rfl
      · split_ifs <;> simp
  · rfl
@[simp] theorem doPopNotice_jt (id : Nat) : (doPopNotice id s).state.jt = s.jt := by
  unfold doPopNotice
  split_ifs
  · rfl
  · split
    · rfl
    · split <;> simp
@[simp] theorem doClearNotices_jt (target id : Nat) : (doClearNotices target id s).state.jt = s.jt := by
  unfold doClearNotices
  split
  · rfl
  · simp
  · split_ifs
    · rfl
    · split <;> simp
@[simp] theorem doSetRotationEntry_jt (index page dwell next : Nat) :
    (doSetRotationEntry index page dwell next s).state.jt = s.jt := by
  unfold doSetRotationEntry
  split
  · rfl
  · split_ifs <;> rfl
@[simp] theorem doSetRotationStart_jt (index : Nat) : (doSetRotationStart index s).state.jt = s.jt := by
  unfold doSetRotationStart; split_ifs <;> rfl
@[simp] theorem doReadDisplay_state (id : Nat) : (doReadDisplay id s).state = s := by
  unfold doReadDisplay
  split_ifs
  · rfl
  · split <;> rfl

/-! ## Supervision and the computer link -/

@[simp] theorem doClearLineFlags_jt (mask : Nat) : (doClearLineFlags mask s).state.jt = s.jt := by
  unfold doClearLineFlags; split_ifs <;> rfl
@[simp] theorem doLockTable_jt (table : Nat) : (doLockTable table s).state.jt = s.jt := by
  unfold doLockTable; split <;> rfl
@[simp] theorem doUnlockTable_jt (table : Nat) : (doUnlockTable table s).state.jt = s.jt := by
  unfold doUnlockTable; split <;> rfl
@[simp] theorem doSetCapture_jt (mode : Nat) : (doSetCapture mode s).state.jt = s.jt := by
  unfold doSetCapture; split <;> rfl
@[simp] theorem doReadTable_state (table : Nat) : (doReadTable table s).state = s := by
  unfold doReadTable; split <;> rfl
@[simp] theorem doDescribePart_state (length : Nat) : (doDescribePart length s).state = s := by
  unfold doDescribePart; split_ifs <;> rfl
@[simp] theorem doSetReporting_jt (classes order : Nat) : (doSetReporting classes order s).state.jt = s.jt := by
  unfold doSetReporting
  split
  · rfl
  · split_ifs <;> rfl
@[simp] theorem doAckAlarms_jt (flags : Nat) : (doAckAlarms flags s).state.jt = s.jt := by
  unfold doAckAlarms; split_ifs <;> rfl
@[simp] theorem doReadRoute_state (slot first count : Nat) : (doReadRoute slot first count s).state = s := by
  unfold doReadRoute; dsimp only; split_ifs <;> rfl

end Sys2Proof.Machine
end

section
/-! The induction over a step, once: an invariant that does not see the link holds after a step when the owning blocks' answers,
the events of the blocks and the resets keep it. -/

namespace Sys2Proof.Machine

variable {s t : State} {I : State → Prop}

/-- The meaning of a request is the arrival of its frame (log entry 1). -/
theorem exec_of_request {c : Instr} {kind tag : Nat} (h : c.request = some (kind, tag)) (s : State) :
    exec c s = .next (event (submit kind tag c) s) := by
  cases c <;> cases h <;> rfl

/-- What an event does outside the computer link; nothing for a request and for an event of the link. -/
def blockEvent : Instr → State → State
  | .copyCompletion => completeCopy
  | .odoPulse => pulse
  | .odometerWindowExpiry => windowExpiry
  | .minuteTimerExpiry => minuteTick
  | .cycleEnd => cycleClose
  | .cycleStart => beaconEnd
  | .coachSlotStart => slotStart
  | .contentFrameComplete => contentComplete
  | .backboneFrameReceived line t symbols => takeSymbols line t symbols
  | .coachSlotEnd => slotEnd
  | .callWindowStart => callStart
  | .callWindowEnd => callEnd
  | .quietGapStart => gapStart
  | _ => id

/-- An invariant that sees of the link at most the alarm flags and a standing overflow mark, and nothing of the page rotation
and the waiting commands. -/
structure Unlinked (I : State → Prop) : Prop where
  link : ∀ s c, c.alarms = s.clc.alarms → (c.overflow = true → s.clc.overflow = true) → I s → I (s.setClc c)
  rotation : ∀ s d, I s → I (s.setDc d)
  waiting : ∀ s l, I s → I (s.setPending l)
  ready : ∀ s data, I s → I (raise .ready 1 0 data s)

theorem Clc.takeNext_overflow (c : Clc) (h : c.takeNext.overflow = true) : c.overflow = true := by
  unfold Clc.takeNext at h
  split at h
  · exact h
  · split at h
    · cases h
    · exact h

/-- A transmitter that takes a frame raises no overflow mark (R216). -/
theorem Clc.transmit_overflow (c : Clc) (h : c.transmit.overflow = true) : c.overflow = true := by
  unfold Clc.transmit at h
  split at h
  · exact c.takeNext_overflow h
  · exact h

namespace Unlinked

theorem addReply (b : Unlinked I) (r : Reply) (h : I s) : I (addReply r s) :=
  b.link s _ (by simp) (fun o => by simpa using Clc.transmit_overflow _ o) h

theorem finishHead (b : Unlinked I) (r : ResultCode) (data : List Byte) (h : I s) : I (finishHead r data s) := by
  unfold Machine.finishHead
  split
  · split_ifs
    · exact b.addReply _ (b.link s _ rfl id h)
    · exact h
  · exact h

theorem beginHead (b : Unlinked I) (a : ∀ c s, I s → I (act c s).state) (h : I s) : I (beginHead s) := by
  have answer (q : Queued) (t : State) (k : I t) : I (settle (answerOf q t)) := by
    have k' : I (answerOf q t).state := by
      unfold answerOf
      split
      · exact k
      · split
        · exact k
        · exact a _ t k
    cases e : answerOf q t with
    | now u r data => rw [e] at k'; exact b.finishHead r data k'
    | later u => rw [e] at k'; exact k'
  unfold Machine.beginHead
  split
  · split_ifs
    · exact answer _ _ (b.link s _ rfl id h)
    · exact h
  · exact h

theorem arrive (b : Unlinked I) (a : ∀ c s, I s → I (act c s).state) (q : Queued) (h : I s) : I (arrive q s) := by
  have joined : I (s.setClc { s.clc with queue := s.clc.queue ++ [q] }) := b.link s _ rfl id h
  unfold Machine.arrive
  dsimp only
  split_ifs
  · exact h
  · exact b.beginHead a joined
  · exact joined
  · exact b.addReply _ h
  · exact b.link s _ rfl id h

theorem event (b : Unlinked I) {f : State → State} (a : ∀ s, I s → I (f s)) (h : I s) : I (event f s) := by
  unfold Machine.event
  split_ifs
  · exact h
  · exact b.rotation _ _ (a _ (b.rotation _ _ h))

theorem discard (b : Unlinked I) (h : I s) : I (discard s) := b.link _ _ rfl id (b.link s _ rfl id h)

theorem linkByte (b : Unlinked I) (a : ∀ c s, I s → I (act c s).state) (x : Byte) (h : I s) : I (linkByte x s) := by
  have rx (r : LinkRx) : I (setRx r s) := b.link s _ rfl id h
  unfold Machine.linkByte
  split
  · split_ifs
    · exact rx _
    · exact h
  · exact rx _
  · dsimp only
    split_ifs
    · exact rx _
    · exact b.discard h
  · exact rx _
  · exact rx _
  · unfold frameDone
    split
    · split_ifs
      · exact b.arrive a _ (rx _)
      · exact b.discard h
    · exact b.discard h

theorem linkChar (b : Unlinked I) (a : ∀ c s, I s → I (act c s).state) (x : LinkChar) (h : I s) : I (linkChar x s) := by
  unfold Machine.linkChar
  split
  · exact h
  · split
    · exact b.linkByte a _ h
    · split_ifs
      · exact h
      · exact b.discard h

theorem gapExpiry (b : Unlinked I) (h : I s) : I (gapExpiry s) := by
  unfold Machine.gapExpiry
  split_ifs
  · exact h
  · exact b.discard h

theorem freeTx (b : Unlinked I) (h : I s) : I (freeTx s) :=
  b.link s _ (by simp) (fun o => by simpa using Clc.transmit_overflow _ o) h

theorem frameEnd (b : Unlinked I) (a : ∀ c s, I s → I (act c s).state) (r : ∀ s, I s → I (partReset s)) (h : I s) :
    I (frameEnd s) := by
  unfold Machine.frameEnd
  split
  · exact h
  · exact b.beginHead a (b.freeTx h)
  · dsimp only
    split_ifs
    · exact r s h
    · exact b.beginHead a (b.freeTx (b.link _ _ rfl id (b.link s _ rfl id h)))
    · exact b.beginHead a (b.freeTx (b.link s _ rfl id h))

theorem becomeReady (b : Unlinked I) (h : I s) : I (becomeReady s) := by
  unfold Machine.becomeReady
  split
  · exact b.ready _ _ (b.link s _ rfl id h)
  · exact h

/-- A command keeps an invariant that the owning blocks' answers, the events and the resets keep. -/
theorem exec (b : Unlinked I) (a : ∀ c s, I s → I (act c s).state) (e : ∀ c s, I s → I (blockEvent c s))
    (r : ∀ s, I s → I (partReset s)) (p : ∀ rate l, I (State.powerOn rate l)) {c : Instr} (h : I s)
    (x : exec c s = .next t) : I t := by
  cases q : c.request with
  | some y =>
    rw [exec_of_request q] at x
    cases x
    exact b.event (fun s k => b.arrive a _ k) h
  | none =>
    have block (g : Machine.exec c s = .next (Machine.event (blockEvent c) s)) : I t := by
      rw [g] at x
      cases x
      exact b.event (e c) h
    cases c with
    | copyCompletion | odoPulse | odometerWindowExpiry | minuteTimerExpiry | cycleEnd | cycleStart | coachSlotStart
    | contentFrameComplete | backboneFrameReceived | coachSlotEnd | callWindowStart | callWindowEnd | quietGapStart =>
      exact block rfl
    | unknownRequestKind kind tag => cases x; exact b.event (fun s k => b.arrive a _ k) h
    | linkCharacterReceived char => cases x; exact b.event (fun s k => b.linkChar a _ k) h
    | linkGapTimerExpiry => cases x; exact b.event (fun s k => b.gapExpiry k) h
    | transmitterFrameEnd => cases x; exact b.event (fun s k => b.frameEnd a r k) h
    | ready => cases x; exact b.event (fun s k => b.becomeReady k) h
    | resetnHigh => cases x; exact p _ _
    | resetnLow =>
      cases x
      exact b.link _ _ rfl id (p s.clc.rate s.pending)
    | _ => cases q

/-- A step keeps an invariant that the owning blocks' answers, the events, a symbol time and the resets keep. -/
theorem step (b : Unlinked I) (a : ∀ c s, I s → I (act c s).state) (e : ∀ c s, I s → I (blockEvent c s))
    (r : ∀ s, I s → I (partReset s)) (p : ∀ rate l, I (State.powerOn rate l)) (y : ∀ s, I s → I (symbolTime s)) (h : I s)
    (x : step s = .next t) : I t := by
  unfold Machine.step at x
  split at x
  · cases x
    exact y s h
  · exact b.exec a e r p (b.waiting s _ h) x

end Unlinked

/-- What sees only the Journey Tracker sees nothing of the link. -/
theorem unlinked_jt (P : Jt → Prop) : Unlinked fun s => P s.jt :=
  ⟨fun _ _ _ _ h => h, fun _ _ h => h, fun _ _ h => h, fun _ _ h => h⟩

end Sys2Proof.Machine
end

section
/-! What each request and each event does to the Journey Tracker: one lemma for each, "as it was, or so". -/

namespace Sys2Proof.Machine

/-! ## Requests -/

/-- The requests that may change the Journey Tracker: its own (section 8.8), and SPLIT. -/
def movesJourney : Instr → Bool
  | .openRoute .. | .appendStops .. | .closeRoute .. | .dropRoute .. | .cancelStop .. | .restoreStop .. | .assignUnitHome ..
  | .assignUnit .. | .endJourney .. | .departed .. | .arrived .. | .setDirection .. | .setTime .. | .configureOdometer ..
  | .positionFix .. | .readJourney .. | .split .. => true
  | _ => false

/-- Every other request leaves the Journey Tracker alone. -/
theorem act_jt {c : Instr} (h : movesJourney c = false) (s : State) : (act c s).state.jt = s.jt := by
  cases c with
  | openRoute | appendStops | closeRoute | dropRoute | cancelStop | restoreStop | assignUnitHome | assignUnit | endJourney
  | departed | arrived | setDirection | setTime | configureOdometer | positionFix | readJourney | split => cases h
  | _ => simp [act, doLinkReset, doPartReset, doSummary, doReadConsist, doReadBanks, doReadRotation, doReadBackbone,
      doReadLineFlags]

/-- The Journey Tracker with other routes and another notice state: what loading a route and cancelling a stop may do. -/
def Jt.withRoutes (j : Jt) (q : Slots) (n : JourneyNotice) : Jt := { j with slots := q, notice := n }

variable (s : State)

theorem doOpenRoute_jt (slot code : Nat) (dest : Text) : ∃ q n, (doOpenRoute slot code dest s).state.jt = s.jt.withRoutes q n := by
  unfold doOpenRoute
  split
  · exact ⟨_, _, rfl⟩
  · split <;> exact ⟨_, _, rfl⟩

theorem doAppendStops_jt (slot : Nat) (stops : List StopFields) :
    ∃ q n, (doAppendStops slot stops s).state.jt = s.jt.withRoutes q n := by
  unfold doAppendStops
  split
  · exact ⟨_, _, rfl⟩
  · split
    · exact ⟨_, _, rfl⟩
    · split
      · exact ⟨_, _, rfl⟩
      · dsimp only
        split <;> exact ⟨_, _, rfl⟩

theorem doCloseRoute_jt (slot : Nat) : ∃ q n, (doCloseRoute slot s).state.jt = s.jt.withRoutes q n := by
  unfold doCloseRoute
  split
  · exact ⟨_, _, rfl⟩
  · dsimp only
    split <;> exact ⟨_, _, rfl⟩

theorem doDropRoute_jt (slot : Nat) : ∃ q n, (doDropRoute slot s).state.jt = s.jt.withRoutes q n := by
  unfold doDropRoute
  split
  · exact ⟨_, _, rfl⟩
  · split <;> exact ⟨_, _, rfl⟩

/-- The slots after the marks of the routes given have changed (R10). -/
def Slots.setMarks (q : Slots) (routes : List (Nat × Nat)) (v : Bool) : Slots :=
  routes.foldl (fun q x => q.set x.1 ((q.get x.1).setMark x.2 v)) q

/-- Changed marks change routes, and clear the notice of a stop that is no longer the next (R10, R12). -/
theorem changeMarks_jt (routes : List (Nat × Nat)) (v : Bool) :
    ∃ n, (changeMarks routes v s).jt = s.jt.withRoutes (s.jt.slots.setMarks routes v) n := by
  have marked : ∀ t : State, (routes.foldl (fun w x => markRoute x.1 x.2 w) t).jt = t.jt := fun t =>
    foldl_keeps State.jt (fun w (x : Nat × Nat) => markRoute_jt x.1 x.2 w) routes t
  unfold changeMarks
  dsimp only
  split
  · split <;> exact ⟨_, by simp only [setNotice_jt, marked]; rfl⟩
  · exact ⟨_, by simp only [marked]; rfl⟩

theorem doCancelStop_jt (slot index : Nat) : ∃ q n, (doCancelStop slot index s).state.jt = s.jt.withRoutes q n := by
  unfold doCancelStop
  split
  · exact ⟨_, _, rfl⟩
  · dsimp only
    split_ifs
    · exact ⟨_, _, rfl⟩
    · exact ⟨_, _, rfl⟩
    · exact ⟨_, _, rfl⟩
    · exact ⟨_, changeMarks_jt s _ true⟩

theorem doRestoreStop_jt (slot index : Nat) : ∃ q n, (doRestoreStop slot index s).state.jt = s.jt.withRoutes q n := by
  unfold doRestoreStop
  split
  · exact ⟨_, _, rfl⟩
  · dsimp only
    split_ifs
    · exact ⟨_, _, rfl⟩
    · exact ⟨_, _, rfl⟩
    · exact ⟨_, changeMarks_jt s _ false⟩

/-- The entry that ASSIGN UNIT HOME places (R14). -/
def homePortion (unit slot index : Nat) : Portion :=
  { unit := unit, slot := slot, delta := 0, partAt := none, state := .attached, home := true, assignedAt := index, pos := none }

/-- The Journey Tracker once ASSIGN UNIT HOME has been taken (R14, R45). -/
def Jt.begun (j : Jt) (unit slot index : Nat) : Jt :=
  { j with
    slots := j.slots.set slot { j.slots.get slot with state := .inUse }
    portions := j.portions ++ [homePortion unit slot index]
    phase := .atStop index
    notice := .atPlatform index
    odo := j.odo.newLeg false }.positioned.timed

theorem doAssignUnitHome_jt (unit slot index partAt : Nat) :
    (doAssignUnitHome unit slot index partAt s).state.jt = s.jt
      ∨ s.jt.phase = .noJourney ∧ (doAssignUnitHome unit slot index partAt s).state.jt = s.jt.begun unit slot index := by
  unfold doAssignUnitHome
  dsimp only
  split_ifs with h
  · exact .inl rfl
  · exact .inl rfl
  · exact .inl rfl
  · exact .inl rfl
  · exact .inl rfl
  · exact .inl rfl
  · exact .inr ⟨not_not.mp h, by simp [Jt.begun, homePortion]⟩

/-- The Journey Tracker once ASSIGN UNIT has placed an entry, the unit's slot before it given (R15, R16). -/
def Jt.placed (j : Jt) (p : Portion) (old : Option Nat) : Jt :=
  let j1 := (j.putPortion p).formPosition p.unit
  let j2 := { j1 with slots := j1.slots.set p.slot { j1.slots.get p.slot with state := .inUse } }
  match old with
  | some o => j2.releaseSlot o
  | none => j2

/-- The entry that ASSIGN UNIT places (R15). -/
def assignedPortion (unit slot index partAt c : Nat) : Portion :=
  { unit := unit, slot := slot, delta := Int.ofNat index - Int.ofNat c, partAt := partAtOf partAt, state := .attached,
    home := false, assignedAt := c, pos := none }

theorem doAssignUnit_jt (unit slot index partAt : Nat) :
    (doAssignUnit unit slot index partAt s).state.jt = s.jt
      ∨ ∃ c, s.jt.phase = .atStop c ∧ assignCheck unit slot index partAt c s = none
        ∧ (doAssignUnit unit slot index partAt s).state.jt
          = s.jt.placed (assignedPortion unit slot index partAt c) ((s.jt.portionOf unit).map Portion.slot) := by
  unfold doAssignUnit
  split
  · next c h =>
    split
    · exact .inl rfl
    · next a =>
      refine .inr ⟨c, h, a, ?_⟩
      simp only [done_state, assignPurge_jt, reviseAll_jt, withAdvisory_jt, State.setJt_jt]
      rfl
  · exact .inl rfl

/-- An IN_USE slot goes back to READY (R17). -/
def RouteSlot.released (r : RouteSlot) : RouteSlot := if r.state = .inUse then { r with state := .ready } else r

/-- The Journey Tracker once END JOURNEY has been taken (R17, R45). -/
def Jt.ended (j : Jt) : Jt :=
  { j with
    slots := j.slots.mapNumbered fun _ => RouteSlot.released
    portions := []
    phase := .noJourney
    notice := .none
    odo := j.odo.newLeg false }.positioned.timed

theorem doEndJourney_jt : (doEndJourney s).state.jt = s.jt ∨ (doEndJourney s).state.jt = s.jt.ended := by
  unfold doEndJourney
  dsimp only
  split_ifs
  · exact .inl rfl
  · right
    simp only [done_state, reviseAll_jt, markSeats_jt, State.setCm_jt, formFigures_jt, State.setJt_jt]
    rfl

/-- The Journey Tracker once DEPARTED has been taken at a stop, but for failed splits (R19, R45). -/
def Jt.legBegun (j : Jt) (c : Nat) : Jt :=
  { j with phase := .running c, notice := .none, odo := j.odo.newLeg true }.positioned.timed

theorem doDeparted_jt : (doDeparted s).state.jt = s.jt
    ∨ ∃ c back, s.jt.phase = .atStop c ∧ (doDeparted s).state.jt = (s.jt.legBegun c).reattached back := by
  unfold doDeparted
  split
  · next c h =>
    obtain ⟨back, e⟩ := departureEvent_jt c
      (formFigures (setNotice .none (setOdo (Odometer.newLeg true) (setPhase (.running c) s))))
    exact .inr ⟨c, back, h, by dsimp only [done_state]; rw [e]; simp [Jt.legBegun]⟩
  · exact .inl rfl
  · exact .inl rfl

/-- The Journey Tracker once ARRIVED has taken stop m, from what the end of the leg left (R22, R45). -/
def Jt.legEnded (j : Jt) (m : Nat) (last : Bool) : Jt :=
  { j with phase := if last then .terminated m else .atStop m, notice := .atPlatform m, odo := j.odo.newLeg false }.positioned.timed

theorem doArrived_jt (code : Nat) : (doArrived code s).state.jt = s.jt
    ∨ ∃ c m, s.jt.phase = .running c ∧ arrivalStop s.jt.homeStops c code = some m
      ∧ (doArrived code s).state.jt
        = (endLeg (decide (s.jt.next = some m)) s).jt.legEnded m (decide (m = s.jt.homeLast)) := by
  unfold doArrived
  split
  · next c h =>
    dsimp only
    split
    · exact .inl rfl
    · next m a =>
      refine .inr ⟨c, m, h, a, ?_⟩
      simp only [done_state, arrivalEvent_jt]
      rw [apply_ite State.jt, raise_jt, ite_self]
      simp [Jt.legEnded]
  · exact .inl rfl

theorem doSetDirection_jt (direction : Nat) : ∃ d, (doSetDirection direction s).state.jt = { s.jt with direction := d } := by
  unfold doSetDirection
  split
  · exact ⟨_, rfl⟩
  · split
    · exact ⟨_, rfl⟩
    · split_ifs
      · exact ⟨_, rfl⟩
      · exact ⟨_, by simp; rfl⟩

theorem doSetTime_jt (minute : Nat) : (doSetTime minute s).state.jt = s.jt
    ∨ minute < 1440 ∧ (doSetTime minute s).state.jt = { s.jt with minute := minute, timeValid := true }.timed := by
  unfold doSetTime
  split_ifs with h
  · exact .inl rfl
  · exact .inr ⟨by omega, by simp⟩

theorem doConfigureOdometer_jt (p : OdoConfig) : (doConfigureOdometer p s).state.jt = s.jt
    ∨ ∃ n, configFault p = none ∧ n ≤ s.jt.odo.skips ∧ (n ≤ p.skipLimit ∨ n = 0)
      ∧ (doConfigureOdometer p s).state.jt = { s.jt with config := p, odo := { s.jt.odo with skips := n } } := by
  unfold doConfigureOdometer
  split
  · exact .inl rfl
  · next h =>
    refine .inr ?_
    dsimp only
    split_ifs with a b
    · exact ⟨0, h, Nat.zero_le _, .inr rfl, rfl⟩
    · exact ⟨_, h, b, .inl le_rfl, rfl⟩
    · exact ⟨_, h, b, .inl le_rfl, rfl⟩
    · exact ⟨_, h, le_rfl, .inl (by omega), rfl⟩

theorem doPositionFix_jt (x : Nat) : (doPositionFix x s).state.jt = s.jt
    ∨ ∃ l, (doPositionFix x s).state.jt = { s.jt with odo := { s.jt.odo with
        dist := (fixDistance s.jt.odo.dist x s.jt.config.offset).1, rem := 0, tainted := true, fixLimited := l } }.positioned := by
  unfold doPositionFix
  split
  · exact .inr ⟨_, by simp; rfl⟩
  · exact .inl rfl

theorem doReadJourney_jt : (doReadJourney s).state.jt
    = { s.jt with odo := { s.jt.odo with pulseSat := false, distSat := false, fixLimited := false } } := rfl

@[simp] theorem departEntry_jt (id unit : Nat) : (departEntry id unit s).jt = s.jt := by
  unfold departEntry
  dsimp only
  split
  · split_ifs <;> simp
  · simp

@[simp] theorem takeSplit_jt (unit : Nat) : (takeSplit unit s).jt = s.jt.setPortionState unit .parting := by
  unfold takeSplit
  dsimp only
  rw [foldl_keeps State.jt fun t id => departEntry_jt t id unit]
  simp

theorem doSplit_jt (unit : Nat) : (doSplit unit s).state.jt = s.jt
    ∨ ∃ p, s.jt.portionOf unit = some p ∧ p.home = false
      ∧ ((doSplit unit s).state.jt = s.jt.setPortionState unit .parting
        ∨ (doSplit unit s).state.jt = (s.jt.setPortionState unit .parting).removePortion unit) := by
  unfold doSplit
  split
  · split
    · exact .inl rfl
    · split
      · exact .inl rfl
      · next p h =>
        split
        · exact .inl rfl
        · next a =>
          refine .inr ⟨p, h, by simp_all, ?_⟩
          have k := checkSplit_jt unit (takeSplit unit s)
          rw [takeSplit_jt] at k
          exact k.imp (fun h => h) And.right
  · exact .inl rfl

/-! ## Events -/

theorem cycleClose_jt : ∃ back, (cycleClose s).jt = s.jt.reattached back := by
  unfold cycleClose
  split
  · exact ⟨_, s.jt.reattached_none.symm⟩
  · obtain ⟨back, h⟩ := stopConsist_jt (s.setBc { s.bc.enter .none with state := .off, rxA := .hunt, rxB := .hunt })
    exact ⟨back, by simpa [backboneOff] using h⟩
  · exact ⟨_, s.jt.reattached_none.symm⟩

@[simp] theorem beaconEnd_jt : (beaconEnd s).jt = s.jt := by
  unfold beaconEnd; split <;> simp
@[simp] theorem slotStart_jt : (slotStart s).jt = s.jt := by
  unfold slotStart
  split
  · rfl
  · split <;> rfl
@[simp] theorem contentComplete_jt : (contentComplete s).jt = s.jt := by
  unfold contentComplete
  split
  · split_ifs <;> rfl
  · rfl
@[simp] theorem takeSymbols_jt (line : Line) (t : Nat) (symbols : List Symbol) : (takeSymbols line t symbols s).jt = s.jt := by
  unfold takeSymbols
  dsimp only
  split
  · split <;> rfl
  · rfl
@[simp] theorem callStart_jt : (callStart s).jt = s.jt := by
  have h : (callOfCycle s).1.jt = s.jt := by
    unfold callOfCycle
    dsimp only
    split
    · rfl
    · split_ifs <;> rfl
    · split_ifs <;> rfl
  unfold callStart
  split
  · exact h
  · rfl
@[simp] theorem callEnd_jt : (callEnd s).jt = s.jt := by
  unfold callEnd
  split
  · dsimp only
    split <;> simp
  · rfl
@[simp] theorem gapStart_jt : (gapStart s).jt = s.jt := by
  unfold gapStart
  split
  · dsimp only
    split_ifs <;> simp
  · rfl

/-- Only five events may change the Journey Tracker: a pulse, a window, a minute, and by a split the end of a slot or of the
cycle. -/
theorem blockEvent_jt (c : Instr) : (blockEvent c s).jt = s.jt ∨ (blockEvent c s).jt = (pulse s).jt
    ∨ (blockEvent c s).jt = (windowExpiry s).jt ∨ (blockEvent c s).jt = (minuteTick s).jt
    ∨ s.jt.atSlotEnd (blockEvent c s).jt ∨ ∃ back, (blockEvent c s).jt = s.jt.reattached back := by
  cases c with
  | odoPulse => exact .inr (.inl rfl)
  | odometerWindowExpiry => exact .inr (.inr (.inl rfl))
  | minuteTimerExpiry => exact .inr (.inr (.inr (.inl rfl)))
  | coachSlotEnd => exact .inr (.inr (.inr (.inr (.inl (slotEnd_jt s)))))
  | cycleEnd => exact .inr (.inr (.inr (.inr (.inr (cycleClose_jt s)))))
  | _ => exact .inl (by simp [blockEvent])

end Sys2Proof.Machine
end

section
/-! The portion table and the odometer ranges, kept by every step. -/

namespace Sys2Proof.Machine

variable {j k : Jt}

/-! ## The portion table -/

theorem PortionsOk.of_eq (e : k = j) (h : PortionsOk j) : PortionsOk k := e ▸ h

/-- The form of the portion table sees the entries and whether there is a journey. -/
theorem PortionsOk.congr (h : PortionsOk j) (e : k.portions = j.portions) (p : k.phase = .noJourney ↔ j.phase = .noJourney) :
    PortionsOk k := by
  simpa only [PortionsOk, e, p] using h

/-- Entries changed each on its own, the unit and the home mark kept, a home entry staying ATTACHED. -/
theorem PortionsOk.of_map (h : PortionsOk j) {f : Portion → Portion} (e : k.portions = j.portions.map f)
    (p : k.phase = .noJourney ↔ j.phase = .noJourney) (u : ∀ q ∈ j.portions, (f q).unit = q.unit)
    (m : ∀ q ∈ j.portions, (f q).home = q.home)
    (a : ∀ q ∈ j.portions, q.home = true → q.state = .attached → (f q).state = .attached) : PortionsOk k := by
  obtain ⟨len, units, homes, none, att⟩ := h
  have us : (j.portions.map f).map (·.unit) = j.portions.map (·.unit) := by
    rw [List.map_map]; exact List.map_congr_left u
  have hs : ((j.portions.map f).filter (·.home)).length = (j.portions.filter (·.home)).length := by
    rw [List.filter_map, List.length_map]
    exact congrArg List.length (List.filter_congr m)
  refine ⟨by rw [e, List.length_map]; exact len, by rw [e, us]; exact units, by rw [e, hs, homes]; simp only [p],
    fun g => by rw [e, none (p.mp g)]; rfl, fun q hq => ?_⟩
  rw [e] at hq
  obtain ⟨r, hr, rfl⟩ := List.mem_map.mp hq
  exact fun g => a r hr (m r hr ▸ g) (att r hr (m r hr ▸ g))

/-- Entries leave the table, none of them the home entry. -/
theorem PortionsOk.of_filter (h : PortionsOk j) {keep : Portion → Bool} (e : k.portions = j.portions.filter keep)
    (p : k.phase = j.phase) (m : ∀ q ∈ j.portions, q.home = true → keep q = true) : PortionsOk k := by
  obtain ⟨len, units, homes, none, att⟩ := h
  have sub : (j.portions.filter keep).Sublist j.portions := List.filter_sublist
  have hs : (j.portions.filter keep).filter (·.home) = j.portions.filter (·.home) := by
    rw [List.filter_filter]
    refine List.filter_congr fun q hq => ?_
    cases g : q.home
    · rfl
    · simp [m q hq g]
  refine ⟨by rw [e]; exact sub.length_le.trans len, by rw [e]; exact (sub.map _).nodup units, by rw [e, hs, homes, p],
    fun g => by rw [e, none (p ▸ g)]; rfl, fun q hq => att q ?_⟩
  rw [e] at hq
  exact sub.subset hq

/-- The entry of a unit is the one entry that names it. -/
theorem PortionsOk.portionOf_of_mem (h : PortionsOk j) {p : Portion} (m : p ∈ j.portions) : j.portionOf p.unit = some p := by
  obtain ⟨-, units, -, -, -⟩ := h
  unfold Jt.portionOf
  generalize j.portions = l at m units
  induction l with
  | nil => cases m
  | cons x l ih =>
    simp only [List.map_cons, List.nodup_cons, List.mem_map, not_exists, not_and] at units
    rw [List.find?_cons]
    obtain rfl | m := List.mem_cons.mp m
    · simp
    · have n : x.unit ≠ p.unit := fun g => units.1 p m g.symm
      simpa [n] using ih m units.2

theorem portionOf_mem {u : Nat} {p : Portion} (h : j.portionOf u = some p) : p ∈ j.portions ∧ p.unit = u :=
  ⟨List.mem_of_find?_eq_some h, by simpa using List.find?_some h⟩

theorem portionOf_eq_none {u : Nat} : j.portionOf u = none ↔ ∀ p ∈ j.portions, p.unit ≠ u := by
  simp [Jt.portionOf]

/-- No other entry of the unit of an entry that is not home is home. -/
theorem PortionsOk.not_home (h : PortionsOk j) {u : Nat} {p : Portion} (e : j.portionOf u = some p) (n : p.home = false)
    {q : Portion} (m : q ∈ j.portions) (g : q.unit = u) : q.home = false := by
  have := h.portionOf_of_mem m
  rw [g, e] at this
  cases this
  exact n

theorem PortionsOk.reattached (h : PortionsOk j) (back : Nat → Bool) : PortionsOk (j.reattached back) :=
  h.of_map rfl Iff.rfl (fun q _ => by split_ifs <;> rfl) (fun q _ => by split_ifs <;> rfl)
    (fun q _ _ a => by split_ifs <;> simp [a])

theorem PortionsOk.positioned (h : PortionsOk j) : PortionsOk j.positioned :=
  h.of_map rfl Iff.rfl (fun _ _ => rfl) (fun _ _ => rfl) (fun _ _ _ a => a)

theorem PortionsOk.timed (h : PortionsOk j) : PortionsOk j.timed := h

theorem PortionsOk.setPortionState (h : PortionsOk j) {u : Nat} {p : Portion} (e : j.portionOf u = some p) (n : p.home = false)
    (st : PortionState) : PortionsOk (j.setPortionState u st) := by
  refine h.of_map rfl Iff.rfl (fun q _ => by split_ifs <;> rfl) (fun q _ => by split_ifs <;> rfl) fun q m g a => ?_
  have : q.unit ≠ u := fun x => by simp [h.not_home e n m x] at g
  simpa [this] using a

theorem releaseSlot_portions (j : Jt) (slot : Nat) : (j.releaseSlot slot).portions = j.portions := by
  unfold Jt.releaseSlot; dsimp only; split_ifs <;> rfl

theorem releaseSlot_phase (j : Jt) (slot : Nat) : (j.releaseSlot slot).phase = j.phase := by
  unfold Jt.releaseSlot; dsimp only; split_ifs <;> rfl

theorem removePortion_eq {u : Nat} {p : Portion} (e : j.portionOf u = some p) :
    j.removePortion u = { j with portions := j.portions.filter fun q => q.unit ≠ u }.releaseSlot p.slot := by
  simp [Jt.removePortion, e]

theorem PortionsOk.removePortion (h : PortionsOk j) {u : Nat} {p : Portion} (e : j.portionOf u = some p) (n : p.home = false) :
    PortionsOk (j.removePortion u) := by
  rw [removePortion_eq e]
  refine h.of_filter (releaseSlot_portions ..) (releaseSlot_phase ..) fun q m g => ?_
  have : q.unit ≠ u := fun x => by simp [h.not_home e n m x] at g
  simpa using this

/-- What the end of a slot may do: remove the portion of a unit that is PARTING, which is not home. -/
theorem PortionsOk.atSlotEnd (h : PortionsOk j) (e : j.atSlotEnd k) : PortionsOk k := by
  obtain rfl | ⟨u, a, rfl⟩ := e
  · exact h
  · obtain ⟨p, hp, st⟩ : ∃ p, j.portionOf u = some p ∧ p.state = .parting := by
      simpa [Option.any_eq_true] using a
    refine h.removePortion hp ?_
    obtain ⟨-, -, -, -, att⟩ := h
    by_contra g
    simp [att p (portionOf_mem hp).1 (by simpa using g)] at st

theorem PortionsOk.begun (h : PortionsOk j) (p : j.phase = .noJourney) (unit slot index : Nat) :
    PortionsOk (j.begun unit slot index) := by
  obtain ⟨-, -, -, none, -⟩ := h
  refine (PortionsOk.positioned ?_).timed
  simp [PortionsOk, none p, homePortion, Config.maxPortions]

theorem portionsOk_ended (j : Jt) : PortionsOk j.ended := by
  simp [PortionsOk, Jt.ended, Jt.positioned, Jt.timed]

/-- An entry placed is the unit's, in the place of an entry that is not home or, in a table with room, at the end. -/
theorem PortionsOk.putPortion (h : PortionsOk j) {p : Portion} (n : p.home = false) (g : j.phase ≠ .noJourney)
    (old : ∀ q, j.portionOf p.unit = some q → q.home = false)
    (room : j.portionOf p.unit = none → j.portions.length < Config.maxPortions) : PortionsOk (j.putPortion p) := by
  unfold Jt.putPortion Jt.assigned
  cases e : j.portionOf p.unit with
  | some q =>
    refine h.of_map (f := fun r => if r.unit = p.unit then p else r) (by simp) (by simp) (fun r _ => ?_) (fun r m => ?_) fun r m x a => ?_
    · split_ifs with x
      · exact x.symm
      · rfl
    · split_ifs with x
      · rw [n, h.not_home e (old q e) m x]
      · rfl
    · have : r.unit ≠ p.unit := fun y => by simp [h.not_home e (old q e) m y] at x
      simpa [this] using a
  | none =>
    obtain ⟨len, units, homes, -, att⟩ := h
    have fresh := portionOf_eq_none.mp e
    simp only [Option.isSome_none, Bool.false_eq_true, if_false]
    refine ⟨?_, ?_, ?_, fun x => absurd x g, ?_⟩
    · have := room e
      simp; omega
    · simp only [List.map_append, List.map_cons, List.map_nil, List.nodup_append, List.nodup_cons, List.not_mem_nil,
        not_false_eq_true, List.nodup_nil, and_self, List.mem_map, List.mem_cons, or_false, true_and]
      refine ⟨units, ?_⟩
      rintro _ ⟨q, hq, rfl⟩ _ rfl
      exact fresh q hq
    · simpa [n] using homes
    · simp only [List.mem_append, List.mem_cons, List.not_mem_nil, or_false]
      rintro q (hq | rfl) x
      · exact att q hq x
      · simp [n] at x

theorem PortionsOk.placed (h : PortionsOk j) {p : Portion} (n : p.home = false) (g : j.phase ≠ .noJourney)
    (old : ∀ q, j.portionOf p.unit = some q → q.home = false)
    (room : j.portionOf p.unit = none → j.portions.length < Config.maxPortions) (o : Option Nat) : PortionsOk (j.placed p o) := by
  have k : PortionsOk ((j.putPortion p).formPosition p.unit) :=
    (h.putPortion n g old room).of_map rfl Iff.rfl (fun q _ => by split_ifs <;> rfl) (fun q _ => by split_ifs <;> rfl)
      (fun q _ _ a => by split_ifs <;> simp [a])
  unfold Jt.placed
  cases o with
  | none => exact k.congr rfl Iff.rfl
  | some o => exact k.congr (releaseSlot_portions ..) (by dsimp only; rw [releaseSlot_phase])

/-- A check that passes, and those after it. -/
theorem check_eq_none {p : Prop} [Decidable p] {r : ResultCode} {rest : Option ResultCode} :
    (if p then some r else rest) = none ↔ ¬ p ∧ rest = none := by
  split_ifs <;> simp [*]

/-- ASSIGN UNIT passes its checks only for a unit whose entry is not home, or in a table with room (R15). -/
theorem assignCheck_none {unit slot index partAt c : Nat} {s : State} (h : assignCheck unit slot index partAt c s = none) :
    (∀ q, s.jt.portionOf unit = some q → q.home = false)
      ∧ (s.jt.portionOf unit = none → s.jt.portions.length < Config.maxPortions) := by
  simp only [assignCheck, check_eq_none] at h
  obtain ⟨-, old, -, -, room, -⟩ := h
  exact ⟨fun q e => by simp_all, fun e => by simpa [e] using room⟩

theorem putPortion_phase (j : Jt) (p : Portion) : (j.putPortion p).phase = j.phase := by
  unfold Jt.putPortion; split_ifs <;> rfl

theorem act_portionsOk (c : Instr) (s : State) (h : PortionsOk s.jt) : PortionsOk (act c s).state.jt := by
  have routes {t : Jt} (e : ∃ q n, t = s.jt.withRoutes q n) : PortionsOk t := by
    obtain ⟨q, n, rfl⟩ := e
    exact h
  cases m : movesJourney c with
  | false => rw [act_jt m]; exact h
  | true =>
    cases c with
    | openRoute => exact routes (doOpenRoute_jt ..)
    | appendStops => exact routes (doAppendStops_jt ..)
    | closeRoute => exact routes (doCloseRoute_jt ..)
    | dropRoute => exact routes (doDropRoute_jt ..)
    | cancelStop => exact routes (doCancelStop_jt ..)
    | restoreStop => exact routes (doRestoreStop_jt ..)
    | assignUnitHome tag unit slot index partAt =>
      obtain e | ⟨p, e⟩ := doAssignUnitHome_jt s unit slot index partAt
      · exact .of_eq e h
      · exact .of_eq e (h.begun p ..)
    | assignUnit tag unit slot index partAt =>
      obtain e | ⟨c, p, a, e⟩ := doAssignUnit_jt s unit slot index partAt
      · exact .of_eq e h
      · obtain ⟨old, room⟩ := assignCheck_none a
        exact .of_eq e (h.placed rfl (by simp [p]) old room _)
    | endJourney =>
      obtain e | e := doEndJourney_jt s
      · exact .of_eq e h
      · exact .of_eq e (portionsOk_ended _)
    | departed =>
      obtain e | ⟨c, back, p, e⟩ := doDeparted_jt s
      · exact .of_eq e h
      · have k : PortionsOk (s.jt.legBegun c) := by
          unfold Jt.legBegun
          exact PortionsOk.timed (PortionsOk.positioned (h.congr (by rfl) (by simp [p])))
        exact .of_eq e (k.reattached back)
    | arrived tag code =>
      obtain e | ⟨c, m, p, -, e⟩ := doArrived_jt s code
      · exact .of_eq e h
      · obtain ⟨len, n, g⟩ := endLeg_jt (decide (s.jt.next = some m)) s
        have k : PortionsOk ((endLeg (decide (s.jt.next = some m)) s).jt.legEnded m (decide (m = s.jt.homeLast))) := by
          unfold Jt.legEnded
          exact (PortionsOk.positioned (h.congr (by rw [g]) (by split_ifs <;> simp [p]))).timed
        exact .of_eq e k
    | setDirection tag direction =>
      obtain ⟨d, e⟩ := doSetDirection_jt s direction
      exact .of_eq e h
    | setTime tag minute =>
      obtain e | ⟨-, e⟩ := doSetTime_jt s minute
      · exact .of_eq e h
      · exact .of_eq e h
    | configureOdometer tag p =>
      obtain e | ⟨n, -, -, -, e⟩ := doConfigureOdometer_jt s p
      · exact .of_eq e h
      · exact .of_eq e h
    | positionFix tag x =>
      obtain e | ⟨l, e⟩ := doPositionFix_jt s x
      · exact .of_eq e h
      · exact .of_eq e (PortionsOk.positioned (h.congr rfl Iff.rfl))
    | readJourney => exact h
    | split tag unit =>
      obtain e | ⟨p, hp, n, e⟩ := doSplit_jt s unit
      · exact .of_eq e h
      · have k := h.setPortionState hp n .parting
        obtain e | e := e
        · exact .of_eq e k
        · have hq : (s.jt.setPortionState unit .parting).portionOf unit = some { p with state := .parting } := by
            have mem : { p with state := .parting } ∈ (s.jt.setPortionState unit .parting).portions :=
              List.mem_map.mpr ⟨p, (portionOf_mem hp).1, by simp [(portionOf_mem hp).2]⟩
            simpa [(portionOf_mem hp).2] using k.portionOf_of_mem mem
          exact .of_eq e (k.removePortion hq n)
    | _ => cases m

/-- A window may take a stop's phase to RUNNING, never begin or end a journey (R20). -/
theorem windowExpiry_portionsOk (s : State) (h : PortionsOk s.jt) : PortionsOk (windowExpiry s).jt := by
  rw [windowExpiry_jt]
  obtain ⟨dist, rem, ps, ds, e, -, -⟩ := windowDistance_jt s.jt.odo.pulses s
  set t := windowSpeed s.jt.odo.pulses (windowDistance s.jt.odo.pulses s) with ht
  have k : PortionsOk t.jt := h.congr (by rw [ht, windowSpeed_jt, e]) (by rw [ht, windowSpeed_jt, e])
  refine PortionsOk.positioned (PortionsOk.congr (j := (windowDeparture t).jt) ?_ rfl Iff.rfl)
  by_cases d : ∀ c, t.jt.phase = .atStop c → t.jt.odo.dist ≤ t.jt.config.creep
  · rwa [windowDeparture_of_not d]
  · push Not at d
    obtain ⟨c, p, d⟩ := d
    obtain ⟨back, g⟩ := windowDeparture_jt p d
    rw [g]
    exact PortionsOk.reattached (k.congr (by rfl) (by simp [p, Jt.departedBy, Jt.timed])) back

theorem blockEvent_portionsOk (c : Instr) (s : State) (h : PortionsOk s.jt) : PortionsOk (blockEvent c s).jt := by
  obtain e | e | e | e | e | ⟨back, e⟩ := blockEvent_jt s c
  · exact .of_eq e h
  · exact .of_eq e h
  · exact .of_eq e (windowExpiry_portionsOk s h)
  · rw [minuteTick_jt] at e
    exact .of_eq e h
  · exact h.atSlotEnd e
  · exact .of_eq e (h.reattached back)

theorem portionsOk_reset (config : OdoConfig) : PortionsOk (.reset config) := by simp [PortionsOk, Jt.reset]

/-- Every step keeps the portion table lawful (R13 to R15, R18). -/
theorem step_keeps_portionsOk {s t : State} (h : PortionsOk s.jt) (x : step s = .next t) : PortionsOk t.jt :=
  (unlinked_jt PortionsOk).step act_portionsOk blockEvent_portionsOk (fun _ _ => portionsOk_reset _)
    (fun _ _ => portionsOk_reset _) (fun _ h => h) h x

end Sys2Proof.Machine
end

section
/-! The ranges of the odometer configuration and state, kept by every step. -/

namespace Sys2Proof.Machine

variable {j k : Jt}

theorem OdometerOk.of_eq (e : k = j) (h : OdometerOk j) : OdometerOk k := e ▸ h

/-- The ranges of the eight parameters (R29). -/
theorem configFault_eq_none (p : OdoConfig) : configFault p = none ↔
    (1000 ≤ p.pulseLen ∧ p.pulseLen ≤ 60000) ∧ (1 ≤ p.shift ∧ p.shift ≤ 6) ∧ (100 ≤ p.vmin ∧ p.vmin ≤ 5000)
      ∧ (20 ≤ p.creep ∧ p.creep ≤ 500) ∧ (1 ≤ p.correction ∧ p.correction ≤ 50) ∧ (10 ≤ p.offset ∧ p.offset ≤ 5000)
      ∧ (500 ≤ p.minLeg ∧ p.minLeg ≤ 50000) ∧ 1 ≤ p.skipLimit ∧ p.skipLimit ≤ 15 := by
  have check (b : Bool) (n : Nat) (rest : Option Nat) : (if (!b) = true then some n else rest) = none ↔ b = true ∧ rest = none := by
    cases b <;> simp
  simp only [configFault, check, Bool.and_eq_true, decide_eq_true_eq, and_true]

/-- The parameters of a lawful odometer are in their ranges. -/
theorem OdometerOk.skipLimit_pos (h : OdometerOk j) : 1 ≤ j.config.skipLimit := by
  obtain ⟨cfg, -⟩ := h
  obtain ⟨-, -, -, -, -, -, -, lo, -⟩ := (configFault_eq_none _).mp cfg
  exact lo

theorem arrivalClock_lt (valid : Bool) (minute etaMin : Nat) : ∀ k ∈ arrivalClock valid minute etaMin, k < 1440 := by
  unfold arrivalClock
  split_ifs
  · intro k hk
    cases hk
    exact Nat.mod_lt _ (by decide)
  · intro k hk
    cases hk

/-- eta_min and the arrival clock formed are in their ranges when eta_s is (R40). -/
theorem OdometerOk.of_timed (cfg : configFault j.config = none) (minute : j.minute < 1440) (dist : j.odo.dist ≤ Config.maxDist)
    (rem : j.odo.rem < 1000000) (speed : j.odo.speed ≤ 125000) (eta : j.odo.etaS ≤ 5999) (pulses : j.odo.pulses ≤ 4095)
    (skips : j.odo.skips ≤ j.config.skipLimit) : OdometerOk j.timed :=
  ⟨cfg, minute, dist, rem, speed, eta, by simp only [Jt.timed, ceilDiv]; omega, pulses, skips, arrivalClock_lt _ _ _⟩

theorem OdometerOk.timed (h : OdometerOk j) : OdometerOk j.timed := by
  obtain ⟨cfg, minute, dist, rem, speed, eta, -, pulses, skips, -⟩ := h
  exact .of_timed cfg minute dist rem speed eta pulses skips

theorem OdometerOk.positioned (h : OdometerOk j) : OdometerOk j.positioned := h

/-- The odometer at the start or end of a leg (R45). -/
theorem OdometerOk.newLeg (h : OdometerOk j) (held : Bool) : OdometerOk { j with odo := j.odo.newLeg held } := by
  obtain ⟨cfg, minute, -, -, speed, -, min, pulses, skips, clock⟩ := h
  exact ⟨cfg, minute, Nat.zero_le _, Nat.succ_pos _, speed, Nat.zero_le _, min, pulses, skips, clock⟩

/-- A filter step stays between the speed and the sample (R37). -/
theorem filterStep_le {k v sample m : Nat} (hv : v ≤ m) (hs : sample ≤ m) : filterStep k v sample ≤ m := by
  have up := Nat.div_le_self (sample - v) (2 ^ k)
  unfold filterStep
  split_ifs
  · exact hs
  · omega
  · exact hs
  · exact (Nat.sub_le _ _).trans hv

theorem fixDistance_le {dist limit : Nat} (h : dist ≤ Config.maxDist) (x : Nat) : (fixDistance dist x limit).1 ≤ Config.maxDist := by
  unfold fixDistance
  dsimp only
  split_ifs <;> dsimp only <;> omega

/-- The end of a leg keeps the ranges: a pulse length is clamped, and the skip counter stops at its limit (R47, R48). -/
theorem OdometerOk.endLeg {s : State} (h : OdometerOk s.jt) (atNext : Bool) : OdometerOk (endLeg atNext s).jt := by
  obtain ⟨cfg, minute, dist, rem, speed, eta, min, pulses, skips, clock⟩ := h
  unfold Machine.endLeg
  split
  · obtain ⟨value, e⟩ := calibrate_jt s.jt.legEff s
    refine .of_eq e ⟨?_, minute, dist, rem, speed, eta, min, pulses, Nat.zero_le _, clock⟩
    rw [configFault_eq_none] at cfg ⊢
    refine ⟨?_, cfg.2⟩
    dsimp only [clampPulse]
    omega
  · refine .of_eq (skip_jt s) ⟨cfg, minute, dist, rem, speed, eta, min, pulses, ?_, clock⟩
    dsimp only
    split_ifs <;> omega

theorem releaseSlot_odometer (j : Jt) (slot : Nat) : (j.releaseSlot slot).config = j.config
    ∧ (j.releaseSlot slot).minute = j.minute ∧ (j.releaseSlot slot).odo = j.odo := by
  unfold Jt.releaseSlot
  dsimp only
  split_ifs <;> exact ⟨rfl, rfl, rfl⟩

/-- The ranges see the configuration, the time and the odometer. -/
theorem OdometerOk.congr (h : OdometerOk j) (e : k.config = j.config ∧ k.minute = j.minute ∧ k.odo = j.odo) : OdometerOk k := by
  obtain ⟨c, m, o⟩ := e
  simpa only [OdometerOk, c, m, o] using h

theorem OdometerOk.reattached (h : OdometerOk j) (back : Nat → Bool) : OdometerOk (j.reattached back) := h

theorem OdometerOk.removePortion (h : OdometerOk j) (u : Nat) : OdometerOk (j.removePortion u) := by
  unfold Jt.removePortion
  split
  · exact OdometerOk.congr (j := { j with portions := j.portions.filter fun q => q.unit ≠ u }) h (releaseSlot_odometer ..)
  · exact h

theorem OdometerOk.atSlotEnd (h : OdometerOk j) (e : j.atSlotEnd k) : OdometerOk k := by
  obtain e | ⟨u, -, e⟩ := e
  · exact .of_eq e h
  · exact .of_eq e (h.removePortion u)

theorem OdometerOk.putPortion (h : OdometerOk j) (p : Portion) : OdometerOk (j.putPortion p) := by
  unfold Jt.putPortion
  split_ifs <;> exact h

theorem OdometerOk.placed (h : OdometerOk j) (p : Portion) (o : Option Nat) : OdometerOk (j.placed p o) := by
  have k := h.putPortion p
  unfold Jt.placed
  cases o with
  | none => exact k
  | some o => exact OdometerOk.congr (j := (j.putPortion p).formPosition p.unit) k (releaseSlot_odometer ..)

/-- Both flags that the ETA evaluation gives keep eta_s in its range (R39). -/
theorem evaluateEta_etaS (h : j.odo.etaS ≤ 5999) : (evaluateEta j).etaS ≤ 5999 := by
  unfold evaluateEta
  dsimp only
  split_ifs
  · exact Nat.zero_le _
  · exact Nat.min_le_left _ _
  · exact h

/-- The ETA evaluation changes eta_s and ETA_HELD (R39). -/
theorem evaluateEta_eq (j : Jt) : evaluateEta j = { j.odo with etaS := (evaluateEta j).etaS, etaHeld := (evaluateEta j).etaHeld } := by
  unfold evaluateEta
  dsimp only
  split_ifs <;> rfl

theorem OdometerOk.evaluated (h : OdometerOk j) : OdometerOk j.evaluated := by
  obtain ⟨cfg, minute, dist, rem, speed, eta, -, pulses, skips, -⟩ := h
  have e := evaluateEta_eq j
  refine OdometerOk.positioned (.of_timed (j := { j with odo := evaluateEta j }) cfg minute ?_ ?_ ?_ (evaluateEta_etaS eta) ?_ ?_)
  all_goals rw [e]; assumption

theorem OdometerOk.departedBy (h : OdometerOk j) (c : Nat) : OdometerOk (j.departedBy c) := by
  obtain ⟨cfg, minute, dist, rem, speed, -, -, pulses, skips, -⟩ := h
  exact .of_timed cfg minute dist rem speed (Nat.zero_le _) pulses skips

theorem windowExpiry_odometerOk (s : State) (h : OdometerOk s.jt) : OdometerOk (windowExpiry s).jt := by
  rw [windowExpiry_jt]
  obtain ⟨dist, rem, ps, ds, e, hd, hr⟩ := windowDistance_jt s.jt.odo.pulses s
  set t := windowSpeed s.jt.odo.pulses (windowDistance s.jt.odo.pulses s) with ht
  have k : OdometerOk t.jt := by
    obtain ⟨cfg, minute, d, r, speed, eta, min, -, skips, clock⟩ := h
    have f := windowSpeed_jt s.jt.odo.pulses (windowDistance s.jt.odo.pulses s)
    rw [e] at f
    refine .of_eq f ⟨cfg, minute, hd d, hr r, ?_, eta, min, Nat.zero_le _, skips, clock⟩
    exact filterStep_le speed (Nat.min_le_left _ _)
  refine OdometerOk.evaluated ?_
  by_cases d : ∀ c, t.jt.phase = .atStop c → t.jt.odo.dist ≤ t.jt.config.creep
  · rwa [windowDeparture_of_not d]
  · push Not at d
    obtain ⟨c, p, d⟩ := d
    obtain ⟨back, g⟩ := windowDeparture_jt p d
    exact .of_eq g ((k.departedBy c).reattached back)

theorem minuteTick_odometerOk (s : State) (h : OdometerOk s.jt) : OdometerOk (minuteTick s).jt := by
  obtain ⟨cfg, -, dist, rem, speed, eta, -, pulses, skips, -⟩ := h
  exact .of_eq (minuteTick_jt s) (.of_timed cfg (Nat.mod_lt _ (by decide)) dist rem speed eta pulses skips)

theorem pulse_odometerOk (s : State) (h : OdometerOk s.jt) : OdometerOk (pulse s).jt := by
  obtain ⟨cfg, minute, dist, rem, speed, eta, min, -, skips, clock⟩ := h
  exact ⟨cfg, minute, dist, rem, speed, eta, min, Nat.min_le_left _ _, skips, clock⟩

theorem act_odometerOk (c : Instr) (s : State) (h : OdometerOk s.jt) : OdometerOk (act c s).state.jt := by
  have routes {t : Jt} (e : ∃ q n, t = s.jt.withRoutes q n) : OdometerOk t := by
    obtain ⟨q, n, rfl⟩ := e
    exact h
  cases m : movesJourney c with
  | false => exact .of_eq (act_jt m s) h
  | true =>
    cases c with
    | openRoute => exact routes (doOpenRoute_jt ..)
    | appendStops => exact routes (doAppendStops_jt ..)
    | closeRoute => exact routes (doCloseRoute_jt ..)
    | dropRoute => exact routes (doDropRoute_jt ..)
    | cancelStop => exact routes (doCancelStop_jt ..)
    | restoreStop => exact routes (doRestoreStop_jt ..)
    | assignUnitHome tag unit slot index partAt =>
      obtain e | ⟨-, e⟩ := doAssignUnitHome_jt s unit slot index partAt
      · exact .of_eq e h
      · exact .of_eq e (h.newLeg false).timed
    | assignUnit tag unit slot index partAt =>
      obtain e | ⟨c, -, -, e⟩ := doAssignUnit_jt s unit slot index partAt
      · exact .of_eq e h
      · exact .of_eq e (h.placed _ _)
    | endJourney =>
      obtain e | e := doEndJourney_jt s
      · exact .of_eq e h
      · exact .of_eq e (h.newLeg false).timed
    | departed =>
      obtain e | ⟨c, back, -, e⟩ := doDeparted_jt s
      · exact .of_eq e h
      · exact .of_eq e (h.newLeg true).timed
    | arrived tag code =>
      obtain e | ⟨c, m, -, -, e⟩ := doArrived_jt s code
      · exact .of_eq e h
      · exact .of_eq e ((h.endLeg _).newLeg false).timed
    | setDirection tag direction =>
      obtain ⟨d, e⟩ := doSetDirection_jt s direction
      exact .of_eq e h
    | setTime tag minute =>
      obtain e | ⟨lt, e⟩ := doSetTime_jt s minute
      · exact .of_eq e h
      · obtain ⟨cfg, -, dist, rem, speed, eta, -, pulses, skips, -⟩ := h
        exact .of_eq e (.of_timed cfg lt dist rem speed eta pulses skips)
    | configureOdometer tag p =>
      obtain e | ⟨n, cfg, -, le, e⟩ := doConfigureOdometer_jt s p
      · exact .of_eq e h
      · obtain ⟨-, minute, dist, rem, speed, eta, min, pulses, -, clock⟩ := h
        exact .of_eq e ⟨cfg, minute, dist, rem, speed, eta, min, pulses, le.elim id (by rintro rfl; exact Nat.zero_le _), clock⟩
    | positionFix tag x =>
      obtain e | ⟨l, e⟩ := doPositionFix_jt s x
      · exact .of_eq e h
      · obtain ⟨cfg, minute, dist, -, speed, eta, min, pulses, skips, clock⟩ := h
        exact .of_eq e ⟨cfg, minute, fixDistance_le dist x, Nat.succ_pos _, speed, eta, min, pulses, skips, clock⟩
    | readJourney => exact h
    | split tag unit =>
      obtain e | ⟨p, -, -, e | e⟩ := doSplit_jt s unit
      · exact .of_eq e h
      · exact .of_eq e h
      · exact .of_eq e (OdometerOk.removePortion (j := s.jt.setPortionState unit .parting) h unit)
    | _ => cases m

theorem blockEvent_odometerOk (c : Instr) (s : State) (h : OdometerOk s.jt) : OdometerOk (blockEvent c s).jt := by
  obtain e | e | e | e | e | ⟨back, e⟩ := blockEvent_jt s c
  · exact .of_eq e h
  · exact .of_eq e (pulse_odometerOk s h)
  · exact .of_eq e (windowExpiry_odometerOk s h)
  · exact .of_eq e (minuteTick_odometerOk s h)
  · exact h.atSlotEnd e
  · exact .of_eq e (h.reattached back)

/-- A reset that leaves the configuration lawful leaves the odometer in its ranges (R29, R31, R210). -/
theorem odometerOk_reset {config : OdoConfig} (h : configFault config = none) : OdometerOk (.reset config) :=
  ⟨h, Nat.succ_pos _, Nat.zero_le _, Nat.succ_pos _, Nat.zero_le _, Nat.zero_le _, Nat.zero_le _, Nat.zero_le _, Nat.zero_le _,
   fun _ h => nomatch h⟩

/-- Every step keeps the odometer in its ranges (R28, R29, R31, R32, R36, R39, R40). -/
theorem step_keeps_odometerOk {s t : State} (h : OdometerOk s.jt) (x : step s = .next t) : OdometerOk t.jt :=
  (unlinked_jt OdometerOk).step act_odometerOk blockEvent_odometerOk (fun _ h => odometerOk_reset h.1)
    (fun _ _ => odometerOk_reset rfl) (fun _ h => h) h x

end Sys2Proof.Machine
end

section
/-! The alarm flags: while a condition holds its flag is set, kept by every shared operation. -/

namespace Sys2Proof.Machine

/-- While a condition holds its flag is set (R219), but for the conditions excused: those that an operation in progress has
brought about and whose flag it is about to set. -/
structure AlarmsBut (x : Alarms) (s : State) : Prop where
  lineA : s.sup.a.state ≠ .ok → s.clc.alarms.lineA = true ∨ x.lineA = true
  lineB : s.sup.b.state ≠ .ok → s.clc.alarms.lineB = true ∨ x.lineB = true
  mute : (∃ e ∈ s.cm.list, e.state = .mute) → s.clc.alarms.coachMute = true ∨ x.coachMute = true
  lost : s.cm.detached ≠ [] → s.clc.alarms.coachLost = true ∨ x.coachLost = true
  overflow : s.clc.overflow = true → s.clc.alarms.overflow = true ∨ x.overflow = true
  stale : s.jt.odo.skips = s.jt.config.skipLimit → s.clc.alarms.stale = true ∨ x.stale = true

variable {s : State} {x : Alarms}

/-- R219 is the case in which nothing is excused. -/
theorem alarmsOk_iff : AlarmsOk s ↔ AlarmsBut .clear s := by
  have flag (a b : Bool) : (a && b) = a ↔ (a = true → b = true) := by cases a <;> simp
  simp only [AlarmsOk, Alarms.within, Alarms.zip, conditions, Alarms.mk.injEq, flag]
  simp only [bne_iff_ne, List.any_eq_true, Bool.not_eq_true', List.isEmpty_eq_false_iff, decide_eq_true_eq]
  exact ⟨fun ⟨a, b, m, l, o, t⟩ => ⟨fun h => .inl (a h), fun h => .inl (b h), fun h => .inl (m h), fun h => .inl (l h),
      fun h => .inl (o h), fun h => .inl (t h)⟩,
    fun ⟨a, b, m, l, o, t⟩ => ⟨fun h => (a h).resolve_right nofun, fun h => (b h).resolve_right nofun,
      fun h => (m h).resolve_right nofun, fun h => (l h).resolve_right nofun, fun h => (o h).resolve_right nofun,
      fun h => (t h).resolve_right nofun⟩⟩

namespace AlarmsBut

/-! ## Updates of one block -/

theorem setRs (h : AlarmsBut x s) (v : Rs) : AlarmsBut x (s.setRs v) := ⟨h.1, h.2, h.3, h.4, h.5, h.6⟩
theorem setDc (h : AlarmsBut x s) (v : Dc) : AlarmsBut x (s.setDc v) := ⟨h.1, h.2, h.3, h.4, h.5, h.6⟩
theorem setBc (h : AlarmsBut x s) (v : Bc) : AlarmsBut x (s.setBc v) := ⟨h.1, h.2, h.3, h.4, h.5, h.6⟩
theorem setPending (h : AlarmsBut x s) (v : List Instr) : AlarmsBut x (s.setPending v) := ⟨h.1, h.2, h.3, h.4, h.5, h.6⟩

/-- Supervision changed, the line states kept. -/
theorem setSup (h : AlarmsBut x s) (v : Sup) (a : v.a.state = s.sup.a.state) (b : v.b.state = s.sup.b.state) :
    AlarmsBut x (s.setSup v) :=
  ⟨fun g => h.lineA (a ▸ g), fun g => h.lineB (b ▸ g), h.3, h.4, h.5, h.6⟩

/-- The Journey Tracker changed, the skip counter and its limit kept. -/
theorem setJt (h : AlarmsBut x s) (v : Jt) (n : v.odo.skips = s.jt.odo.skips)
    (l : v.config.skipLimit = s.jt.config.skipLimit) :
    AlarmsBut x (s.setJt v) :=
  ⟨h.1, h.2, h.3, h.4, h.5, fun g => h.stale (n.symm.trans (g.trans l))⟩

/-- The Journey Tracker changed, the skip counter below its limit. -/
theorem setJt_fresh (h : AlarmsBut x s) (v : Jt) (n : v.odo.skips < v.config.skipLimit) : AlarmsBut x (s.setJt v) :=
  ⟨h.1, h.2, h.3, h.4, h.5, fun g => absurd g n.ne⟩

/-- The consist changed, no entry going MUTE and none lost. -/
theorem setCm (h : AlarmsBut x s) (v : Cm) (m : ∀ e ∈ v.list, e.state = .mute → ∃ d ∈ s.cm.list, d.state = .mute)
    (l : v.detached ≠ [] → s.cm.detached ≠ []) : AlarmsBut x (s.setCm v) :=
  ⟨h.1, h.2, fun ⟨e, i, g⟩ => h.mute (m e i g), fun g => h.lost (l g), h.5, h.6⟩

/-- The consist changed, its list and its detached set kept. -/
theorem setCm_same (h : AlarmsBut x s) (v : Cm) (m : v.list = s.cm.list)
    (l : v.detached = s.cm.detached) :
    AlarmsBut x (s.setCm v) :=
  h.setCm v (fun e i g => ⟨e, m ▸ i, g⟩) (fun g => l ▸ g)

/-- The list changed entry by entry, the states kept or taken away from MUTE. -/
theorem setCm_map (h : AlarmsBut x s) (f : Entry → Entry) (v : Cm) (e : v.list = s.cm.list.map f)
    (m : ∀ e, (f e).state = .mute → e.state = .mute)
    (l : v.detached ≠ [] → s.cm.detached ≠ []) : AlarmsBut x (s.setCm v) := by
  refine h.setCm v (fun d i g => ?_) l
  rw [e] at i
  obtain ⟨c, hc, rfl⟩ := List.mem_map.mp i
  exact ⟨c, hc, m c g⟩

/-- The link changed, the flags kept and no overflow mark set. -/
theorem setClc (h : AlarmsBut x s) (c : Clc) (a : c.alarms = s.clc.alarms) (o : c.overflow = true → s.clc.overflow = true) :
    AlarmsBut x (s.setClc c) := by
  refine ⟨?_, ?_, ?_, ?_, fun g => ?_, ?_⟩ <;> simp only [State.setClc_clc, a]
  · exact h.1
  · exact h.2
  · exact h.3
  · exact h.4
  · exact h.5 (o g)
  · exact h.6

/-! ## Reports, aborts and marks -/

/-- A report that finds no room sets the overflow mark and its flag; no other flag changes (R215). -/
theorem raise (h : AlarmsBut x s) (cls : ReportClass) (code subject : Nat) (data : List Byte) :
    AlarmsBut x (raise cls code subject data s) := by
  have e : ∀ r, (s.clc.enqueue r).overflow = s.clc.overflow ∧ (s.clc.enqueue r).alarms = s.clc.alarms
      ∨ (s.clc.enqueue r).alarms = { s.clc.alarms with overflow := true } := fun r => by
    unfold Clc.enqueue
    split_ifs
    · exact .inl ⟨rfl, rfl⟩
    · exact .inl ⟨rfl, rfl⟩
    · exact .inl ⟨rfl, rfl⟩
    · exact .inr rfl
  obtain ⟨o, a⟩ | a := e { cls := cls, code := code, subject := subject, data := data }
  · exact h.setClc _ (by simp [a]) fun g => o ▸ Clc.transmit_overflow _ g
  · refine ⟨?_, ?_, ?_, ?_, ?_, ?_⟩ <;> simp only [Machine.raise, State.setClc_clc, Clc.transmit_alarms, a]
    · exact h.1
    · exact h.2
    · exact h.3
    · exact h.4
    · exact fun _ => .inl trivial
    · exact h.6

theorem abortIf (h : AlarmsBut x s) (test : Nat → BlockKind → Bool) : AlarmsBut x (abortIf test s) :=
  ⟨by simpa using h.1, by simpa using h.2, by simpa using h.3, by simpa using h.4, by simpa using h.5, by simpa using h.6⟩

theorem revise (h : AlarmsBut x s) (f : Entry → BlockKind → BlockEffect) : AlarmsBut x (revise f s) := by
  unfold Machine.revise
  exact AlarmsBut.abortIf (AlarmsBut.setDc (h.setCm_map _ _ (by rfl) (by exact fun _ g => g) (by exact fun g => g)) _) _

theorem markBlocks (h : AlarmsBut x s) (pick : Entry → BlockKind → Bool) : AlarmsBut x (markBlocks pick s) := h.revise _
theorem evaluateKinds (h : AlarmsBut x s) (pick : Entry → Bool) : AlarmsBut x (evaluateKinds pick s) := h.revise _
theorem dirtyBlocks (h : AlarmsBut x s) (pick : Entry → Bool) : AlarmsBut x (dirtyBlocks pick s) := h.revise _
theorem markHeaders (h : AlarmsBut x s) (pick : Entry → Bool) : AlarmsBut x (markHeaders pick s) := h.markBlocks _
theorem markSeats (h : AlarmsBut x s) (pick : Entry → Bool) : AlarmsBut x (markSeats pick s) := h.markBlocks _
theorem markSeatsOf (h : AlarmsBut x s) (seats : List (Nat × Nat)) : AlarmsBut x (markSeatsOf seats s) := h.markBlocks _
theorem markPhase (h : AlarmsBut x s) : AlarmsBut x (markPhase s) := h.markBlocks _
theorem markRoute (h : AlarmsBut x s) (slot index : Nat) : AlarmsBut x (markRoute slot index s) := h.markBlocks _
theorem reviseAll (h : AlarmsBut x s) (pick : Entry → Bool) : AlarmsBut x (reviseAll pick s) :=
  AlarmsBut.markBlocks (h.evaluateKinds pick) _
theorem withAdvisory (f : State → State) (h : AlarmsBut x (f s)) : AlarmsBut x (withAdvisory f s) := h.markHeaders _

/-! ## Flags -/

/-- COACH_MUTE set: that condition is excused no more (R70). -/
theorem withMute (h : AlarmsBut { x with coachMute := true } s) : AlarmsBut x (setAlarms Alarms.withMute s) :=
  ⟨h.1, h.2, fun _ => .inl rfl, h.4, h.5, h.6⟩
/-- COACH_LOST set: that condition is excused no more (R71). -/
theorem withLost (h : AlarmsBut { x with coachLost := true } s) : AlarmsBut x (setAlarms Alarms.withLost s) :=
  ⟨h.1, h.2, h.3, fun _ => .inl rfl, h.5, h.6⟩
/-- LINE_A set (R184). -/
theorem withLineA (h : AlarmsBut { x with lineA := true } s) : AlarmsBut x (setAlarms (Alarms.withLine .a) s) :=
  ⟨fun _ => .inl rfl, h.2, h.3, h.4, h.5, h.6⟩
/-- LINE_B set (R184). -/
theorem withLineB (h : AlarmsBut { x with lineB := true } s) : AlarmsBut x (setAlarms (Alarms.withLine .b) s) :=
  ⟨h.1, fun _ => .inl rfl, h.3, h.4, h.5, h.6⟩
/-- CALIBRATION_STALE set, with its report (R48). -/
theorem goStale (h : AlarmsBut { x with stale := true } s) : AlarmsBut x (goStale s) :=
  AlarmsBut.raise (x := x) (s := setAlarms (fun a => { a with stale := true }) s)
    ⟨h.1, h.2, h.3, h.4, h.5, fun _ => .inl rfl⟩ ..

theorem excuseMute (h : AlarmsBut x s) : AlarmsBut { x with coachMute := true } s :=
  ⟨h.1, h.2, fun _ => .inr rfl, h.4, h.5, h.6⟩
theorem excuseLost (h : AlarmsBut x s) : AlarmsBut { x with coachLost := true } s :=
  ⟨h.1, h.2, h.3, fun _ => .inr rfl, h.5, h.6⟩

/-! ## List entries -/

theorem updateEntry (h : AlarmsBut x s) (id : Nat) (f : Entry → Entry) (m : ∀ e, (f e).state = e.state) :
    AlarmsBut x (updateEntry id f s) :=
  h.setCm_map (fun e => if e.coach.id = id then f e else e) _ rfl (fun e g => by split_ifs at g; exacts [m e ▸ g, g]) (fun g => g)

theorem leaveList (h : AlarmsBut x s) (gone : Entry → Bool) : AlarmsBut x (leaveList gone s) := by
  unfold Machine.leaveList
  refine AlarmsBut.abortIf (h.setCm _ (fun e i g => ?_) (by exact fun g => g)) _
  exact ⟨e, (List.mem_filter.mp i).1, g⟩

/-- An entry takes another state than MUTE. -/
theorem setEntryState (h : AlarmsBut x s) (id : Nat) {st : EntryState} (n : st ≠ .mute) : AlarmsBut x (setEntryState id st s) := by
  have k : AlarmsBut x (Machine.updateEntry id (fun e => { e with state := st }) s) :=
    h.setCm_map (fun e => if e.coach.id = id then { e with state := st } else e) _ rfl
      (fun e g => by split_ifs at g; exacts [absurd g n, g]) (fun g => g)
  unfold Machine.setEntryState
  dsimp only
  split_ifs
  · exact (k.evaluateKinds _).markHeaders _
  · exact k.evaluateKinds _

/-- An entry becomes MUTE, which excuses COACH_MUTE. -/
theorem setEntryState_mute (h : AlarmsBut x s) (id : Nat) : AlarmsBut { x with coachMute := true } (Machine.setEntryState id .mute s) := by
  have k : AlarmsBut { x with coachMute := true } (Machine.updateEntry id (fun e => { e with state := .mute }) s) :=
    ⟨h.1, h.2, fun _ => .inr rfl, h.4, h.5, h.6⟩
  unfold Machine.setEntryState
  dsimp only
  split
  · exact (k.evaluateKinds _).markHeaders _
  · exact k.evaluateKinds _

theorem checkEntry (h : AlarmsBut x s) (id : Nat) : AlarmsBut x (checkEntry id s) := by
  unfold Machine.checkEntry
  split
  · exact h
  · next e _ =>
    have k : AlarmsBut x (Machine.updateEntry id (fun d => { d with agree := agreement s s.rs.liveBank e }) s) :=
      h.updateEntry id _ (by exact fun _ => rfl)
    dsimp only
    split_ifs
    · exact k
    · exact k.markSeats _
    · exact (k.markSeats _).raise ..

theorem checkAgreement (h : AlarmsBut x s) (pick : Entry → Bool) : AlarmsBut x (checkAgreement pick s) :=
  foldl_induct (fun _ id k => k.checkEntry id) _ h

/-! ## Losses, splits and admission -/

theorem detach (h : AlarmsBut x s) (id : Nat) : AlarmsBut { x with coachLost := true } (detach id s) := by
  unfold Machine.detach
  split
  · have k := (h.leaveList fun e => e.coach.id = id).excuseLost
    exact ⟨k.1, k.2, k.3, fun _ => .inr rfl, k.5, k.6⟩
  · exact h.excuseLost

theorem loseEntry (h : AlarmsBut x s) (id : Nat) : AlarmsBut x (loseEntry id s) := (h.detach id).withLost.raise ..
theorem bypassEntry (h : AlarmsBut x s) (id hop : Nat) : AlarmsBut x (bypassEntry id hop s) := (h.detach id).withLost.raise ..

theorem completeSplit (h : AlarmsBut x s) (unit : Nat) : AlarmsBut x (completeSplit unit s) := by
  have k : AlarmsBut x (s.setCm { s.cm with detached := s.cm.detached.filter (fun c => c.unit ≠ unit)
                                            partings := s.cm.partings.filter fun p => p.unit ≠ unit }) :=
    h.setCm _ (fun e i g => ⟨e, i, g⟩) (fun g e => g (by simp [e]))
  have same : (s.jt.removePortion unit).odo = s.jt.odo ∧ (s.jt.removePortion unit).config = s.jt.config := by
    unfold Jt.removePortion
    split
    · obtain ⟨c, -, o⟩ := releaseSlot_odometer { s.jt with portions := s.jt.portions.filter fun q => q.unit ≠ unit } ‹Portion›.slot
      exact ⟨o, c⟩
    · exact ⟨rfl, rfl⟩
  refine AlarmsBut.raise (AlarmsBut.setRs (AlarmsBut.withAdvisory _ (k.setJt _ ?_ ?_)) _) ..
  · exact congrArg Odometer.skips same.1
  · exact congrArg OdoConfig.skipLimit same.2

theorem checkSplit (h : AlarmsBut x s) (unit : Nat) : AlarmsBut x (checkSplit unit s) := by
  unfold Machine.checkSplit
  split_ifs
  · exact h.completeSplit unit
  · exact h

theorem deleteDeparting (h : AlarmsBut x s) (id unit : Nat) : AlarmsBut x (deleteDeparting id unit s) := by
  unfold Machine.deleteDeparting
  exact AlarmsBut.checkSplit (AlarmsBut.setCm_same (h.leaveList _) _ (by rfl) (by rfl)) unit

theorem failSplit (h : AlarmsBut x s) (unit : Nat) : AlarmsBut x (failSplit unit s) := by
  unfold Machine.failSplit
  dsimp only
  split_ifs
  · exact h
  · have k : AlarmsBut x (((s.cm.departing unit).map (·.coach.id)).foldl (fun t id =>
        Machine.setEntryState id .active (Machine.updateEntry id (fun e => { e with pairCount := 0 }) t)) s) :=
      foldl_induct (fun _ id k => AlarmsBut.setEntryState (k.updateEntry id _ (by exact fun _ => rfl)) id (by decide)) _ h
    exact AlarmsBut.raise (AlarmsBut.setCm_same (AlarmsBut.withAdvisory _ (AlarmsBut.setJt (k.dirtyBlocks _) _ (by rfl) (by rfl))) _ (by rfl) (by rfl)) ..

theorem failSplits (h : AlarmsBut x s) : AlarmsBut x (failSplits s) := foldl_induct (fun _ u k => k.failSplit u) _ h

theorem admitCoach (h : AlarmsBut x s) (a : CallAnswer) (missed : Nat) (notices : List Notice) :
    AlarmsBut x (admitCoach a missed notices s) := by
  unfold Machine.admitCoach
  refine AlarmsBut.checkEntry (h.setCm _ (fun e i g => ?_) (by exact fun g => g)) _
  simp only [List.mem_append, List.mem_singleton] at i
  obtain i | rfl := i
  · exact ⟨e, i, g⟩
  · dsimp only at g
    split_ifs at g

theorem reportUnknownType (h : AlarmsBut x s) (id type : Nat) : AlarmsBut x (reportUnknownType id type s) := by
  unfold Machine.reportUnknownType
  split_ifs
  · exact h.raise ..
  · exact h

theorem setSurvey (h : AlarmsBut x s) (f : Survey → Survey) : AlarmsBut x (setSurvey f s) := h.setCm_same _ (by rfl) (by rfl)
theorem surveyOn (h : AlarmsBut x s) : AlarmsBut x (surveyOn s) := h.setSurvey _

theorem refuseCall (h : AlarmsBut x s) (watch : Bool) (cause : CloseCause) (code id : Nat) (data : List Byte) :
    AlarmsBut x (refuseCall watch cause code id data s) := by
  unfold Machine.refuseCall
  split_ifs
  · exact h
  · exact (h.setSurvey _).raise ..

theorem handleCallAnswer (h : AlarmsBut x s) (a : CallAnswer) (target : Nat) (watch : Bool) :
    AlarmsBut x (handleCallAnswer a target watch s) := by
  have finish {u : State} (k : AlarmsBut x u) (code : Nat) (data : List Byte) :
      AlarmsBut x (Machine.surveyOn (Machine.reportUnknownType a.id a.type (Machine.raise .consist code a.id data u))) :=
    (AlarmsBut.reportUnknownType (k.raise ..) _ _).surveyOn
  unfold Machine.handleCallAnswer
  split
  · exact h.refuseCall ..
  · split
    · split_ifs
      · exact h.refuseCall ..
      · have k : AlarmsBut x (s.setCm { s.cm with detached := s.cm.detached.filter fun x => x.id ≠ a.id }) :=
          h.setCm _ (fun e i g => ⟨e, i, g⟩) (fun g e => g (by simp [e]))
        exact finish (k.admitCoach a 0 _) 2 _
    · split_ifs
      · exact h.refuseCall ..
      · exact h.refuseCall ..
      · exact finish (h.admitCoach a 0 []) 1 _

theorem callUnanswered (h : AlarmsBut x s) (watch : Bool) : AlarmsBut x (callUnanswered watch s) := by
  unfold Machine.callUnanswered
  dsimp only
  split_ifs
  · exact h
  · exact AlarmsBut.raise ((h.setSurvey _).setSurvey _) ..
  · exact h.setSurvey _

theorem stopConsist (h : AlarmsBut x s) : AlarmsBut x (stopConsist s) := by
  have k := h.failSplits
  unfold Machine.stopConsist
  dsimp only
  refine AlarmsBut.raise ?_ ..
  split_ifs with e
  · refine AlarmsBut.setCm_same (k.leaveList _) _ (by rfl) ?_
    rw [List.isEmpty_iff.mp e, List.append_nil]
  · have l := (k.leaveList fun _ => true).excuseLost
    exact AlarmsBut.withLost ⟨l.1, l.2, l.3, fun _ => .inr rfl, l.5, l.6⟩

/-! ## Figures, departure and arrival -/

theorem setOdo (h : AlarmsBut x s) (f : Odometer → Odometer)
    (n : (f s.jt.odo).skips = s.jt.odo.skips) :
    AlarmsBut x (setOdo f s) := h.setJt _ n (by rfl)
theorem setPhase (h : AlarmsBut x s) (p : Phase) : AlarmsBut x (setPhase p s) := h.setJt _ (by rfl) (by rfl)
theorem formPositions (h : AlarmsBut x s) : AlarmsBut x (formPositions s) :=
  (h.setJt _ (by rfl) (by rfl)).markBlocks _
theorem formEta (h : AlarmsBut x s) : AlarmsBut x (formEta s) := by
  unfold Machine.formEta
  dsimp only
  split_ifs
  · exact h.setOdo _ (by rfl)
  · exact (h.setOdo _ (by rfl)).markHeaders _
theorem formFigures (h : AlarmsBut x s) : AlarmsBut x (formFigures s) := h.formPositions.formEta
theorem setNotice (h : AlarmsBut x s) (n : JourneyNotice) : AlarmsBut x (setNotice n s) := by
  unfold Machine.setNotice
  split_ifs
  · exact h
  · exact (AlarmsBut.withAdvisory _ (h.setJt _ (by rfl) (by rfl))).markHeaders _
theorem purgeBanks (h : AlarmsBut x s) (indices : List (Nat × Nat)) : AlarmsBut x (purgeBanks indices s) :=
  (h.setRs _).markSeatsOf _
theorem switchBanks (h : AlarmsBut x s) (code : Nat) (trigger departure : Option Nat) :
    AlarmsBut x (switchBanks code trigger departure s) :=
  AlarmsBut.markSeats (AlarmsBut.checkAgreement ((h.setRs _).raise ..) _) _
theorem departBanks (h : AlarmsBut x s) (d : Nat) : AlarmsBut x (departBanks d s) := by
  unfold Machine.departBanks
  dsimp only
  refine AlarmsBut.purgeBanks ?_ _
  split
  · split_ifs
    · exact h.switchBanks ..
    · exact h.switchBanks ..
    · exact h
  · exact h
theorem departureEvent (h : AlarmsBut x s) (d : Nat) : AlarmsBut x (departureEvent d s) := (h.departBanks d).failSplits.markPhase
theorem expireNotices (h : AlarmsBut x s) (keep : Coach → Notice → Bool) : AlarmsBut x (expireNotices keep s) := by
  unfold Machine.expireNotices
  exact AlarmsBut.markHeaders (h.setCm_map _ _ (by rfl) (by exact fun _ g => g) (fun g e => g (by simp [e]))) _
theorem arrivalEvent (h : AlarmsBut x s) (m : Nat) : AlarmsBut x (arrivalEvent m s) := by
  unfold Machine.arrivalEvent reportPassed
  exact foldl_induct (fun _ _ k => k.raise ..) _ (h.expireNotices _).markPhase

/-- The skip that reaches the limit sets the flag (R48). -/
theorem skip (h : AlarmsBut x s) : AlarmsBut x (skip s) := by
  unfold Machine.skip
  dsimp only
  split_ifs with a b
  · exact AlarmsBut.goStale ⟨h.1, h.2, h.3, h.4, h.5, fun _ => .inr rfl⟩
  · exact ⟨h.1, h.2, h.3, h.4, h.5, fun g => absurd g b⟩
  · exact h

/-- A calibration empties the skip counter, whose limit is at least 1 (R29, R47). -/
theorem calibrate (h : AlarmsBut x s) (l : 1 ≤ s.jt.config.skipLimit) (leg : Nat) : AlarmsBut x (calibrate leg s) := by
  unfold Machine.calibrate
  dsimp only
  split_ifs
  · exact h.setJt_fresh _ (by exact l)
  · exact (h.setJt_fresh _ (by exact l)).raise ..

theorem endLeg (h : AlarmsBut x s) (l : 1 ≤ s.jt.config.skipLimit) (atNext : Bool) : AlarmsBut x (endLeg atNext s) := by
  unfold Machine.endLeg
  split_ifs
  · exact h.calibrate l _
  · exact h.skip

end AlarmsBut
end Sys2Proof.Machine
end

section
/-! The alarm flags, kept by every request, every event and so every step. -/

namespace Sys2Proof.Machine

variable {s : State} {x : Alarms}

/-- Placing an entry leaves the odometer. -/
theorem placed_odometer (j : Jt) (p : Portion) (o : Option Nat) : (j.placed p o).odo = j.odo ∧ (j.placed p o).config = j.config := by
  have put : (j.putPortion p).odo = j.odo ∧ (j.putPortion p).config = j.config := by
    unfold Jt.putPortion
    split_ifs <;> exact ⟨rfl, rfl⟩
  unfold Jt.placed
  cases o with
  | none => exact put
  | some o =>
    obtain ⟨c, -, d⟩ := releaseSlot_odometer { (j.putPortion p).formPosition p.unit with
      slots := ((j.putPortion p).formPosition p.unit).slots.set p.slot
        { ((j.putPortion p).formPosition p.unit).slots.get p.slot with state := .inUse } } o
    exact ⟨d.trans put.1, c.trans put.2⟩

namespace AlarmsBut

/-! ## Requests of the Journey Tracker -/

theorem setSlot (h : AlarmsBut x s) (n : Nat) (v : RouteSlot) : AlarmsBut x (setSlot n v s) := h.setJt _ (by rfl) (by rfl)

theorem doOpenRoute (h : AlarmsBut x s) (slot code : Nat) (dest : Text) : AlarmsBut x (doOpenRoute slot code dest s).state := by
  unfold Machine.doOpenRoute
  split
  · exact h
  · split
    · exact h
    · exact h
    · exact h.setSlot ..

theorem doAppendStops (h : AlarmsBut x s) (slot : Nat) (stops : List StopFields) :
    AlarmsBut x (doAppendStops slot stops s).state := by
  unfold Machine.doAppendStops
  split
  · exact h
  · split
    · exact h
    · split
      · exact h
      · dsimp only
        split
        · exact h
        · exact h.setSlot ..

theorem doCloseRoute (h : AlarmsBut x s) (slot : Nat) : AlarmsBut x (doCloseRoute slot s).state := by
  unfold Machine.doCloseRoute
  split
  · exact h
  · dsimp only
    split
    · exact h
    · exact h.setSlot ..

theorem doDropRoute (h : AlarmsBut x s) (slot : Nat) : AlarmsBut x (doDropRoute slot s).state := by
  unfold Machine.doDropRoute
  split
  · exact h
  · split
    · exact h
    · exact h
    · exact h.setSlot ..

theorem changeMarks (h : AlarmsBut x s) (routes : List (Nat × Nat)) (v : Bool) : AlarmsBut x (changeMarks routes v s) := by
  have k : ∀ t, AlarmsBut x t → AlarmsBut x (routes.foldl (fun w y => Machine.markRoute y.1 y.2 w) t) := fun t k =>
    foldl_induct (fun w (y : Nat × Nat) k => k.markRoute y.1 y.2) routes k
  unfold Machine.changeMarks
  dsimp only
  split
  · split
    · exact AlarmsBut.setNotice (k _ (h.setJt _ (by rfl) (by rfl))) _
    · exact k _ (h.setJt _ (by rfl) (by rfl))
  · exact k _ (h.setJt _ (by rfl) (by rfl))

theorem doCancelStop (h : AlarmsBut x s) (slot index : Nat) : AlarmsBut x (doCancelStop slot index s).state := by
  unfold Machine.doCancelStop
  split
  · exact h
  · dsimp only
    split_ifs
    · exact h
    · exact h
    · exact h
    · exact h.changeMarks ..

theorem doRestoreStop (h : AlarmsBut x s) (slot index : Nat) : AlarmsBut x (doRestoreStop slot index s).state := by
  unfold Machine.doRestoreStop
  split
  · exact h
  · dsimp only
    split_ifs
    · exact h
    · exact h
    · exact h.changeMarks ..

theorem assignPurge (h : AlarmsBut x s) (unit slot : Nat) : AlarmsBut x (assignPurge unit slot s) :=
  (h.purgeBanks _).checkAgreement _

theorem doAssignUnitHome (h : AlarmsBut x s) (unit slot index partAt : Nat) :
    AlarmsBut x (doAssignUnitHome unit slot index partAt s).state := by
  unfold Machine.doAssignUnitHome
  dsimp only
  split_ifs
  · exact h
  · exact h
  · exact h
  · exact h
  · exact h
  · exact h
  · exact AlarmsBut.assignPurge (AlarmsBut.reviseAll (AlarmsBut.formFigures (AlarmsBut.setNotice (h.setJt _ (by rfl) (by rfl)) _)) _) _ _

theorem doAssignUnit (h : AlarmsBut x s) (unit slot index partAt : Nat) :
    AlarmsBut x (doAssignUnit unit slot index partAt s).state := by
  unfold Machine.doAssignUnit
  split
  · next c _ =>
    split
    · exact h
    · have e := placed_odometer s.jt (assignedPortion unit slot index partAt c) ((s.jt.portionOf unit).map Portion.slot)
      exact AlarmsBut.assignPurge (AlarmsBut.reviseAll (AlarmsBut.withAdvisory _ (h.setJt _ (congrArg Odometer.skips e.1)
        (congrArg OdoConfig.skipLimit e.2))) _) _ _
  · exact h

theorem doEndJourney (h : AlarmsBut x s) : AlarmsBut x (doEndJourney s).state := by
  unfold Machine.doEndJourney
  dsimp only
  split_ifs
  · exact h
  · have k {t : State} (k : AlarmsBut x t) : AlarmsBut x (t.setCm { t.cm with
        list := t.cm.list.map fun e => { e with agree := .unitUnassigned } }) :=
      k.setCm_map (fun e => { e with agree := .unitUnassigned }) _ rfl (fun _ g => g) fun g => g
    exact AlarmsBut.reviseAll (AlarmsBut.markSeats (k (AlarmsBut.formFigures (h.setJt _ (by rfl) (by rfl)))) _) _

theorem doDeparted (h : AlarmsBut x s) : AlarmsBut x (doDeparted s).state := by
  unfold Machine.doDeparted
  split
  · exact AlarmsBut.departureEvent (AlarmsBut.formFigures (AlarmsBut.setNotice ((h.setPhase _).setOdo _ (by rfl)) _)) _
  · exact h
  · exact h

theorem doArrived (h : AlarmsBut x s) (l : 1 ≤ s.jt.config.skipLimit) (code : Nat) : AlarmsBut x (doArrived code s).state := by
  unfold Machine.doArrived
  split
  · dsimp only
    split
    · exact h
    · refine AlarmsBut.arrivalEvent ?_ _
      have k {p : Phase} {n : JourneyNotice} (b : Bool) :
          AlarmsBut x (Machine.formFigures (Machine.setNotice n (Machine.setPhase p
            (Machine.setOdo (Odometer.newLeg false) (Machine.endLeg b s))))) :=
        AlarmsBut.formFigures (AlarmsBut.setNotice (((h.endLeg l b).setOdo _ (by rfl)).setPhase _) _)
      split
      · exact k _
      · exact (k _).raise ..
  · exact h

theorem doSetDirection (h : AlarmsBut x s) (direction : Nat) : AlarmsBut x (doSetDirection direction s).state := by
  unfold Machine.doSetDirection
  split
  · exact h
  · split
    · exact h
    · split_ifs
      · exact h
      · exact AlarmsBut.markBlocks (h.setJt _ (by rfl) (by rfl)) _

theorem doSetTime (h : AlarmsBut x s) (minute : Nat) : AlarmsBut x (doSetTime minute s).state := by
  unfold Machine.doSetTime
  split_ifs
  · exact h
  · exact AlarmsBut.formEta (h.setJt _ (by rfl) (by rfl))

/-- A skip counter that the new skip limit reaches goes stale, unless it had reached the old one (R30). -/
theorem doConfigureOdometer (h : AlarmsBut x s) (le : s.jt.odo.skips ≤ s.jt.config.skipLimit) (p : OdoConfig) :
    AlarmsBut x (doConfigureOdometer p s).state := by
  unfold Machine.doConfigureOdometer
  split
  · exact h
  · next ok =>
    obtain ⟨-, -, -, -, -, -, -, pos, -⟩ := (configFault_eq_none p).mp ok
    dsimp only
    split_ifs with a b c
    · exact ⟨h.1, h.2, h.3, h.4, h.5, fun g => absurd (show 0 = p.skipLimit from g) (by omega)⟩
    · exact AlarmsBut.goStale ⟨h.1, h.2, h.3, h.4, h.5, fun _ => .inr rfl⟩
    · exact ⟨h.1, h.2, h.3, h.4, h.5, fun _ => h.stale (by omega)⟩
    · exact ⟨h.1, h.2, h.3, h.4, h.5, fun g => absurd (Nat.le_of_eq (g.symm : p.skipLimit = s.jt.odo.skips)) b⟩

theorem doPositionFix (h : AlarmsBut x s) (d : Nat) : AlarmsBut x (doPositionFix d s).state := by
  unfold Machine.doPositionFix
  split
  · exact AlarmsBut.formPositions (h.setOdo _ (by rfl))
  · exact h

theorem doReadJourney (h : AlarmsBut x s) : AlarmsBut x (doReadJourney s).state := ⟨h.1, h.2, h.3, h.4, h.5, h.6⟩

/-! ## Requests of the Consist Manager -/

theorem doConfigureSurvey (h : AlarmsBut x s) (attempts pairs : Nat) : AlarmsBut x (doConfigureSurvey attempts pairs s).state := by
  unfold Machine.doConfigureSurvey
  split_ifs
  · exact h
  · exact h
  · rw [done_state]
    exact h.setSurvey _

theorem beaconStart (h : AlarmsBut x s) : AlarmsBut x (beaconStart s) := by
  have e (u : Sup) (n : Nat) : (u.beacon n).a.state = u.a.state ∧ (u.beacon n).b.state = u.b.state := by
    unfold Sup.beacon Sup.setTable
    dsimp only
    split_ifs <;> exact ⟨rfl, rfl⟩
  unfold Machine.beaconStart
  exact AlarmsBut.setBc (h.setSup _ (e _ _).1 (e _ _).2) _

theorem doStartBackbone (h : AlarmsBut x s) : AlarmsBut x (doStartBackbone s).state := by
  unfold Machine.doStartBackbone
  dsimp only
  split_ifs
  · exact h
  · exact AlarmsBut.beaconStart ⟨fun g => absurd rfl g, fun g => absurd rfl g, h.3, h.4, h.5, h.6⟩

theorem doStopBackbone (h : AlarmsBut x s) : AlarmsBut x (doStopBackbone s).state := by
  unfold Machine.doStopBackbone
  split_ifs
  · exact h
  · exact h.setBc _

theorem doSurvey (h : AlarmsBut x s) : AlarmsBut x (doSurvey s).state := by
  unfold Machine.doSurvey
  split
  · exact h
  · exact h
  · exact h.surveyOn

theorem departEntry (h : AlarmsBut x s) (id unit : Nat) : AlarmsBut x (departEntry id unit s) := by
  have k : AlarmsBut x (Machine.setEntryState id .departing (Machine.updateEntry id (fun e => { e with pairCount := 0 }) s)) :=
    AlarmsBut.setEntryState (h.updateEntry id _ (by exact fun _ => rfl)) id (by decide)
  unfold Machine.departEntry
  dsimp only
  split
  · split_ifs
    · exact AlarmsBut.leaveList (k.setCm_same _ (by rfl) (by rfl)) _
    · exact k
  · exact k

theorem takeSplit (h : AlarmsBut x s) (unit : Nat) : AlarmsBut x (takeSplit unit s) := by
  unfold Machine.takeSplit
  exact foldl_induct (fun _ id k => k.departEntry id unit) _
    (AlarmsBut.setCm_same (AlarmsBut.withAdvisory (fun t => t.setJt (t.jt.setPortionState unit .parting))
      (h.setJt _ rfl rfl)) _ rfl rfl)

theorem doSplit (h : AlarmsBut x s) (unit : Nat) : AlarmsBut x (doSplit unit s).state := by
  unfold Machine.doSplit
  split
  · split
    · exact h
    · split
      · exact h
      · split
        · exact h
        · exact (h.takeSplit unit).checkSplit unit
  · exact h

theorem doRemoveEntry (h : AlarmsBut x s) (id : Nat) : AlarmsBut x (doRemoveEntry id s).state := by
  unfold Machine.doRemoveEntry
  split
  · exact h
  · split
    · exact h
    · split
      · exact h
      · exact h.setCm _ (fun e i g => ⟨e, i, g⟩) fun g e => g (by simp [Cm.joinParting, e])

theorem doDefineType (h : AlarmsBut x s) (code seats : Nat) (labels : List Text) :
    AlarmsBut x (doDefineType code seats labels s).state := by
  have e (r : TypeRecord) : (s.cm.putType r).list = s.cm.list ∧ (s.cm.putType r).detached = s.cm.detached := by
    unfold Cm.putType
    split_ifs <;> exact ⟨rfl, rfl⟩
  unfold Machine.doDefineType
  split
  · exact h
  · split
    · exact h
    · split
      · exact h
      · split_ifs
        · exact h
        · exact h
        · exact AlarmsBut.evaluateKinds (h.setCm_same _ (e _).1 (e _).2) _

theorem doDeleteType (h : AlarmsBut x s) (code : Nat) : AlarmsBut x (doDeleteType code s).state := by
  unfold Machine.doDeleteType
  split_ifs
  · exact h
  · exact h
  · exact h
  · exact h.setCm_same _ (by rfl) (by rfl)

/-! ## Requests of the Reservation Store -/

theorem editBank (h : AlarmsBut x s) (bad : Bool) (target : Nat) (op : BankOp) (told : Told) :
    AlarmsBut x (editBank bad target op told s).state := by
  have mirror {t : State} (k : AlarmsBut x t) : AlarmsBut x (mirrorEdit op t).1 := by
    unfold mirrorEdit
    split
    · split
      · exact k.setRs _
      · exact k.setRs _
    · exact k
  have telling {t : State} (k : AlarmsBut x t) : AlarmsBut x (tell told t) := by
    cases told with
    | nothing => exact k
    | seat => exact k.markSeatsOf _
    | record => exact k.checkEntry _
  unfold Machine.editBank
  split
  · exact h
  · split_ifs
    · exact h
    · exact h
    · dsimp only
      split
      · exact h
      · split
        · exact h.setRs _
        · exact mirror (telling (h.setRs _))

theorem doAddSegment (h : AlarmsBut x s) (bank id seat fromIx toIx kind : Nat) (label : Text) :
    AlarmsBut x (doAddSegment bank id seat fromIx toIx kind label s).state := by
  unfold Machine.doAddSegment
  split
  · exact h
  · exact h.editBank ..

theorem doOpenStagingEmpty (h : AlarmsBut x s) : AlarmsBut x (doOpenStagingEmpty s).state := by
  unfold Machine.doOpenStagingEmpty
  split_ifs
  · exact h.setRs _
  · exact h

theorem doOpenStagingCopy (h : AlarmsBut x s) : AlarmsBut x (doOpenStagingCopy s).state := by
  unfold Machine.doOpenStagingCopy
  split_ifs
  · exact h.setRs _
  · exact h

theorem doArmStagingImmediate (h : AlarmsBut x s) : AlarmsBut x (doArmStagingImmediate s).state := by
  unfold Machine.doArmStagingImmediate
  split
  · exact h
  · exact AlarmsBut.switchBanks (h.setRs _) ..

theorem doArmStaging (h : AlarmsBut x s) (trigger : Nat) : AlarmsBut x (doArmStaging trigger s).state := by
  unfold Machine.doArmStaging armAt
  split
  · exact h.doArmStagingImmediate
  · split
    · exact h
    · split
      · exact h
      · split
        · exact h
        · exact h.setRs _

theorem doDisarmStaging (h : AlarmsBut x s) : AlarmsBut x (doDisarmStaging s).state := by
  unfold Machine.doDisarmStaging
  split
  · exact h.setRs _
  · exact h.setRs _
  · exact h

theorem doAbandonStaging (h : AlarmsBut x s) : AlarmsBut x (doAbandonStaging s).state := by
  unfold Machine.doAbandonStaging
  split_ifs
  · exact h.setRs _
  · exact h

/-! ## Requests of the Display Composer -/

theorem doRefreshCoach (h : AlarmsBut x s) (target id : Nat) : AlarmsBut x (doRefreshCoach target id s).state := by
  unfold Machine.doRefreshCoach
  split
  · exact h
  · rw [done_state]; exact h.dirtyBlocks _
  · split
    · exact h
    · split
      · exact h
      · exact h
      · rw [done_state]; exact h.dirtyBlocks _

theorem changeStacks (h : AlarmsBut x s) (pick : Coach → Bool) (f : List Notice → List Notice)
    (before after : State → Entry → Bool) : AlarmsBut x (changeStacks pick f before after s) := by
  unfold Machine.changeStacks
  exact AlarmsBut.markHeaders (h.setCm_map _ _ (by rfl) (by exact fun _ g => g) (fun g e => g (by simp [e]))) _

theorem pushOn (h : AlarmsBut x s) (pick : Coach → Bool) (n : Notice) : AlarmsBut x (pushOn pick n s) := h.changeStacks ..
theorem clearStacks (h : AlarmsBut x s) (pick : Coach → Bool) : AlarmsBut x (clearStacks pick s) := h.changeStacks ..

theorem doPushNotice (h : AlarmsBut x s) (target id : Nat) (t : Text) (priority expiry value : Nat) :
    AlarmsBut x (doPushNotice target id t priority expiry value s).state := by
  unfold Machine.doPushNotice
  split
  · rw [done_state]; exact h.pushOn ..
  · split
    · exact h
    · split
      · exact h
      · split_ifs
        · exact h
        · exact h
        · rw [done_state]; exact h.pushOn ..
  · exact h

theorem doPopNotice (h : AlarmsBut x s) (id : Nat) : AlarmsBut x (doPopNotice id s).state := by
  unfold Machine.doPopNotice
  split
  · exact h
  · split
    · exact h
    · split
      · exact h
      · rw [done_state]; exact h.changeStacks ..

theorem doClearNotices (h : AlarmsBut x s) (target id : Nat) : AlarmsBut x (doClearNotices target id s).state := by
  unfold Machine.doClearNotices
  split
  · exact h
  · rw [done_state]; exact h.clearStacks _
  · split
    · exact h
    · split
      · exact h
      · rw [done_state]; exact h.clearStacks _

theorem doSetRotationEntry (h : AlarmsBut x s) (index page dwell next : Nat) :
    AlarmsBut x (doSetRotationEntry index page dwell next s).state := by
  unfold Machine.doSetRotationEntry
  split
  · exact h
  · split_ifs
    · exact h
    · exact h.setDc _

theorem doSetRotationStart (h : AlarmsBut x s) (index : Nat) : AlarmsBut x (doSetRotationStart index s).state := by
  unfold Machine.doSetRotationStart
  split_ifs
  · exact h
  · exact h.setDc _

/-! ## Requests of supervision and of the computer link -/

theorem doClearLineFlags (h : AlarmsBut x s) (mask : Nat) : AlarmsBut x (doClearLineFlags mask s).state := by
  unfold Machine.doClearLineFlags
  split_ifs
  · exact h
  · exact h.setSup _ rfl rfl

theorem setLock (h : AlarmsBut x s) (which : Nat) (l : LockState) : AlarmsBut x (setLock which l s) := by
  refine h.setSup _ ?_ ?_ <;> unfold Sup.setTable <;> split_ifs <;> rfl

theorem doLockTable (h : AlarmsBut x s) (table : Nat) : AlarmsBut x (doLockTable table s).state := by
  unfold Machine.doLockTable
  split
  · exact h
  · exact h.setLock ..

theorem doUnlockTable (h : AlarmsBut x s) (table : Nat) : AlarmsBut x (doUnlockTable table s).state := by
  unfold Machine.doUnlockTable
  split
  · exact h
  · exact h.setLock ..

theorem doSetCapture (h : AlarmsBut x s) (mode : Nat) : AlarmsBut x (doSetCapture mode s).state := by
  unfold Machine.doSetCapture
  split
  · exact h.setSup _ rfl rfl
  · exact h.setSup _ rfl rfl
  · exact h

theorem doSetReporting (h : AlarmsBut x s) (classes order : Nat) : AlarmsBut x (doSetReporting classes order s).state := by
  unfold Machine.doSetReporting
  split
  · exact h
  · split_ifs
    · exact h
    · exact h.setClc _ rfl (fun g => g)

/-- A flag acknowledged is cleared only while its condition does not hold (R221). -/
theorem doAckAlarms (h : AlarmsOk s) (flags : Nat) : AlarmsOk (doAckAlarms flags s).state := by
  unfold Machine.doAckAlarms
  split_ifs
  · exact h
  · have kept (c n a : Bool) (w : (c && a) = c) : (c && unset a (unset (n && a) c)) = c := by
      cases c <;> cases a <;> cases n <;> simp_all [unset]
    have w : ∀ a : Alarms, (conditions s).zip (· && ·) a = conditions s →
        (conditions s).zip (· && ·) (a.zip unset (((Alarms.ofSet flags).zip (· && ·) a).zip unset (conditions s))) = conditions s := by
      intro a w
      generalize conditions s = c at w ⊢
      obtain ⟨c1, c2, c3, c4, c5, c6⟩ := c
      simp only [Alarms.zip, Alarms.mk.injEq] at w ⊢
      obtain ⟨w1, w2, w3, w4, w5, w6⟩ := w
      exact ⟨kept _ _ _ w1, kept _ _ _ w2, kept _ _ _ w3, kept _ _ _ w4, kept _ _ _ w5, kept _ _ _ w6⟩
    exact w _ h

theorem doLinkReset (h : AlarmsBut x s) : AlarmsBut x (doLinkReset s).state := h.setClc _ rfl nofun
theorem doSummary (h : AlarmsBut x s) : AlarmsBut x (doSummary s).state := h.setClc _ rfl (fun g => g)

end AlarmsBut
end Sys2Proof.Machine
end

section
/-! The alarm flags over a step, and the three invariants of the journey together. -/

namespace Sys2Proof.Machine

variable {s : State} {x : Alarms}

/-- A request keeps every flag whose condition holds (R219, R221). -/
theorem act_alarmsOk (c : Instr) (s : State) (o : OdometerOk s.jt) (h : AlarmsOk s) : AlarmsOk (act c s).state := by
  have k := alarmsOk_iff.mp h
  have le : s.jt.odo.skips ≤ s.jt.config.skipLimit := by
    obtain ⟨-, -, -, -, -, -, -, -, skips, -⟩ := o
    exact skips
  cases c with
  | ackAlarms tag flags => exact AlarmsBut.doAckAlarms h flags
  | openRoute => exact alarmsOk_iff.mpr (k.doOpenRoute ..)
  | appendStops => exact alarmsOk_iff.mpr (k.doAppendStops ..)
  | closeRoute => exact alarmsOk_iff.mpr (k.doCloseRoute ..)
  | dropRoute => exact alarmsOk_iff.mpr (k.doDropRoute ..)
  | cancelStop => exact alarmsOk_iff.mpr (k.doCancelStop ..)
  | restoreStop => exact alarmsOk_iff.mpr (k.doRestoreStop ..)
  | assignUnitHome => exact alarmsOk_iff.mpr (k.doAssignUnitHome ..)
  | assignUnit => exact alarmsOk_iff.mpr (k.doAssignUnit ..)
  | endJourney => exact alarmsOk_iff.mpr k.doEndJourney
  | departed => exact alarmsOk_iff.mpr k.doDeparted
  | arrived => exact alarmsOk_iff.mpr (k.doArrived o.skipLimit_pos _)
  | setDirection => exact alarmsOk_iff.mpr (k.doSetDirection _)
  | setTime => exact alarmsOk_iff.mpr (k.doSetTime _)
  | configureOdometer => exact alarmsOk_iff.mpr (k.doConfigureOdometer le _)
  | positionFix => exact alarmsOk_iff.mpr (k.doPositionFix _)
  | readJourney => exact alarmsOk_iff.mpr k.doReadJourney
  | configureSurvey => exact alarmsOk_iff.mpr (k.doConfigureSurvey ..)
  | startBackbone => exact alarmsOk_iff.mpr k.doStartBackbone
  | stopBackbone => exact alarmsOk_iff.mpr k.doStopBackbone
  | survey => exact alarmsOk_iff.mpr k.doSurvey
  | split => exact alarmsOk_iff.mpr (k.doSplit _)
  | removeEntry => exact alarmsOk_iff.mpr (k.doRemoveEntry _)
  | defineType => exact alarmsOk_iff.mpr (k.doDefineType ..)
  | deleteType => exact alarmsOk_iff.mpr (k.doDeleteType _)
  | declareVehicle => exact alarmsOk_iff.mpr (k.editBank ..)
  | removeVehicle => exact alarmsOk_iff.mpr (k.editBank ..)
  | addSegment => exact alarmsOk_iff.mpr (k.doAddSegment ..)
  | dropSegment => exact alarmsOk_iff.mpr (k.editBank ..)
  | clearSeat => exact alarmsOk_iff.mpr (k.editBank ..)
  | openStagingEmpty => exact alarmsOk_iff.mpr k.doOpenStagingEmpty
  | openStagingCopy => exact alarmsOk_iff.mpr k.doOpenStagingCopy
  | armStaging => exact alarmsOk_iff.mpr (k.doArmStaging _)
  | armStagingImmediate => exact alarmsOk_iff.mpr k.doArmStagingImmediate
  | disarmStaging => exact alarmsOk_iff.mpr k.doDisarmStaging
  | abandonStaging => exact alarmsOk_iff.mpr k.doAbandonStaging
  | refreshCoach => exact alarmsOk_iff.mpr (k.doRefreshCoach ..)
  | pushNotice => exact alarmsOk_iff.mpr (k.doPushNotice ..)
  | popNotice => exact alarmsOk_iff.mpr (k.doPopNotice _)
  | clearNotices => exact alarmsOk_iff.mpr (k.doClearNotices ..)
  | setRotationEntry => exact alarmsOk_iff.mpr (k.doSetRotationEntry ..)
  | setRotationStart => exact alarmsOk_iff.mpr (k.doSetRotationStart _)
  | clearLineFlags => exact alarmsOk_iff.mpr (k.doClearLineFlags _)
  | lockTable => exact alarmsOk_iff.mpr (k.doLockTable _)
  | unlockTable => exact alarmsOk_iff.mpr (k.doUnlockTable _)
  | setCapture => exact alarmsOk_iff.mpr (k.doSetCapture _)
  | setReporting => exact alarmsOk_iff.mpr (k.doSetReporting ..)
  | linkReset => exact alarmsOk_iff.mpr k.doLinkReset
  | summary => exact alarmsOk_iff.mpr k.doSummary
  | describePart | readRoute | readType | readSeat | readDisplay | readTable => simpa [act] using h
  | _ => exact h

namespace AlarmsBut

/-! ## Events -/

theorem finishHead (h : AlarmsBut x s) (r : ResultCode) (data : List Byte) : AlarmsBut x (finishHead r data s) := by
  unfold Machine.finishHead addReply
  split
  · split_ifs
    · refine AlarmsBut.setClc (h.setClc _ (by rfl) (by exact fun g => g)) _ (by simp) ?_
      exact fun g => by simpa using Clc.transmit_overflow _ g
    · exact h
  · exact h

theorem completeCopy (h : AlarmsBut x s) : AlarmsBut x (completeCopy s) := by
  unfold Machine.completeCopy
  dsimp only
  split_ifs
  · exact AlarmsBut.finishHead (h.setRs _) ..
  · exact h

theorem ite {p : Prop} [Decidable p] (h : AlarmsBut x s) {t : State} (k : AlarmsBut x t) :
    AlarmsBut x (if p then s else t) := by
  split
  · exact h
  · exact k

theorem windowDistance (h : AlarmsBut x s) (p : Nat) : AlarmsBut x (windowDistance p s) := by
  unfold Machine.windowDistance
  dsimp only
  exact AlarmsBut.ite (AlarmsBut.raise (h.setOdo _ (by rfl)) ..) (h.setOdo _ (by rfl))

theorem windowDeparture (h : AlarmsBut x s) : AlarmsBut x (windowDeparture s) := by
  unfold Machine.windowDeparture
  split
  · split
    · exact AlarmsBut.raise (AlarmsBut.departureEvent (AlarmsBut.formEta (AlarmsBut.setNotice ((h.setPhase _).setOdo _ (by rfl)) _)) _) ..
    · exact h
  · exact h

theorem windowNotice (h : AlarmsBut x s) : AlarmsBut x (windowNotice s) := by
  unfold Machine.windowNotice
  dsimp only
  split_ifs
  · exact h
  · exact (h.setNotice _).raise ..

theorem windowExpiry (h : AlarmsBut x s) : AlarmsBut x (windowExpiry s) := by
  have k : AlarmsBut x (Machine.windowSpeed s.jt.odo.pulses (Machine.windowDistance s.jt.odo.pulses s)) :=
    (h.windowDistance _).setOdo _ (by rfl)
  unfold Machine.windowExpiry
  exact AlarmsBut.formPositions (AlarmsBut.windowNotice (AlarmsBut.formEta
    (k.windowDeparture.setJt _ (by dsimp only; rw [evaluateEta_eq]) (by rfl))))

theorem minuteTick (h : AlarmsBut x s) : AlarmsBut x (minuteTick s) := AlarmsBut.formEta (h.setJt _ (by rfl) (by rfl))
theorem pulse (h : AlarmsBut x s) : AlarmsBut x (pulse s) := h.setOdo _ (by rfl)

theorem cycleClose (h : AlarmsBut x s) : AlarmsBut x (cycleClose s) := by
  unfold Machine.cycleClose
  split
  · exact AlarmsBut.beaconStart (h.setBc _)
  · exact AlarmsBut.finishHead (AlarmsBut.stopConsist (h.setBc _)) ..
  · exact h

theorem runTo (h : AlarmsBut x s) (t : Nat) : AlarmsBut x (runTo t s) := h.setBc _

theorem countNotices (h : AlarmsBut x s) : AlarmsBut x (countNotices s) := by
  unfold Machine.countNotices
  exact AlarmsBut.markHeaders (h.setCm_map _ _ (by rfl) (by exact fun _ g => g) (fun g e => g (by simp [e]))) _

theorem beaconEnd (h : AlarmsBut x s) : AlarmsBut x (beaconEnd s) := by
  unfold Machine.beaconEnd composerCycle
  split
  · exact AlarmsBut.setDc (AlarmsBut.countNotices ((h.runTo 60).setBc _)) _
  · exact h

theorem slotStart (h : AlarmsBut x s) : AlarmsBut x (slotStart s) := by
  unfold Machine.slotStart beginContent
  split
  · exact h
  · split
    · exact (h.updateEntry _ _ (by exact fun _ => rfl)).setBc _
    · exact h.setBc _

theorem contentComplete (h : AlarmsBut x s) : AlarmsBut x (contentComplete s) := by
  unfold Machine.contentComplete
  split
  · split_ifs
    · exact h.runTo _
    · exact h
  · exact h

theorem takeSymbols (h : AlarmsBut x s) (line : Line) (t : Nat) (symbols : List Symbol) :
    AlarmsBut x (takeSymbols line t symbols s) := by
  unfold Machine.takeSymbols
  dsimp only
  split
  · split <;> exact (h.runTo _).setBc _
  · exact h

/-! ## The coach slot -/

theorem takeOrientation (h : AlarmsBut x s) (id : Nat) (o : Orientation) : AlarmsBut x (takeOrientation id o s) := by
  unfold Machine.takeOrientation
  split
  · exact h
  · split_ifs
    · exact h
    · exact (h.updateEntry id _ (by exact fun _ => rfl)).markBlocks _

theorem takeType (h : AlarmsBut x s) (id type : Nat) : AlarmsBut x (takeType id type s) := by
  unfold Machine.takeType
  split
  · exact h
  · split_ifs
    · exact h
    · exact AlarmsBut.reportUnknownType (AlarmsBut.checkEntry (((h.updateEntry id _ (by exact fun _ => rfl)).evaluateKinds _).markSeats _) _) _ _

theorem takeNumber (h : AlarmsBut x s) (id number : Nat) : AlarmsBut x (takeNumber id number s) := by
  unfold Machine.takeNumber
  split
  · exact h
  · split_ifs
    · exact h
    · exact (h.updateEntry id _ (by exact fun _ => rfl)).markHeaders _

theorem takeUnit (h : AlarmsBut x s) (id unit : Nat) : AlarmsBut x (takeUnit id unit s) := by
  unfold Machine.takeUnit
  split
  · exact h
  · split_ifs
    · exact h.updateEntry id _ (by exact fun _ => rfl)
    · exact h
    · exact (h.updateEntry id _ (by exact fun _ => rfl)).raise ..

theorem unmute (h : AlarmsBut x s) (id : Nat) : AlarmsBut x (unmute id s) := by
  unfold Machine.unmute
  split
  · exact h
  · split_ifs
    · exact (h.setEntryState id (by decide)).raise ..
    · exact h

theorem note_state (e : Entry) (even valid : Bool) : (e.note even valid).state = e.state := by
  unfold Entry.note
  split_ifs <;> rfl

theorem slotAnswered (h : AlarmsBut x s) (id : Nat) (a : NodeAnswer) : AlarmsBut x (slotAnswered id a s) := by
  unfold Machine.slotAnswered
  have taken {t : State} (k : AlarmsBut x t) : AlarmsBut x (Machine.takeUnit id a.unit
      (Machine.takeNumber id a.number (Machine.takeType id a.type (Machine.takeOrientation id a.orient t)))) :=
    (((k.takeOrientation id _).takeType id _).takeNumber id _).takeUnit id _
  refine taken (AlarmsBut.unmute (h.updateEntry id _ ?_) id)
  exact fun e => note_state e _ _

/-- An entry that goes MUTE sets COACH_MUTE (R70). -/
theorem muteEntry (h : AlarmsBut x s) (id : Nat) : AlarmsBut x (muteEntry id s) := (h.setEntryState_mute id).withMute.raise ..

theorem slotMissed (h : AlarmsBut x s) (id : Nat) : AlarmsBut x (slotMissed id s) := by
  have k (even : Bool) : AlarmsBut x (Machine.updateEntry id (Entry.miss even) s) :=
    h.updateEntry id _ fun e => note_state e _ _
  unfold Machine.slotMissed
  split
  · exact h
  · dsimp only
    split
    · split_ifs
      · exact (k _).loseEntry id
      · exact k _
    · split_ifs
      · exact (k _).muteEntry id
      · exact k _
    · split_ifs
      · exact (k _).loseEntry id
      · exact k _
    · split_ifs
      · exact (k _).deleteDeparting id _
      · exact k _

theorem composerOutcome (h : AlarmsBut x s) (f : ContentFrame) (a : Option NodeAnswer) :
    AlarmsBut x (composerOutcome f a s).1 := by
  have k {t : State} (g : AlarmsBut x t) (n : NodeAnswer) : AlarmsBut x (acknowledge f n t) := by
    unfold acknowledge
    split
    · exact g
    · split_ifs
      · exact g.updateEntry _ _ (by exact fun _ => rfl)
      · exact g
  unfold Machine.composerOutcome
  split
  · exact h
  · exact h
  · dsimp only
    split
    · exact k (h.dirtyBlocks _) _
    · exact k h _

theorem slotOutcome (h : AlarmsBut x s) (n : Nat) (f : ContentFrame) : AlarmsBut x (slotOutcome n f s) := by
  have c (a : Option NodeAnswer) : AlarmsBut x (consistOutcome f.dest a s) := by
    unfold consistOutcome
    split
    · exact h
    · exact h.slotAnswered ..
    · exact h.slotMissed _
  have e (u : Sup) (counter : Nat) (r : Row) :
      (u.writeRow counter n r).a.state = u.a.state ∧ (u.writeRow counter n r).b.state = u.b.state := by
    unfold Sup.writeRow Sup.setTable
    dsimp only
    split_ifs <;> exact ⟨rfl, rfl⟩
  unfold Machine.slotOutcome
  exact ((c _).composerOutcome f _).setSup _ (e _ _ _).1 (e _ _ _).2

theorem slotEnd (h : AlarmsBut x s) : AlarmsBut x (slotEnd s) := by
  unfold Machine.slotEnd
  split
  · dsimp only
    split
    · exact ((h.runTo 2000).slotOutcome _ _).setBc _
    · exact (h.runTo 2000).setBc _
  · exact h

/-! ## The call window and the quiet gap -/

theorem callStart (h : AlarmsBut x s) : AlarmsBut x (callStart s) := by
  have k : AlarmsBut x (callOfCycle s).1 := by
    unfold callOfCycle
    dsimp only
    split
    · exact h
    · split_ifs
      · exact (h.setSurvey _).raise ..
      · exact h
    · split_ifs <;> exact h
  unfold Machine.callStart
  split
  · exact k.setBc _
  · exact h

theorem callOutcome (h : AlarmsBut x s) (c : Call) (a : Option CallAnswer) : AlarmsBut x (callOutcome c a s) := by
  unfold Machine.callOutcome
  split
  · split_ifs
    · exact h.handleCallAnswer ..
    · exact h.callUnanswered _
  · exact h.callUnanswered _

theorem callClose (h : AlarmsBut x s) (c : Call) : AlarmsBut x (callClose c s) := by
  unfold Machine.callClose
  exact AlarmsBut.callOutcome (AlarmsBut.setSup (h.setBc _) _ (by rfl) (by rfl)) _ _

theorem callEnd (h : AlarmsBut x s) : AlarmsBut x (callEnd s) := by
  unfold Machine.callEnd
  split
  · dsimp only
    split
    · exact AlarmsBut.setBc (AlarmsBut.callClose (h.runTo 3000) _) _
    · exact (h.runTo 3000).setBc _
  · exact h

theorem pairStep (h : AlarmsBut x s) (id : Nat) : AlarmsBut x (pairStep id s) := by
  unfold Machine.pairStep
  split
  · exact h
  · split
    · have active {t : State} (k : AlarmsBut x t) : AlarmsBut x (Machine.setEntryState id .active t) :=
        k.setEntryState id (by decide)
      exact AlarmsBut.ite (AlarmsBut.raise (active (h.updateEntry id _ (by exact fun _ => rfl))) ..) (h.updateEntry id _ (by exact fun _ => rfl))
    · exact h

end AlarmsBut

/-- A report leaves COACH_MUTE as it is (R215). -/
theorem raise_coachMute (cls : ReportClass) (code subject : Nat) (data : List Byte) (s : State) :
    (raise cls code subject data s).clc.alarms.coachMute = s.clc.alarms.coachMute := by
  simp only [raise, State.setClc_clc, Clc.transmit_alarms, Clc.enqueue]
  split_ifs <;> rfl

theorem bypassEntry_coachMute (id hop : Nat) (s : State) :
    (bypassEntry id hop s).clc.alarms.coachMute = s.clc.alarms.coachMute := by
  have e : (detach id s).clc = s.clc := by
    unfold detach leaveList
    split <;> simp
  rw [bypassEntry, raise_coachMute]
  show (detach id s).clc.alarms.coachMute = _
  rw [e]

/-- The entries of the new order are entries of the list (R74). -/
theorem mem_of_reordered {c : Cm} {l : List Entry} (r : c.reordered = some l) {e : Entry} (m : e ∈ l) : e ∈ c.list := by
  unfold Cm.reordered at r
  dsimp only at r
  split_ifs at r
  cases r
  obtain ⟨i, -, hi⟩ := List.mem_filterMap.mp m
  obtain ⟨p, hp, rfl⟩ := Option.map_eq_some_iff.mp hi
  have q := List.mem_of_find?_eq_some hp
  unfold Cm.proposals Cm.numbered at q
  obtain ⟨y, hy, rfl⟩ := List.mem_map.mp q
  obtain ⟨z, hz, rfl⟩ := List.mem_map.mp (List.mem_filter.mp hy).1
  exact List.fst_mem_of_mem_zipIdx hz

namespace AlarmsBut

/-- A reorder leaves no entry MUTE that was not, and each entry it loses sets COACH_LOST (R74). -/
theorem reorder (h : AlarmsBut x s) : AlarmsBut x (reorder s) := by
  unfold Machine.reorder
  split
  · split
    · next l r =>
      have k : AlarmsBut x (s.cm.bypassed.foldl (fun t y => Machine.bypassEntry y.1.coach.id y.2 t) s) :=
        foldl_induct (fun _ (y : Entry × Nat) k => k.bypassEntry _ _) _ h
      have flag : (s.cm.bypassed.foldl (fun t y => Machine.bypassEntry y.1.coach.id y.2 t) s).clc.alarms.coachMute
          = s.clc.alarms.coachMute :=
        foldl_keeps (fun t => t.clc.alarms.coachMute) (fun _ (y : Entry × Nat) => bypassEntry_coachMute _ _ _) _ s
      refine ⟨k.1, k.2, fun ⟨e, i, g⟩ => ?_, k.4, k.5, k.6⟩
      obtain ⟨d, hd, rfl⟩ := List.mem_map.mp i
      exact flag ▸ h.mute ⟨d, mem_of_reordered r hd, g⟩
    · split
      · exact h
      · exact (h.setCm_same _ (by rfl) (by rfl)).raise ..
  · exact h.setCm_same _ (by rfl) (by rfl)

theorem pairEnd (h : AlarmsBut x s) : AlarmsBut x (pairEnd s) := by
  have evidence (e : Entry) (n : Nat) : (e.evidence n).state = e.state := by
    unfold Entry.evidence
    split
    · split_ifs <;> rfl
    · rfl
  have k : AlarmsBut x ((s.cm.list.map (·.coach.id)).foldl (fun t id => Machine.pairStep id t) s) :=
    foldl_induct (fun _ id k => k.pairStep id) _ h
  unfold Machine.pairEnd
  refine AlarmsBut.setCm_map (AlarmsBut.reorder (k.setCm _ (fun e i g => ?_) (by exact fun g => g))) _ _ (by rfl)
    (by exact fun _ g => g) (by exact fun g => g)
  obtain ⟨y, hy, rfl⟩ := List.mem_map.mp i
  obtain ⟨z, hz, rfl⟩ := List.mem_map.mp hy
  exact ⟨_, List.fst_mem_of_mem_zipIdx hz, (evidence _ _).symm.trans g⟩

/-- A line that leaves OK sets its flag with its report (R184). -/
theorem tellLine (line : Line) {old new : LineState}
    (h : AlarmsBut (match line with
      | .a => { x with lineA := x.lineA || decide (old = .ok ∧ new ≠ .ok) }
      | .b => { x with lineB := x.lineB || decide (old = .ok ∧ new ≠ .ok) }) s) : AlarmsBut x (tellLine line old new s) := by
  unfold Machine.tellLine
  dsimp only
  split_ifs with same left
  · cases line <;> simpa [same] using h
  · cases line
    · exact AlarmsBut.raise (AlarmsBut.withLineA ⟨fun _ => .inr rfl, h.2, h.3, h.4, h.5, h.6⟩) ..
    · exact AlarmsBut.raise (AlarmsBut.withLineB ⟨h.1, fun _ => .inr rfl, h.3, h.4, h.5, h.6⟩) ..
  · cases line <;> exact AlarmsBut.raise (by simpa [left] using h) ..

theorem supervisionGap (h : AlarmsBut x s) : AlarmsBut x (supervisionGap s) := by
  have complete (u : Sup) (n : Nat) : (u.complete n).a.state = u.a.state ∧ (u.complete n).b.state = u.b.state := by
    unfold Sup.complete Sup.setTable
    dsimp only
    split_ifs <;> exact ⟨rfl, rfl⟩
  unfold Machine.supervisionGap
  dsimp only
  refine AlarmsBut.setSup (AlarmsBut.tellLine .b (AlarmsBut.tellLine .a ?_)) _ (complete _ _).1 (complete _ _).2
  refine ⟨fun g => ?_, fun g => ?_, h.3, h.4, h.5, h.6⟩
  · by_cases e : s.sup.a.state = .ok
    · exact .inr (by simpa [e] using Or.inr g)
    · exact (h.lineA e).imp id fun y => by simp [y]
  · by_cases e : s.sup.b.state = .ok
    · exact .inr (by simpa [e] using Or.inr g)
    · exact (h.lineB e).imp id fun y => by simp [y]

theorem gapStart (h : AlarmsBut x s) : AlarmsBut x (gapStart s) := by
  have k : AlarmsBut x (s.setBc (s.bc.enter .gap)) := h.setBc _
  unfold Machine.gapStart
  split
  · refine AlarmsBut.supervisionGap ?_
    split
    · exact k.pairEnd
    · exact k
  · exact h

theorem blockEvent (h : AlarmsBut x s) (c : Instr) : AlarmsBut x (blockEvent c s) := by
  cases c with
  | copyCompletion => exact h.completeCopy
  | odoPulse => exact h.pulse
  | odometerWindowExpiry => exact h.windowExpiry
  | minuteTimerExpiry => exact h.minuteTick
  | cycleEnd => exact h.cycleClose
  | cycleStart => exact h.beaconEnd
  | coachSlotStart => exact h.slotStart
  | contentFrameComplete => exact h.contentComplete
  | backboneFrameReceived => exact h.takeSymbols ..
  | coachSlotEnd => exact h.slotEnd
  | callWindowStart => exact h.callStart
  | callWindowEnd => exact h.callEnd
  | quietGapStart => exact h.gapStart
  | _ => exact h

end AlarmsBut

/-! ## Resets and steps -/

/-- A reset leaves no condition: the skip counter is 0 and its limit at least 1 (R29, R210, R211). -/
theorem alarmsOk_reset {t : State} (sup : t.sup = .reset) (list : t.cm.list = []) (lost : t.cm.detached = [])
    (o : t.clc.overflow = false) (skips : t.jt.odo.skips = 0) (l : 1 ≤ t.jt.config.skipLimit) : AlarmsOk t := by
  refine alarmsOk_iff.mpr ⟨?_, ?_, ?_, ?_, ?_, ?_⟩
  · simp [sup, Sup.reset, LineSup.reset]
  · simp [sup, Sup.reset, LineSup.reset]
  · simp [list]
  · simp [lost]
  · simp [o]
  · omega

/-- The odometer in its ranges and the flags of the conditions see the link only as far as its alarms (R219). -/
theorem unlinked_alarms : Unlinked fun s => OdometerOk s.jt ∧ AlarmsOk s where
  link _ c a o h := ⟨h.1, alarmsOk_iff.mpr ((alarmsOk_iff.mp h.2).setClc c a o)⟩
  rotation _ d h := ⟨h.1, alarmsOk_iff.mpr ((alarmsOk_iff.mp h.2).setDc d)⟩
  waiting _ l h := ⟨h.1, alarmsOk_iff.mpr ((alarmsOk_iff.mp h.2).setPending l)⟩
  ready _ _ h := ⟨h.1, alarmsOk_iff.mpr ((alarmsOk_iff.mp h.2).raise ..)⟩

/-- Every step sets the flag of each condition it brings about, and clears none whose condition holds (R219, R221). -/
theorem step_keeps_alarmsOk {s t : State} (o : OdometerOk s.jt) (h : AlarmsOk s) (y : step s = .next t) : AlarmsOk t :=
  (unlinked_alarms.step (fun c s h => ⟨act_odometerOk c s h.1, act_alarmsOk c s h.1 h.2⟩)
    (fun c s h => ⟨blockEvent_odometerOk c s h.1, alarmsOk_iff.mpr ((alarmsOk_iff.mp h.2).blockEvent c)⟩)
    (fun _ h => ⟨odometerOk_reset h.1.1, alarmsOk_reset rfl rfl rfl rfl rfl h.1.skipLimit_pos⟩)
    (fun _ _ => ⟨odometerOk_reset rfl, alarmsOk_reset rfl rfl rfl rfl rfl (show 1 ≤ powerOnConfig.skipLimit by decide)⟩)
    (fun _ h => ⟨h.1, alarmsOk_iff.mpr ((alarmsOk_iff.mp h.2).runTo _)⟩) ⟨o, h⟩ y).2

/-- Settles O57: each invariant is kept by the answers, the events and the resets, and so by every step. -/
theorem everyStepKeepsTheJourneyAndAlarmInvariants : Obligations.EveryStepKeepsTheJourneyAndAlarmInvariants := by
  unfold Obligations.EveryStepKeepsTheJourneyAndAlarmInvariants
  exact ⟨fun _ _ => step_keeps_portionsOk, fun _ _ => step_keeps_odometerOk, fun _ _ => step_keeps_alarmsOk⟩

end Sys2Proof.Machine
end

section
/-! The state after power-on. -/

namespace Sys2Proof.Machine

theorem RouteSlots.reset_get (n : Nat) : (State.reset.jt.slots.get n).state = .empty := by
  match n with
  | 0 | 1 | 2 | 3 => rfl
  | n + 4 => rfl

/-- Both node status tables after power-on are cleared, not valid and UNLOCKED (R185, R186). -/
theorem tables_reset : ∀ t ∈ [State.reset.sup.even, State.reset.sup.odd],
    t.rows = List.replicate 16 .cleared ∧ t.valid = false ∧ t.cycle = none ∧ t.updating = false ∧ t.lock = .unlocked := by
  intro t h
  obtain rfl | rfl : t = State.reset.sup.even ∨ t = State.reset.sup.odd := by simpa using h
  · exact ⟨rfl, rfl, rfl, rfl, rfl⟩
  · exact ⟨rfl, rfl, rfl, rfl, rfl⟩

theorem supervisionOk_reset : SupervisionOk State.reset.sup := by
  have table (t : NodeTable) (r : t.rows.length = 16) (v : t.valid = false) (u : t.updating = false) : TableOk t :=
    ⟨r, by simp [v], by simp [u]⟩
  exact ⟨table _ rfl rfl rfl, table _ rfl rfl rfl, by decide, by decide⟩

theorem consistOk_reset : ConsistOk State.reset.cm := by
  refine ⟨?_, ?_, ?_, nofun, ?_, ?_⟩ <;> decide

theorem blocksOk_reset : BlocksOk State.reset.cm := fun _ h => absurd h List.not_mem_nil

theorem rotationOk_reset : RotationOk State.reset.dc := by
  refine ⟨rfl, fun e h => ?_, ?_, nofun, ?_, nofun⟩
  · obtain rfl := List.eq_of_mem_replicate h
    decide
  · decide
  · decide

theorem bankOk_nil : BankOk [] := by
  refine ⟨?_, ?_, ?_, nofun⟩ <;> decide

theorem backboneOk_reset : BackboneOk State.reset := by
  refine ⟨?_, ?_, ?_, ?_, ?_, ?_⟩ <;> decide

theorem queueOk_reset : QueueOk State.reset.clc := ⟨by decide, nofun, by decide, rfl, nofun⟩

theorem reportsOk_reset : ReportsOk State.reset.clc := ⟨by decide, .nil, nofun, by decide, fun _ => rfl⟩

/-- Settles O3, block by block: the values are those of the blocks' resets, and these meet every invariant. -/
theorem resetHoldsPowerOnValues : Obligations.ResetHoldsPowerOnValues := by
  unfold Obligations.ResetHoldsPowerOnValues
  refine ⟨RouteSlots.reset_get, ?_⟩
  repeat refine ⟨rfl, ?_⟩
  refine ⟨tables_reset, ?_⟩
  repeat refine ⟨rfl, ?_⟩
  exact ⟨portionsOk_reset _, odometerOk_reset rfl, consistOk_reset, blocksOk_reset, rotationOk_reset,
    ⟨bankOk_nil, bankOk_nil, fun _ => rfl⟩, backboneOk_reset, supervisionOk_reset, queueOk_reset, reportsOk_reset,
    alarmsOk_reset rfl rfl rfl rfl rfl (show 1 ≤ powerOnConfig.skipLimit by decide)⟩

end Sys2Proof.Machine
end

section
/-! Requests to a free controller, and the route slots: OPEN ROUTE, APPEND STOPS, CLOSE ROUTE and DROP ROUTE. -/

namespace Sys2Proof.Machine

variable {c : Instr} {kind tag : Nat} {s : State}

/-! ## Requests handled at once -/

/-- A request that its owning block answers at once, whatever the request queue holds, with the exact next state. -/
theorem exec_now (h : Free s) (k : c.request = some (kind, tag)) (l : requestKinds.contains kind = true) {t : State}
    {r : ResultCode} {data : List Byte} (a : ∀ q, act c (s.withQueue q) = .now (t.withQueue q) r data)
    (u : t.clc.ready = .up) (e : t.clc.replies = []) : exec c s = .next (answered kind tag (some c) r data t) := by
  rw [exec_of_request k, event_submit_now h l a u e]

/-- A request that its owning block refuses: the reply is all that changes. -/
theorem exec_refused (h : Free s) (k : c.request = some (kind, tag)) (l : requestKinds.contains kind = true)
    {r : ResultCode} {data : List Byte} (a : ∀ q, act c (s.withQueue q) = refuse (s.withQueue q) r data) :
    exec c s = .next (answered kind tag (some c) r data s) :=
  exec_now h k l a h.1 h.2.2.1

/-- A request whose DONE changes the Journey Tracker alone. -/
theorem exec_done_jt (h : Free s) (k : c.request = some (kind, tag)) (l : requestKinds.contains kind = true) {j : Jt}
    {data : List Byte} (a : ∀ q, act c (s.withQueue q) = done ((s.withQueue q).setJt j) data) :
    exec c s = .next (answered kind tag (some c) .done data (s.setJt j)) :=
  exec_now h k l a h.1 h.2.2.1

/-! ## OPEN ROUTE and DROP ROUTE -/

/-- A text is taken unless it is too short, too long or not printable (R5.3). -/
theorem textIn_eq_false {lo hi : Nat} {t : Text} :
    textIn lo hi t = false ↔ t.length < lo ∨ hi < t.length ∨ ∃ b ∈ t, b.toNat < 0x20 ∨ 0x7E < b.toNat := by
  simp only [textIn, printable, Bool.and_eq_false_iff, decide_eq_false_iff_not, not_le, List.all_eq_false,
    Bool.and_eq_true, decide_eq_true_eq, not_and_or, or_assoc]

theorem exec_openRoute {slot code : Nat} {dest : Text} (h : Free s) :
    exec (.openRoute tag slot code dest) s = .next (
      let reply := answered 0x10 tag (some (.openRoute tag slot code dest))
      if 3 < slot ∨ dest.length = 0 ∨ 24 < dest.length ∨ ∃ b ∈ dest, b.toNat < 0x20 ∨ 0x7E < b.toNat then
        reply .badField [] s
      else match (s.jt.slots.get slot).state with
        | .edit => reply .wrongState [] s
        | .inUse => reply .inUse [] s
        | .empty | .ready => reply .done [] (s.setJt { s.jt with
            slots := s.jt.slots.set slot { state := .edit, code := code, dest := dest, stops := [] } })) := by
  have act_eq (q : List Queued) : act (.openRoute tag slot code dest) (s.withQueue q) = doOpenRoute slot code dest (s.withQueue q) := rfl
  have bad : (decide (3 < slot) || !textIn 1 24 dest) = true ↔
      3 < slot ∨ dest.length = 0 ∨ 24 < dest.length ∨ ∃ b ∈ dest, b.toNat < 0x20 ∨ 0x7E < b.toNat := by
    rw [Bool.or_eq_true, decide_eq_true_eq, Bool.not_eq_true', textIn_eq_false, Nat.lt_one_iff]
  dsimp only
  split
  · exact exec_refused h rfl rfl fun q => (act_eq q).trans (if_pos (bad.mpr ‹_›))
  · have good (q : List Queued) := (act_eq q).trans (if_neg (bad.not.mpr ‹_›))
    simp only [State.withQueue_jt] at good
    cases e : (s.jt.slots.get slot).state <;> rw [e] at good
    · exact exec_done_jt h rfl rfl good
    · exact exec_refused h rfl rfl good
    · exact exec_done_jt h rfl rfl good
    · exact exec_refused h rfl rfl good

theorem exec_dropRoute {slot : Nat} (h : Free s) :
    exec (.dropRoute tag slot) s = .next (
      let reply := answered 0x13 tag (some (.dropRoute tag slot))
      if 3 < slot then reply .badField [] s
      else match (s.jt.slots.get slot).state with
        | .empty => reply .notFound [] s
        | .inUse => reply .inUse [] s
        | .edit | .ready => reply .done [] (s.setJt { s.jt with
            slots := s.jt.slots.set slot { state := .empty, code := 0, dest := [], stops := [] } })) := by
  have act_eq (q : List Queued) : act (.dropRoute tag slot) (s.withQueue q) = doDropRoute slot (s.withQueue q) := rfl
  dsimp only
  split
  · exact exec_refused h rfl rfl fun q => (act_eq q).trans (if_pos ‹_›)
  · have good (q : List Queued) := (act_eq q).trans (if_neg ‹_›)
    simp only [State.withQueue_jt] at good
    cases e : (s.jt.slots.get slot).state <;> rw [e] at good
    · exact exec_refused h rfl rfl good
    · exact exec_done_jt h rfl rfl good
    · exact exec_done_jt h rfl rfl good
    · exact exec_refused h rfl rfl good

/-- Settles O18, by the state of the slot. -/
theorem openAndDropRouteFollowTheSlotState : Obligations.OpenAndDropRouteFollowTheSlotState := by
  unfold Obligations.OpenAndDropRouteFollowTheSlotState
  exact ⟨fun tag slot code dest s h => exec_openRoute h, fun tag slot s h => exec_dropRoute h⟩

/-! ## APPEND STOPS -/

/-- A stop record with a bad name, side or column (R4). -/
def badRecord (f : StopFields) : Bool :=
  f.name.length = 0 || 20 < f.name.length || !f.name.all (fun b => 0x20 ≤ b.toNat && b.toNat ≤ 0x7E) || 3 < f.side
    || 1023 < f.column

/-- The stop a good record describes, its cancelled mark clear (R4). -/
def recordStop (f : StopFields) : Stop :=
  { code := f.code, name := f.name, leg := f.leg,
    side := match f.side with
      | 1 => .left
      | 2 => .right
      | 3 => .both
      | _ => .none
    approach := f.approach, announce := f.announce, column := f.column, cancelled := false }

theorem takenStop_eq (f : StopFields) : takenStop f = if badRecord f then none else some (recordStop f) := by
  have name : (f.name.length = 0 || 20 < f.name.length || !f.name.all (fun b => 0x20 ≤ b.toNat && b.toNat ≤ 0x7E))
      = !textIn 1 20 f.name := by
    rw [show (fun b : Byte => decide (0x20 ≤ b.toNat) && decide (b.toNat ≤ 0x7E)) = printable from rfl, textIn,
      Bool.not_and, Bool.not_and]
    simp only [← decide_not, not_le, Nat.lt_one_iff]
  have column : decide (1023 < f.column) = !decide (f.column ≤ 1023) := by simp only [← decide_not, not_le]
  obtain ⟨code, text, leg, side, approach, announce, col⟩ := f
  unfold takenStop badRecord recordStop
  rw [name, column]
  match side with
  | 0 | 1 | 2 | 3 => cases h : textIn 1 20 text <;> cases g : decide (col ≤ 1023) <;> simp_all [Side.ofCode]
  | k + 4 => simp [Side.ofCode, show 3 < k + 4 by omega]

theorem isNone_takenStop : (fun f => (takenStop f).isNone) = badRecord := by
  funext f
  rw [takenStop_eq]
  cases badRecord f <;> rfl

/-- Records of which none is bad are taken one by one. -/
theorem filterMap_takenStop {l : List StopFields} (h : l.findIdx? badRecord = none) :
    l.filterMap takenStop = l.map recordStop := by
  rw [List.findIdx?_eq_none_iff] at h
  rw [← List.filterMap_eq_map]
  refine List.filterMap_congr fun f m => ?_
  rw [takenStop_eq, h f m]
  rfl

/-- The slot check of a loading request (R3 to R5). -/
theorem editCheck_eq (slot : Nat) (s : State) : editCheck slot s = if 3 < slot then some .badField
    else match (s.jt.slots.get slot).state with
      | .empty => some .notFound
      | .ready | .inUse => some .wrongState
      | .edit => none := by
  unfold editCheck
  split_ifs
  · rfl
  · cases (s.jt.slots.get slot).state <;> rfl

theorem doAppendStops_of_edit {slot : Nat} {stops : List StopFields} (c : editCheck slot s = none) :
    doAppendStops slot stops s =
      if stops.length = 0 ∨ 6 < stops.length then refuse s .badField
      else match stops.findIdx? badRecord with
        | some i => refuse s .badField (u8 i)
        | none =>
          let route := s.jt.slots.get slot
          if 40 < route.stops.length + stops.length then refuse s .noSpace
          else done (s.setJt { s.jt with
            slots := s.jt.slots.set slot { route with stops := route.stops ++ stops.map recordStop } })
              (u8 (route.stops.length + stops.length)) := by
  rw [doAppendStops, c]
  simp only [isNone_takenStop, Bool.or_eq_true, decide_eq_true_eq, List.length_eq_zero_iff]
  cases e : stops.findIdx? badRecord with
  | none => simp only [filterMap_takenStop e, List.length_append, List.length_map, Config.maxStops]; rfl
  | some i => rfl

theorem doAppendStops_of_check {slot : Nat} {stops : List StopFields} {r : ResultCode} (c : editCheck slot s = some r) :
    doAppendStops slot stops s = refuse s r := by
  rw [doAppendStops, c]

theorem exec_appendStops {slot : Nat} {stops : List StopFields} (h : Free s) :
    exec (.appendStops tag slot stops) s = .next (
      let reply := answered 0x11 tag (some (.appendStops tag slot stops))
      let route := s.jt.slots.get slot
      if 3 < slot then reply .badField [] s
      else match route.state with
        | .empty => reply .notFound [] s
        | .ready | .inUse => reply .wrongState [] s
        | .edit =>
          if stops.length = 0 ∨ 6 < stops.length then reply .badField [] s
          else match stops.findIdx? badRecord with
            | some i => reply .badField (u8 i) s
            | none =>
              if 40 < route.stops.length + stops.length then reply .noSpace [] s
              else reply .done (u8 (route.stops.length + stops.length)) (s.setJt { s.jt with
                slots := s.jt.slots.set slot { route with stops := route.stops ++ stops.map recordStop } })) := by
  have check := editCheck_eq slot s
  have refused {r : ResultCode} (k : editCheck slot s = some r) :
      exec (.appendStops tag slot stops) s = .next (answered 0x11 tag (some (.appendStops tag slot stops)) r [] s) :=
    exec_refused h rfl rfl fun q => doAppendStops_of_check (s := s.withQueue q) k
  dsimp only
  by_cases bad : 3 < slot
  · rw [if_pos bad] at check ⊢
    exact refused check
  · rw [if_neg bad] at check ⊢
    cases e : (s.jt.slots.get slot).state <;> rw [e] at check
    · exact refused check
    · have edit (q : List Queued) := doAppendStops_of_edit (s := s.withQueue q) (stops := stops) check
      simp only [State.withQueue_jt, e] at edit
      dsimp only
      by_cases count : stops.length = 0 ∨ 6 < stops.length
      · rw [if_pos count]
        exact exec_refused h rfl rfl fun q => (edit q).trans (if_pos count)
      · rw [if_neg count]
        have counted (q : List Queued) := (edit q).trans (if_neg count)
        cases f : stops.findIdx? badRecord <;> rw [f] at counted
        · dsimp only
          split_ifs with room
          · exact exec_refused h rfl rfl fun q => (counted q).trans (if_pos room)
          · exact exec_done_jt h rfl rfl fun q => (counted q).trans (if_neg room)
        · exact exec_refused h rfl rfl counted
    · exact refused check
    · exact refused check

/-- Settles O19, by the state of the slot and the checks of R4 in their order. -/
theorem appendStopsChecksThenAppends : Obligations.AppendStopsChecksThenAppends := by
  unfold Obligations.AppendStopsChecksThenAppends
  exact fun tag slot stops s h => exec_appendStops h

end Sys2Proof.Machine
end

section
/-! CLOSE ROUTE (R5). -/

namespace Sys2Proof.Machine

variable {stops : List Stop} {i n : Nat} {p : Stop} {slot tag : Nat} {s : State}

/-- Check n of R5 fails for the stop p at index i of a route. -/
def CheckFails (stops : List Stop) (i : Nat) (p : Stop) (n : Nat) : Prop :=
  (n = 1 ∧ if i = 0 then p.leg ≠ 0 else p.leg < 100 ∨ 250000 < p.leg)
    ∨ (n = 2 ∧ (20000 < p.approach ∨ 5000 < p.announce))
    ∨ (n = 3 ∧ p.approach ≠ 0 ∧ p.announce ≠ 0 ∧ p.approach < p.announce)
    ∨ (n = 4 ∧ 0 < i ∧ ∃ q, stops[i - 1]? = some q ∧ p.column ≤ q.column)
    ∨ (n = 5 ∧ ∃ j < i, ∃ q, stops[j]? = some q ∧ q.code = p.code)

theorem columnOf_of_getElem? {q : Stop} (h : stops[i]? = some q) : columnOf stops i = q.column := by
  rw [columnOf, h]; rfl

theorem checkFails_iff (n : Nat) (h : stops[i]? = some p) : CheckFails stops i p n ↔
    n = 1 ∧ ¬ (if i = 0 then p.leg = 0 else 100 ≤ p.leg ∧ p.leg ≤ 250000)
    ∨ n = 2 ∧ (20000 < p.approach ∨ 5000 < p.announce)
    ∨ n = 3 ∧ (p.approach ≠ 0 ∧ p.announce ≠ 0 ∧ p.approach < p.announce)
    ∨ n = 4 ∧ (0 < i ∧ p.column ≤ columnOf stops (i - 1))
    ∨ n = 5 ∧ ∃ q ∈ stops.take i, q.code = p.code := by
  have leg : (if i = 0 then p.leg ≠ 0 else p.leg < 100 ∨ 250000 < p.leg)
      ↔ ¬ (if i = 0 then p.leg = 0 else 100 ≤ p.leg ∧ p.leg ≤ 250000) := by
    split <;> omega
  have column : (0 < i ∧ ∃ q, stops[i - 1]? = some q ∧ p.column ≤ q.column)
      ↔ 0 < i ∧ p.column ≤ columnOf stops (i - 1) := by
    obtain ⟨l, -⟩ := List.getElem?_eq_some_iff.mp h
    have before : stops[i - 1]? = some stops[i - 1] := List.getElem?_eq_getElem _
    rw [columnOf_of_getElem? before, before]
    simp
  have code : (∃ j < i, ∃ q, stops[j]? = some q ∧ q.code = p.code) ↔ ∃ q ∈ stops.take i, q.code = p.code := by
    constructor
    · rintro ⟨j, l, q, g, e⟩
      exact ⟨q, List.mem_of_getElem? ((List.getElem?_take_of_lt l).trans g), e⟩
    · rintro ⟨q, m, e⟩
      obtain ⟨j, g⟩ := List.mem_iff_getElem?.mp m
      rw [List.getElem?_take] at g
      split at g
      · exact ⟨j, ‹_›, q, g, e⟩
      · cases g
  unfold CheckFails
  rw [leg, column, code]

/-- The tests of the model are the checks of R5, in their order. -/
theorem stopFault_tests (h : stops[i]? = some p) :
    ((!(if i = 0 then decide (p.leg = 0) else decide (100 ≤ p.leg) && decide (p.leg ≤ 250000))) = true
      ↔ CheckFails stops i p 1)
    ∧ ((decide (20000 < p.approach) || decide (5000 < p.announce)) = true ↔ CheckFails stops i p 2)
    ∧ ((p.approach ≠ 0 && p.announce ≠ 0 && decide (p.approach < p.announce)) = true ↔ CheckFails stops i p 3)
    ∧ ((decide (0 < i) && decide (p.column ≤ columnOf stops (i - 1))) = true ↔ CheckFails stops i p 4)
    ∧ (((stops.take i).any fun q => q.code = p.code) = true ↔ CheckFails stops i p 5) := by
  simp only [checkFails_iff _ h]
  refine ⟨?_, by simp, by simp [and_assoc], by simp, by simp⟩
  split
  · simp [*]
  · simp [*]
    omega
theorem checkFails_range (f : CheckFails stops i p n) : n = 1 ∨ n = 2 ∨ n = 3 ∨ n = 4 ∨ n = 5 := by
  unfold CheckFails at f
  omega

/-- The check that fails first at a stop is the one named. -/
theorem stopFault_eq_some (h : stops[i]? = some p) (f : CheckFails stops i p n) (first : ∀ m < n, ¬ CheckFails stops i p m) :
    stopFault stops i p = some n := by
  obtain ⟨leg, distance, order, column, code⟩ := stopFault_tests h
  unfold stopFault
  obtain rfl | rfl | rfl | rfl | rfl := checkFails_range f
  · rw [if_pos (leg.mpr f)]
  · rw [if_neg (leg.not.mpr (first 1 (by decide))), if_pos (distance.mpr f)]
  · rw [if_neg (leg.not.mpr (first 1 (by decide))), if_neg (distance.not.mpr (first 2 (by decide))), if_pos (order.mpr f)]
  · rw [if_neg (leg.not.mpr (first 1 (by decide))), if_neg (distance.not.mpr (first 2 (by decide))),
      if_neg (order.not.mpr (first 3 (by decide))), if_pos (column.mpr f)]
  · rw [if_neg (leg.not.mpr (first 1 (by decide))), if_neg (distance.not.mpr (first 2 (by decide))),
      if_neg (order.not.mpr (first 3 (by decide))), if_neg (column.not.mpr (first 4 (by decide))), if_pos (code.mpr f)]

theorem stopFault_eq_none (h : stops[i]? = some p) (f : ∀ m, ¬ CheckFails stops i p m) : stopFault stops i p = none := by
  obtain ⟨leg, distance, order, column, code⟩ := stopFault_tests h
  rw [stopFault, if_neg (leg.not.mpr (f 1)), if_neg (distance.not.mpr (f 2)), if_neg (order.not.mpr (f 3)),
    if_neg (column.not.mpr (f 4)), if_neg (code.not.mpr (f 5))]

/-- The first index with a result, searching a list with its indices. -/
theorem findSome?_zipIdx_first {α β : Type} {l : List α} {f : α × Nat → Option β} {a : α} {b : β} (h : l[i]? = some a)
    (hit : f (a, i) = some b) (before : ∀ j < i, ∀ x, l[j]? = some x → f (x, j) = none) : l.zipIdx.findSome? f = some b := by
  have at_i : l.zipIdx[i]? = some (a, i) := by simp [List.getElem?_zipIdx, h]
  obtain ⟨len, e⟩ := List.getElem?_eq_some_iff.mp at_i
  rw [List.findSome?_eq_some_iff]
  refine ⟨l.zipIdx.take i, (a, i), l.zipIdx.drop (i + 1), ?_, hit, fun x m => ?_⟩
  · rw [← e, List.getElem_cons_drop, List.take_append_drop]
  · obtain ⟨j, g⟩ := List.mem_iff_getElem?.mp m
    rw [List.getElem?_take] at g
    split at g
    · rw [List.getElem?_zipIdx, Option.map_eq_some_iff] at g
      obtain ⟨y, hy, rfl⟩ := g
      simpa using before j ‹_› y hy
    · cases g

theorem routeFault_eq_some (l : 2 ≤ stops.length) (h : stops[i]? = some p) (f : CheckFails stops i p n)
    (first : ∀ m < n, ¬ CheckFails stops i p m) (before : ∀ j < i, ∀ q, stops[j]? = some q → ∀ m, ¬ CheckFails stops j q m) :
    routeFault stops = some (i, n) := by
  rw [routeFault, if_neg (by omega)]
  refine findSome?_zipIdx_first h ?_ fun j k q g => ?_
  · rw [stopFault_eq_some h f first]; rfl
  · rw [stopFault_eq_none g (before j k q g)]; rfl

theorem routeFault_eq_none (l : 2 ≤ stops.length) (f : ∀ i p, stops[i]? = some p → ∀ m, ¬ CheckFails stops i p m) :
    routeFault stops = none := by
  rw [routeFault, if_neg (by omega), List.findSome?_eq_none_iff]
  rintro ⟨p, i⟩ m
  have h : stops[i]? = some p := List.mem_zipIdx_iff_getElem?.mp m
  rw [stopFault_eq_none h (f i p h)]; rfl

theorem doCloseRoute_of_check {r : ResultCode} (c : editCheck slot s = some r) : doCloseRoute slot s = refuse s r := by
  rw [doCloseRoute, c]

theorem doCloseRoute_of_fault {f : Nat × Nat} (c : editCheck slot s = none)
    (h : routeFault (s.jt.slots.get slot).stops = some f) :
    doCloseRoute slot s = refuse s .badField (u8 f.1 ++ u8 f.2) := by
  rw [doCloseRoute, c]
  simp only [h]

theorem doCloseRoute_of_valid (c : editCheck slot s = none) (h : routeFault (s.jt.slots.get slot).stops = none) :
    doCloseRoute slot s = done (s.setJt { s.jt with
      slots := s.jt.slots.set slot { s.jt.slots.get slot with state := .ready } }) (u8 (s.jt.slots.get slot).stops.length) := by
  rw [doCloseRoute, c]
  simp only [h]
  rfl

/-- Settles O20: the slot check, then the search for the first stop at which a check fails. -/
theorem closeRouteNamesTheFirstFailure : Obligations.CloseRouteNamesTheFirstFailure := by
  unfold Obligations.CloseRouteNamesTheFirstFailure
  intro tag slot s h
  have check := editCheck_eq slot s
  have refused {r : ResultCode} (k : editCheck slot s = some r) :
      exec (.closeRoute tag slot) s = .next (answered 0x12 tag (some (.closeRoute tag slot)) r [] s) :=
    exec_refused h rfl rfl fun q => doCloseRoute_of_check (s := s.withQueue q) k
  have faulty {i n : Nat} (k : editCheck slot s = none) (f : routeFault (s.jt.slots.get slot).stops = some (i, n)) :
      exec (.closeRoute tag slot) s = .next (answered 0x12 tag (some (.closeRoute tag slot)) .badField (u8 i ++ u8 n) s) :=
    exec_refused h rfl rfl fun q => doCloseRoute_of_fault (s := s.withQueue q) k f
  dsimp only
  refine ⟨fun l => ?_, fun l e => ?_, fun l e => ?_, fun l e c => ?_, fun i n l e c f first before => ?_, fun l e c f => ?_⟩
  · exact refused (check.trans (if_pos l))
  · rw [if_neg (not_lt.mpr l), e] at check
    exact refused check
  · rw [if_neg (not_lt.mpr l)] at check
    obtain e | e := e <;> rw [e] at check <;> exact refused check
  · rw [if_neg (not_lt.mpr l), e] at check
    exact faulty check (if_pos c)
  · rw [if_neg (not_lt.mpr l), e] at check
    obtain ⟨p, hp, f⟩ := f
    exact faulty check (routeFault_eq_some c hp f (fun m k g => first m k ⟨p, hp, g⟩)
      fun j k q hq m g => before j k m ⟨q, hq, g⟩)
  · rw [if_neg (not_lt.mpr l), e] at check
    exact exec_done_jt h rfl rfl fun q => doCloseRoute_of_valid (s := s.withQueue q) check
      (routeFault_eq_none c fun i p hp m g => f i m ⟨p, hp, g⟩)

end Sys2Proof.Machine
end

section
/-! What a request to a free controller leaves once it has been answered, for answers that raise reports, mark blocks or abort
a frame; SET DIRECTION and SET TIME. -/

namespace Sys2Proof.Machine

variable {c : Instr} {kind tag : Nat} {s u : State} {r : ResultCode} {data : List Byte}

/-! ## The answer given -/

/-- The state once the answer has been given: the reply built and the record of advanced blocks emptied. -/
def replied (r : ResultCode) (data : List Byte) (u : State) : State :=
  (finishHead r data u).setDc { u.dc with advanced := [] }

@[simp] theorem replied_jt : (replied r data u).jt = u.jt := by simp [replied]
@[simp] theorem replied_cm : (replied r data u).cm = u.cm := by simp [replied]
@[simp] theorem replied_rs : (replied r data u).rs = u.rs := by simp [replied]
@[simp] theorem replied_bc : (replied r data u).bc = u.bc := by simp [replied]
@[simp] theorem replied_sup : (replied r data u).sup = u.sup := by simp [replied]
@[simp] theorem replied_pending : (replied r data u).pending = u.pending := by simp [replied]
@[simp] theorem replied_dc : (replied r data u).dc = { u.dc with advanced := [] } := by simp [replied]

@[simp] theorem handling_jt {k : Option Instr} : (handling kind tag k s).jt = s.jt := rfl
@[simp] theorem handling_cm {k : Option Instr} : (handling kind tag k s).cm = s.cm := rfl
@[simp] theorem handling_rs {k : Option Instr} : (handling kind tag k s).rs = s.rs := rfl
@[simp] theorem handling_dc {k : Option Instr} : (handling kind tag k s).dc = s.dc := rfl
@[simp] theorem handling_bc {k : Option Instr} : (handling kind tag k s).bc = s.bc := rfl
@[simp] theorem handling_sup {k : Option Instr} : (handling kind tag k s).sup = s.sup := rfl
@[simp] theorem handling_pending {k : Option Instr} : (handling kind tag k s).pending = s.pending := rfl
@[simp] theorem handling_alarms {k : Option Instr} : (handling kind tag k s).clc.alarms = s.clc.alarms := rfl

/-- A request to a free controller that its block answers at once. -/
theorem exec_of_act (h : Free s) (k : c.request = some (kind, tag)) (l : requestKinds.contains kind = true)
    (a : act c (handling kind tag (some c) s) = .now u r data) : exec c s = .next (replied r data u) := by
  rw [exec_of_request k]
  unfold submit
  rw [event_arrive_free h]
  simp only [answerOf, l, Bool.not_true, Bool.false_eq_true, if_false, a, settle, replied, finishHead_dc]

/-- The reply of the head is the only one waiting, whatever the block has done besides (R204, R206). -/
theorem replied_replies (h : Free s) (k : Kept (handling kind tag (some c) s) u) :
    (replied r data u).clc.replies = [replyTo kind tag r data] := by
  have q : u.clc.queue = [{ kind := kind, tag := tag, command := some c, state := .handling }] := k.queue
  have l : u.clc.replies = [] := k.replies.trans h.2.2.1
  unfold replied finishHead
  rw [q]
  simp [addReply, l, replyTo]

/-- The link of a request whose block left it alone. -/
theorem replied_clc (h : Free s) (e : u.clc = (handling kind tag (some c) s).clc) :
    (replied r data u).clc = (answered kind tag (some c) r data s).clc := by
  obtain ⟨ready, -, replies, -, -⟩ := h
  have q := congrArg State.clc (finishHead_handling (kind := kind) (tag := tag) (c := some c) (r := r) (data := data)
    (t := s) ready replies)
  rw [← q, replied, State.setDc_clc, State.setDc_clc, finishHead, finishHead, e]
  simp only [addReply]
  rfl

/-- Between commands the composer is as before once the rotation has been left alone. -/
theorem Kept.dc_emptied (k : Kept s u) (d : s.dc.advanced = []) : ({ u.dc with advanced := [] } : Dc) = s.dc := by
  have e : ∀ d : Dc, d.advanced = [] → u.dc.table = d.table → u.dc.start = d.start → u.dc.current = d.current →
      u.dc.dwell = d.dwell → u.dc.page = d.page → ({ u.dc with advanced := [] } : Dc) = d := by
    rintro ⟨⟩ a b c d e f
    simp_all
  exact e s.dc d k.table k.start k.current k.dwell k.page

/-- An event of a running controller between commands. -/
theorem event_running {f : State → State} (r : s.clc.ready ≠ .held) (d : s.dc.advanced = []) :
    event f s = (f s).setDc { (f s).dc with advanced := [] } := by
  simp only [event, if_neg r, State.setDc_advanced d]

/-- The composer of a request whose block left the rotation alone. -/
theorem replied_dc_kept (h : Free s) (k : Kept (handling kind tag (some c) s) u) : (replied r data u).dc = s.dc := by
  rw [replied_dc]
  exact k.dc_emptied h.2.2.2.2

theorem abortAtMost_replied (k : Kept (handling kind tag (some c) s) u) : AbortAtMost s (replied r data u) :=
  k.abort.congr rfl rfl (by simp) (by simp)

/-- A request that changes the Journey Tracker and marks blocks. -/
theorem markedReply_replied (h : Free s) (k : Kept (handling kind tag (some c) s) u)
    (e : u.clc = (handling kind tag (some c) s).clc) (m : u.cm.unmarked = s.cm.unmarked) :
    MarkedReply s (replied .done data u) u.jt u.rs kind tag c data :=
  ⟨replied_jt, replied_rs, by rw [replied_cm, m], replied_dc_kept h k, replied_clc h e, abortAtMost_replied k,
    replied_pending.trans k.pending⟩

/-! ## SET DIRECTION -/

/-- The direction codes 0 and 1 (R224). -/
theorem directionOfCode {d : Nat} (h : d ≤ 1) : Direction.ofCode d = some (if d = 0 then .headFirst else .headLast) := by
  obtain rfl | rfl : d = 0 ∨ d = 1 := by omega
  · rfl
  · rfl

theorem directionOfCode_none {d : Nat} (h : 1 < d) : Direction.ofCode d = none := by
  match d with
  | k + 2 => rfl

theorem doSetDirection_of_running {d x : Nat} (h : d ≤ 1) (p : s.jt.phase = .running x) :
    doSetDirection d s = refuse s .wrongState := by
  rw [doSetDirection, directionOfCode h]
  simp only [p]

theorem doSetDirection_of_not_running {d : Nat} (h : d ≤ 1) (p : ¬ ∃ x, s.jt.phase = .running x) :
    doSetDirection d s =
      let v : Direction := if d = 0 then .headFirst else .headLast
      if v = s.jt.direction then done s []
      else done (markBlocks (fun _ k => k = .header || k = .map) (s.setJt { s.jt with direction := v })) [] := by
  rw [doSetDirection, directionOfCode h]
  dsimp only
  split
  · next x e => exact absurd ⟨x, e⟩ p
  · rfl

/-- LINK RESET changes the link alone (R208). -/
theorem exec_linkReset_jt (h : Free s) (e : exec (.linkReset tag) s = .next u) : u.jt = s.jt := by
  rw [exec_of_act h rfl rfl (u := (doLinkReset (handling 0x02 tag (some (.linkReset tag)) s)).state) rfl] at e
  cases e
  simp [doLinkReset, done]

/-- Settles O28: the code, the phase and the direction held, in the order of R27. -/
theorem setDirectionMarksEveryMirror : Obligations.SetDirectionMarksEveryMirror := by
  unfold Obligations.SetDirectionMarksEveryMirror
  refine ⟨fun tag direction s h => ⟨fun b => ?_, fun b ⟨x, w⟩ => ?_, fun b w e => ?_, fun b w e => ?_⟩, rfl, fun s => rfl,
    fun tag s t e h => exec_linkReset_jt h e ▸ rfl⟩
  · exact exec_refused h rfl rfl fun q => by
      show doSetDirection direction _ = _
      rw [doSetDirection, directionOfCode_none b]
  · exact exec_refused h rfl rfl fun q => doSetDirection_of_running (s := s.withQueue q) b w
  · exact exec_done_jt (j := s.jt) h rfl rfl fun q =>
      (doSetDirection_of_not_running (s := s.withQueue q) b w).trans (if_pos e)
  · have a := (doSetDirection_of_not_running (s := handling 0x1B tag (some (.setDirection tag direction)) s) b w).trans
      (if_neg e)
    have k := (kept_setJt (handling 0x1B tag (some (.setDirection tag direction)) s) { s.jt with
      direction := if direction = 0 then .headFirst else .headLast }).trans
      (kept_markBlocks (fun _ k => k = .header || k = .map) _)
    refine ⟨_, exec_of_act h rfl rfl a, ?_, ?_⟩
    · have m := markedReply_replied (data := []) h k (markBlocks_clc ..) (markBlocks_unmarked ..)
      simpa using m
    · rw [replied_cm]
      exact markBlocks_cm_first _ h.2.2.2.2

/-! ## SET TIME and the minute timer -/

/-- eta_min and the arrival clock formed, marking HEADER blocks when one of them changes (R40, R44). -/
theorem formEta_eq (s : State) : formEta s =
    if s.jt.timed.odo.etaMin = s.jt.odo.etaMin ∧ s.jt.timed.odo.clock = s.jt.odo.clock then s.setJt s.jt.timed
    else markHeaders (indexedEntry s) (s.setJt s.jt.timed) := by
  unfold formEta
  simp only [Bool.and_eq_true, decide_eq_true_eq]
  rfl

theorem formEta_cm_first (h : s.dc.advanced = []) : (formEta s).cm =
    if s.jt.timed.odo.etaMin = s.jt.odo.etaMin ∧ s.jt.timed.odo.clock = s.jt.odo.clock then s.cm
    else s.cm.marked fun e k => k = .header && (s.jt.unitIndex e.coach.unit).isSome := by
  have swap : (fun (e : Entry) (k : BlockKind) => decide (k = .header) && (s.jt.unitIndex e.coach.unit).isSome)
      = fun e k => indexedEntry s e && decide (k = .header) := funext fun _ => funext fun _ => Bool.and_comm ..
  rw [formEta_eq, apply_ite State.cm, State.setJt_cm, markHeaders, markBlocks_cm_first _ (by exact h), swap, State.setJt_cm]

theorem formEta_clc (s : State) : (formEta s).clc = s.clc := by simp [formEta_eq, apply_ite State.clc, markHeaders]
theorem formEta_rs (s : State) : (formEta s).rs = s.rs := by simp [formEta_eq, apply_ite State.rs, markHeaders]
theorem formEta_unmarked (s : State) : (formEta s).cm.unmarked = s.cm.unmarked := by
  rw [formEta_eq]
  split
  · rfl
  · exact markBlocks_unmarked ..

/-- Settles O29: SET TIME and the timer set the minute and form the figures of R40 anew. -/
theorem timeOfDayIsSetAndAdvances : Obligations.TimeOfDayIsSetAndAdvances := by
  unfold Obligations.TimeOfDayIsSetAndAdvances
  refine fun s => ⟨fun tag minute h l => ?_, fun tag minute h l => ?_, fun r d => ?_⟩
  · exact exec_refused h rfl rfl fun q => if_pos l
  · have a : act (.setTime tag minute) (handling 0x1C tag (some (.setTime tag minute)) s) = _ := if_neg (not_lt.mpr l)
    refine ⟨_, exec_of_act h rfl rfl a, ?_, ?_⟩
    · have k := (kept_setJt (handling 0x1C tag (some (.setTime tag minute)) s) { s.jt with
        minute := minute, timeValid := true }).trans (kept_formEta _)
      have m := markedReply_replied (data := []) h k (formEta_clc _) (formEta_unmarked _)
      rwa [formEta_jt, formEta_rs] at m
    · rw [replied_cm]
      exact formEta_cm_first h.2.2.2.2
  · have k := (kept_setJt s { s.jt with minute := (s.jt.minute + 1) % 1440 }).trans (kept_formEta _)
    refine ⟨_, congrArg Host.Outcome.next (event_running (f := minuteTick) (by rw [r]; decide) d), ?_, ?_, ?_, ?_, ?_, ?_⟩
    · exact formEta_jt _
    · exact formEta_cm_first d
    · exact formEta_rs _
    · exact k.dc_emptied d
    · exact formEta_clc _
    · exact k.abort.congr rfl rfl rfl rfl

end Sys2Proof.Machine
end

section
/-! What the operations of a journey leave of the consist, the store and the link; END JOURNEY. -/

namespace Sys2Proof.Machine

variable {s : State} {c : Instr} {kind tag : Nat}

/-! ## The consist but for marks, the store and the link -/

@[simp] theorem markHeaders_unmarked (pick : Entry → Bool) (s : State) : (markHeaders pick s).cm.unmarked = s.cm.unmarked :=
  markBlocks_unmarked ..
@[simp] theorem markSeats_unmarked (pick : Entry → Bool) (s : State) : (markSeats pick s).cm.unmarked = s.cm.unmarked :=
  markBlocks_unmarked ..
@[simp] theorem markSeatsOf_unmarked (l : List (Nat × Nat)) (s : State) : (markSeatsOf l s).cm.unmarked = s.cm.unmarked :=
  markBlocks_unmarked ..
@[simp] theorem markPhase_unmarked (s : State) : (markPhase s).cm.unmarked = s.cm.unmarked := markBlocks_unmarked ..
@[simp] theorem markRoute_unmarked (slot index : Nat) (s : State) : (markRoute slot index s).cm.unmarked = s.cm.unmarked :=
  markBlocks_unmarked ..
@[simp] theorem markRoute_rs (slot index : Nat) (s : State) : (markRoute slot index s).rs = s.rs := markBlocks_rs ..
@[simp] theorem markRoute_clc (slot index : Nat) (s : State) : (markRoute slot index s).clc = s.clc := markBlocks_clc ..
@[simp] theorem reviseAll_unmarked (pick : Entry → Bool) (s : State) : (reviseAll pick s).cm.unmarked = s.cm.unmarked := by
  simp [reviseAll]
@[simp] theorem reviseAll_rs (pick : Entry → Bool) (s : State) : (reviseAll pick s).rs = s.rs := by simp [reviseAll]
@[simp] theorem reviseAll_clc (pick : Entry → Bool) (s : State) : (reviseAll pick s).clc = s.clc := by simp [reviseAll]
@[simp] theorem withAdvisory_unmarked (f : State → State) (s : State) :
    (withAdvisory f s).cm.unmarked = (f s).cm.unmarked := markBlocks_unmarked ..
@[simp] theorem withAdvisory_rs (f : State → State) (s : State) : (withAdvisory f s).rs = (f s).rs := markBlocks_rs ..
@[simp] theorem withAdvisory_clc (f : State → State) (s : State) : (withAdvisory f s).clc = (f s).clc := markBlocks_clc ..

@[simp] theorem formPositions_unmarked (s : State) : (formPositions s).cm.unmarked = s.cm.unmarked := markBlocks_unmarked ..
@[simp] theorem formPositions_rs (s : State) : (formPositions s).rs = s.rs := markBlocks_rs ..
@[simp] theorem formPositions_clc (s : State) : (formPositions s).clc = s.clc := markBlocks_clc ..
@[simp] theorem formFigures_unmarked (s : State) : (formFigures s).cm.unmarked = s.cm.unmarked :=
  (formEta_unmarked _).trans (formPositions_unmarked s)
@[simp] theorem formFigures_rs (s : State) : (formFigures s).rs = s.rs := (formEta_rs _).trans (formPositions_rs s)
@[simp] theorem formFigures_clc (s : State) : (formFigures s).clc = s.clc := (formEta_clc _).trans (formPositions_clc s)

@[simp] theorem setNotice_unmarked (n : JourneyNotice) (s : State) : (setNotice n s).cm.unmarked = s.cm.unmarked := by
  unfold setNotice
  split <;> simp
@[simp] theorem setNotice_rs (n : JourneyNotice) (s : State) : (setNotice n s).rs = s.rs := by
  unfold setNotice
  split <;> simp
@[simp] theorem setNotice_clc (n : JourneyNotice) (s : State) : (setNotice n s).clc = s.clc := by
  unfold setNotice
  split <;> simp

/-- An agreement status that every entry has stays through marks of blocks. -/
theorem agree_of_unmarked {a b : Cm} {x : Agreement} (h : a.unmarked = b.unmarked) (k : ∀ e ∈ b.list, e.agree = x) :
    ∀ e ∈ a.list, e.agree = x := by
  have same : a.list.map (·.agree) = b.list.map (·.agree) := by
    simpa [Cm.unmarked, Function.comp_def] using congrArg (fun c : Cm => c.list.map (·.agree)) h
  intro e m
  obtain ⟨d, hd, ed⟩ := List.mem_map.mp (same ▸ List.mem_map_of_mem m : e.agree ∈ b.list.map (·.agree))
  exact ed ▸ k d hd

/-- The outline sees no agreement status (R116). -/
theorem outline_setAgree (m : Cm) (f : Entry → Agreement) :
    ({ m with list := m.list.map fun e => { e with agree := f e } } : Cm).outline = m.outline := by
  simp [Cm.outline, Cm.unmarked, Function.comp_def]

/-! ## END JOURNEY (R17) -/

theorem released_eq (r : RouteSlot) : r.released = { r with state := if r.state = .inUse then .ready else r.state } := by
  unfold RouteSlot.released
  split <;> rfl

/-- What END JOURNEY leaves of the journey (R17, R45). -/
theorem Jt.ended_eq (j : Jt) : j.ended =
    let ready (r : RouteSlot) : RouteSlot := { r with state := if r.state = .inUse then .ready else r.state }
    { j with
      slots := ⟨ready j.slots.s0, ready j.slots.s1, ready j.slots.s2, ready j.slots.s3⟩
      portions := []
      phase := .noJourney
      notice := .none
      odo := { j.odo with
        dist := 0, rem := 0, etaS := 0, etaHeld := false, tainted := false, pos := 0, etaMin := 0,
        clock := if j.timeValid then some (j.minute % 1440) else none } } := by
  simp [← released_eq, Jt.ended, Jt.positioned, Jt.timed, Odometer.newLeg, Jt.homePosition, arrivalClock, ceilDiv,
    Slots.mapNumbered]


theorem doEndJourney_of_stopped (h : s.jt.phase = .noJourney ∨ ∃ p ∈ s.jt.portions, p.state = .parting) :
    doEndJourney s = refuse s .wrongState := by
  refine if_pos ?_
  simpa using h

/-- The state that END JOURNEY leaves (R17, R117). -/
theorem doEndJourney_of_not_stopped (h : ¬ (s.jt.phase = .noJourney ∨ ∃ p ∈ s.jt.portions, p.state = .parting)) :
    ∃ u, doEndJourney s = done u [] ∧ u.jt = s.jt.ended ∧ u.rs = s.rs ∧ u.clc = s.clc ∧ Kept s u
      ∧ (∀ e ∈ u.cm.list, e.agree = .unitUnassigned) ∧ u.cm.outline = s.cm.outline := by
  have go : ¬ (decide (s.jt.phase = .noJourney) || s.jt.portions.any (fun p => p.state = .parting)) = true := by
    simpa using h
  refine ⟨_, if_neg go, ?_, by simp, by simp, ?_, ?_, ?_⟩
  · simp only [reviseAll_jt, markSeats_jt, State.setCm_jt, formFigures_jt, State.setJt_jt]
    rfl
  · exact ((((kept_setJt ..).trans (kept_formFigures _)).trans (kept_setCm ..)).trans (kept_markSeats ..)).trans
      ((kept_evaluateKinds ..).trans (kept_markBlocks ..))
  · refine agree_of_unmarked ((reviseAll_unmarked ..).trans (markSeats_unmarked ..)) fun e m => ?_
    obtain ⟨d, -, rfl⟩ := List.mem_map.mp m
    rfl
  · refine (Cm.outline_of_unmarked ((reviseAll_unmarked ..).trans (markSeats_unmarked ..))).trans ?_
    exact (outline_setAgree ..).trans (Cm.outline_of_unmarked (formFigures_unmarked _))

/-- Settles O24: the two refusals, and what the answer makes of journey, consist and link. -/
theorem endJourneyEmptiesThePortionTable : Obligations.EndJourneyEmptiesThePortionTable := by
  unfold Obligations.EndJourneyEmptiesThePortionTable
  refine fun tag s h => ⟨fun p => ?_, fun p => ?_⟩
  · exact exec_refused h rfl rfl fun q => doEndJourney_of_stopped (s := s.withQueue q) p
  · obtain ⟨u, a, jt, rs, clc, k, agree, outline⟩ :=
      doEndJourney_of_not_stopped (s := handling 0x18 tag (some (.endJourney tag)) s) p
    exact ⟨_, exec_of_act h rfl rfl a, replied_jt.trans (jt.trans (Jt.ended_eq _)), replied_rs.trans rs,
      by rwa [replied_cm], by rw [replied_cm, outline]; rfl, abortAtMost_replied k, replied_clc h clc⟩

end Sys2Proof.Machine
end

section
/-! Purges of the banks and agreement checks; ASSIGN UNIT with HOME. -/

namespace Sys2Proof.Machine

variable {s : State} {c : Instr} {kind tag : Nat}

/-! ## A purge -/

/-- The store once the leading segments that end at or below the indices given are gone (R109, R110). -/
def Rs.purged (r : Rs) (indices : List (Nat × Nat)) : Rs :=
  let r1 := r.setBank r.live (r.liveBank.map (Vehicle.purge indices))
  if r.staging.open? then r1.setBank r.live.other (r.stagingBank.map (Vehicle.purge indices))
  else if r.staging = .copying then { r1 with recorded := r.recorded ++ [.purge indices] }
  else r1

theorem Rs.bank_setBank_of_other (r : Rs) (n : BankNo) (v : List Vehicle) : (r.setBank n.other v).bank n = r.bank n := by
  cases n <;> rfl

@[simp] theorem purgeBanks_rs (indices : List (Nat × Nat)) (s : State) : (purgeBanks indices s).rs = s.rs.purged indices :=
  markBlocks_rs ..
@[simp] theorem purgeBanks_clc (indices : List (Nat × Nat)) (s : State) : (purgeBanks indices s).clc = s.clc := markBlocks_clc ..
@[simp] theorem purgeBanks_unmarked (indices : List (Nat × Nat)) (s : State) :
    (purgeBanks indices s).cm.unmarked = s.cm.unmarked := markBlocks_unmarked ..

variable (r : Rs) (indices : List (Nat × Nat))

@[simp] theorem Rs.purged_live : (r.purged indices).live = r.live := by simp [Rs.purged, apply_ite Rs.live]
@[simp] theorem Rs.purged_staging : (r.purged indices).staging = r.staging := by simp [Rs.purged, apply_ite Rs.staging]
@[simp] theorem Rs.purged_diverged : (r.purged indices).diverged = r.diverged := by simp [Rs.purged, apply_ite Rs.diverged]

@[simp] theorem Rs.purged_liveBank : (r.purged indices).liveBank = r.liveBank.map (Vehicle.purge indices) := by
  rw [Rs.liveBank, Rs.purged_live, Rs.purged]
  split_ifs
  · rw [Rs.bank_setBank_of_other, Rs.bank_setBank_same]
  · exact Rs.bank_setBank_same ..
  · exact Rs.bank_setBank_same ..

@[simp] theorem Rs.purged_stagingBank : (r.purged indices).stagingBank =
    if r.staging.open? then r.stagingBank.map (Vehicle.purge indices) else r.stagingBank := by
  rw [Rs.stagingBank, Rs.purged_live, Rs.purged]
  split_ifs
  · exact Rs.bank_setBank_same ..
  · exact Rs.bank_setBank_other ..
  · exact Rs.bank_setBank_other ..

@[simp] theorem Rs.purged_recorded : (r.purged indices).recorded =
    if r.staging = .copying then r.recorded ++ [.purge indices] else r.recorded := by
  rw [Rs.purged]
  split_ifs with o k k
  · rw [k] at o
    cases o
  · simp
  · rfl
  · simp

/-! ## Agreement checks -/

@[simp] theorem updateEntry_rs (id : Nat) (f : Entry → Entry) (s : State) : (updateEntry id f s).rs = s.rs := rfl

@[simp] theorem checkEntry_rs (id : Nat) (s : State) : (checkEntry id s).rs = s.rs := by
  unfold checkEntry
  split
  · rfl
  · dsimp only
    split_ifs <;> simp

@[simp] theorem checkAgreement_rs (pick : Entry → Bool) (s : State) : (checkAgreement pick s).rs = s.rs :=
  foldl_keeps State.rs (fun t id => checkEntry_rs id t) _ s

/-- An entry that keeps all but its agreement status keeps the outline (R116). -/
theorem outline_updateAgree (id : Nat) (a : Agreement) (s : State) :
    (updateEntry id (fun e => { e with agree := a }) s).cm.outline = s.cm.outline := by
  have e : (updateEntry id (fun e => { e with agree := a }) s).cm.list
      = s.cm.list.map fun e => { e with agree := if e.coach.id = id then a else e.agree } := by
    refine List.map_congr_left fun e _ => ?_
    split <;> rfl
  unfold Cm.outline Cm.unmarked
  rw [e]
  simp [updateEntry, Cm.update, Function.comp_def]

@[simp] theorem checkEntry_outline (id : Nat) (s : State) : (checkEntry id s).cm.outline = s.cm.outline := by
  unfold checkEntry
  split
  · rfl
  · dsimp only
    split_ifs
    · exact outline_updateAgree ..
    · exact (Cm.outline_of_unmarked (markSeats_unmarked ..)).trans (outline_updateAgree ..)
    · rw [raise_cm]
      exact (Cm.outline_of_unmarked (markSeats_unmarked ..)).trans (outline_updateAgree ..)

@[simp] theorem checkAgreement_outline (pick : Entry → Bool) (s : State) :
    (checkAgreement pick s).cm.outline = s.cm.outline :=
  foldl_keeps (fun t => t.cm.outline) (fun t id => checkEntry_outline id t) _ s

@[simp] theorem assignPurge_rs (unit slot : Nat) (s : State) : (assignPurge unit slot s).rs
    = s.rs.purged (((s.jt.slotIndex slot).map fun x => (slot, x)).toList) := by simp [assignPurge]
@[simp] theorem assignPurge_outline (unit slot : Nat) (s : State) : (assignPurge unit slot s).cm.outline = s.cm.outline :=
  (checkAgreement_outline ..).trans (Cm.outline_of_unmarked (purgeBanks_unmarked ..))
theorem kept_assignPurge (unit slot : Nat) (s : State) : Kept s (assignPurge unit slot s) :=
  (kept_purgeBanks _ s).trans (kept_checkAgreement _ _)
theorem kept_reviseAll (pick : Entry → Bool) (s : State) : Kept s (reviseAll pick s) :=
  (kept_evaluateKinds _ s).trans (kept_markBlocks _ _)

/-! ## ASSIGN UNIT with HOME (R14) -/

section
variable {j : Jt} {p : Portion}

/-- A table with one entry, which is home. -/
theorem Jt.home_single (h : j.portions = [p]) (k : p.home = true) : j.home = some p := by
  rw [Jt.home, h]
  exact List.find?_cons_of_pos k

theorem Jt.homeStops_single (h : j.portions = [p]) (k : p.home = true) : j.homeStops = (j.slots.get p.slot).stops := by
  rw [Jt.homeStops, Jt.home_single h k]

theorem Jt.currentIndex_single {c : Nat} (h : j.portions = [p]) (k : p.home = true) (d : p.delta = 0)
    (i : j.phase.index = some c) (l : c + 1 < (j.slots.get p.slot).stops.length) : j.currentIndex p = some c := by
  have span : j.inSpan p c = true := by
    rw [Jt.inSpan, k, Jt.homeLast, Jt.homeStops_single h k]
    simp
    omega
  simp [Jt.currentIndex, i, span, Portion.own, d]

end

/-- What ASSIGN UNIT HOME leaves of the journey (R14, R45). -/
theorem Jt.begun_eq {j : Jt} (h : j.portions = []) {unit slot index : Nat} {q : Stop} (n : slot ≤ 3)
    (e : (j.slots.get slot).stops[index]? = some q) (l : index + 1 < (j.slots.get slot).stops.length) :
    j.begun unit slot index = { j with
      slots := j.slots.set slot { j.slots.get slot with state := .inUse }
      portions := [{ unit := unit, slot := slot, delta := 0, partAt := none, state := .attached, home := true,
                     assignedAt := index, pos := some q.column }]
      phase := .atStop index
      notice := .atPlatform index
      odo := { j.odo with
        dist := 0, rem := 0, etaS := 0, etaHeld := false, tainted := false, pos := q.column, etaMin := 0,
        clock := if j.timeValid then some (j.minute % 1440) else none } } := by
  let j0 := { j with
    slots := j.slots.set slot { j.slots.get slot with state := .inUse }, portions := [homePortion unit slot index],
    phase := .atStop index, notice := .atPlatform index, odo := j.odo.newLeg false }
  have stops : (j0.slots.get slot).stops = (j.slots.get slot).stops := by
    rw [show j0.slots = j.slots.set slot { j.slots.get slot with state := .inUse } from rfl, Slots.get_set_same _ _ n]
  have home : j0.homeStops = (j.slots.get slot).stops := (Jt.homeStops_single (p := homePortion unit slot index) rfl rfl).trans stops
  have pos : j0.homePosition = q.column := (congrArg (columnOf · index) home).trans (columnOf_of_getElem? e)
  have current : j0.currentIndex (homePortion unit slot index) = some index :=
    Jt.currentIndex_single rfl rfl rfl rfl (stops.symm ▸ l)
  have place : j0.position (homePortion unit slot index) = some q.column := by
    rw [Jt.position, current]
    exact congrArg some pos
  have start : j.begun unit slot index = j0.positioned.timed := by rw [Jt.begun, h]; rfl
  rw [start, Jt.positioned, pos, show j0.portions = [homePortion unit slot index] from rfl, List.map_singleton, place]
  simp [j0, Jt.timed, Odometer.newLeg, arrivalClock, ceilDiv, homePortion]

theorem Jt.slotIndex_single {j : Jt} {p : Portion} {c : Nat} (h : j.portions = [p]) (k : j.currentIndex p = some c) :
    j.slotIndex p.slot = some c := by
  rw [Jt.slotIndex, h]
  simp [k]

/-- The slot just assigned home has the index of the stop (R14). -/
theorem Jt.begun_slotIndex {j : Jt} (h : j.portions = []) {unit slot index : Nat} {q : Stop} (n : slot ≤ 3)
    (e : (j.slots.get slot).stops[index]? = some q) (l : index + 1 < (j.slots.get slot).stops.length) :
    (j.begun unit slot index).slotIndex slot = some index := by
  have single : ∃ p, (j.begun unit slot index).portions = [p] ∧ p.home = true ∧ p.delta = 0 ∧ p.slot = slot :=
    ⟨_, congrArg Jt.portions (Jt.begun_eq h n e l), rfl, rfl, rfl⟩
  obtain ⟨p, one, home, delta, rfl⟩ := single
  refine Jt.slotIndex_single one (Jt.currentIndex_single one home delta rfl ?_)
  rw [show (j.begun unit p.slot index).slots = j.slots.set p.slot { j.slots.get p.slot with state := .inUse } from rfl,
    Slots.get_set_same _ _ n]
  exact l

theorem markOf_of_getElem? {stops : List Stop} {i : Nat} {q : Stop} (h : stops[i]? = some q) :
    markOf stops i = q.cancelled := by
  rw [markOf, h]
  rfl

/-- The state that ASSIGN UNIT HOME leaves when no check fails (R14, R111). -/
theorem doAssignUnitHome_of_valid {unit slot index : Nat} {q : Stop} (p : s.jt.phase = .noJourney) (h : s.jt.portions = [])
    (u : 0 < unit) (n : slot ≤ 3) (r : (s.jt.slots.get slot).state = .ready)
    (l : index + 1 < (s.jt.slots.get slot).stops.length) (e : (s.jt.slots.get slot).stops[index]? = some q)
    (m : q.cancelled = false) :
    ∃ t, doAssignUnitHome unit slot index 0xFF s = done t [] ∧ t.jt = s.jt.begun unit slot index
      ∧ t.rs = s.rs.purged [(slot, index)] ∧ t.cm.outline = s.cm.outline ∧ Kept s t := by
  have valid : doAssignUnitHome unit slot index 0xFF s = done (assignPurge unit slot (reviseAll (fun e => e.coach.unit = unit)
      (formFigures (setNotice (.atPlatform index) (s.setJt { s.jt with
        slots := s.jt.slots.set slot { s.jt.slots.get slot with state := .inUse }
        portions := s.jt.portions ++ [homePortion unit slot index]
        phase := .atStop index
        odo := s.jt.odo.newLeg false }))))) [] := by
    unfold doAssignUnitHome
    dsimp only
    rw [if_neg (by simp [p]), if_neg (by simp [partAtOf]; omega), if_neg (by simp [r]), if_neg (by simp [r]),
      if_neg (by omega), if_neg (by simp [markOf_of_getElem? e, m])]
    rfl
  have jt : (reviseAll (fun e => e.coach.unit = unit) (formFigures (setNotice (.atPlatform index) (s.setJt { s.jt with
      slots := s.jt.slots.set slot { s.jt.slots.get slot with state := .inUse }
      portions := s.jt.portions ++ [homePortion unit slot index]
      phase := .atStop index
      odo := s.jt.odo.newLeg false })))).jt = s.jt.begun unit slot index := by simp [Jt.begun]
  refine ⟨_, valid, (assignPurge_jt ..).trans jt, ?_, ?_, ?_⟩
  · rw [assignPurge_rs, jt, Jt.begun_slotIndex h n e l]
    simp
  · refine (assignPurge_outline ..).trans (Cm.outline_of_unmarked ?_)
    simp
  · exact ((((kept_setJt ..).trans (kept_setNotice ..)).trans (kept_formFigures ..)).trans (kept_reviseAll ..)).trans
      (kept_assignPurge ..)

/-- Settles O22: with every check of R14 passed, the journey begun, the purge of R111 and the reply. -/
theorem assignUnitHomeStartsTheJourney : Obligations.AssignUnitHomeStartsTheJourney := by
  unfold Obligations.AssignUnitHomeStartsTheJourney
  intro tag unit slot j q s h p e u n r l g m
  obtain ⟨t, a, jt, rs, outline, k⟩ := doAssignUnitHome_of_valid
    (s := handling 0x17 tag (some (.assignUnitHome tag unit slot j 0xFF)) s) p e u n r l g m
  refine ⟨_, exec_of_act h rfl rfl a, replied_jt.trans (jt.trans (Jt.begun_eq e n g l)), ?_, ?_, ?_, ?_, ?_, ?_⟩
  · simp [rs]
  · simp [rs]
  · simp [rs]
  · simp [rs]
  · rw [replied_cm, outline]; rfl
  · exact replied_replies h k

end Sys2Proof.Machine
end

section
/-! ASSIGN UNIT at a stop (R15). -/

namespace Sys2Proof.Machine

variable {s : State} {tag unit slot index partAt c e : Nat}

/-- The part-at index, the last home index for NONE (R15). -/
theorem partAtOf_getD (partAt last : Nat) : (partAtOf partAt).getD last = if partAt = 0xFF then last else partAt := by
  unfold partAtOf
  split <;> rfl

/-- Check 8 of R15 passes when the codes and marks agree from c to e. -/
theorem alignedRoutes_of {home own : List Stop} (le : c ≤ e) (l : index + e - c < own.length)
    (same : ∀ i ≤ e - c, ∃ a b, home[c + i]? = some a ∧ own[index + i]? = some b ∧ a.code = b.code ∧ a.cancelled = b.cancelled) :
    alignedRoutes home own index c e = true := by
  simp only [alignedRoutes, Bool.and_eq_true, decide_eq_true_eq, List.all_eq_true, List.mem_range]
  refine ⟨l, fun i m => ?_⟩
  obtain ⟨a, b, ha, hb, code, mark⟩ := same i (by omega)
  simp [ha, hb, code, mark]

/-- The checks of R15 for a unit that has no entry. -/
theorem assignCheck_of_valid (u : 0 < unit) (n : slot ≤ 3) (new : ∀ p ∈ s.jt.portions, p.unit ≠ unit)
    (room : s.jt.portions.length < 4) (state : (s.jt.slots.get slot).state = .ready ∨ (s.jt.slots.get slot).state = .inUse)
    (he : e = (if partAt = 0xFF then s.jt.homeLast else partAt)) (le : c ≤ e) (last : e ≤ s.jt.homeLast)
    (l : index < (s.jt.slots.get slot).stops.length) (aligned : alignedRoutes s.jt.homeStops (s.jt.slots.get slot).stops index c e = true)
    (served : partAt ≠ 0xFF → ∀ p ∈ s.jt.homeStops[e]?, p.cancelled = false)
    (delta : ∀ p ∈ s.jt.portions, p.slot = slot → p.delta = Int.ofNat index - Int.ofNat c) :
    assignCheck unit slot index partAt c s = none := by
  have none_old : s.jt.portionOf unit = none := portionOf_eq_none.mpr new
  have mark : partAt ≠ 0xFF → markOf s.jt.homeStops e = false := fun k => by
    unfold markOf
    cases g : s.jt.homeStops[e]? with
    | none => rfl
    | some q => exact served k q g
  have other : (s.jt.portions.any fun p => p.unit ≠ unit && p.slot = slot && p.delta ≠ Int.ofNat index - Int.ofNat c) = false := by
    simp only [List.any_eq_false, Bool.and_eq_true, decide_eq_true_eq, not_and, not_not, and_imp]
    exact fun p m _ k => delta p m k
  simp only [assignCheck, check_eq_none, none_old, partAtOf_getD, ← he, aligned, other]
  refine ⟨by simp; omega, by simp, by rcases state with k | k <;> simp [k], by rcases state with k | k <;> simp [k], ?_, ?_, ?_, by simp,
    by simp, by simp⟩
  · rw [Bool.and_eq_true, decide_eq_true_eq]
    exact fun full => absurd room (not_lt.mpr full.2)
  · simp; omega
  · by_cases k : partAt = 0xFF
    · simp [partAtOf, k]
    · simp [mark k]

/-- A new entry stands last in the table (log entry 25). -/
theorem Jt.placed_new {j : Jt} {p : Portion} (new : ∀ q ∈ j.portions, q.unit ≠ p.unit) :
    ∃ pos, j.placed p none = { j with
      portions := j.portions ++ [{ p with pos := pos }]
      slots := j.slots.set p.slot { j.slots.get p.slot with state := .inUse } } := by
  have free : j.assigned p.unit = false := by simp [Jt.assigned, portionOf_eq_none.mpr new]
  have same (f : Portion → Portion) : (j.portions.map fun q => if q.unit = p.unit then f q else q) = j.portions := by
    conv_rhs => rw [← List.map_id j.portions]
    exact List.map_congr_left fun q m => if_neg (new q m)
  refine ⟨{ j with portions := j.portions ++ [p] }.position p, ?_⟩
  simp [Jt.placed, Jt.putPortion, free, Jt.formPosition, same]

/-- The state that ASSIGN UNIT leaves when no check fails, for a unit without an entry (R15, R111). -/
theorem doAssignUnit_of_new (p : s.jt.phase = .atStop c) (a : assignCheck unit slot index partAt c s = none)
    (new : ∀ p ∈ s.jt.portions, p.unit ≠ unit) :
    ∃ t, doAssignUnit unit slot index partAt s = done t (i8 (Int.ofNat index - Int.ofNat c))
      ∧ t.jt = s.jt.placed (assignedPortion unit slot index partAt c) none
      ∧ t.rs.live = s.rs.live ∧ t.rs.staging = s.rs.staging ∧ t.cm.outline = s.cm.outline ∧ Kept s t := by
  have old : s.jt.portionOf unit = none := portionOf_eq_none.mpr new
  unfold doAssignUnit
  rw [p]
  dsimp only
  rw [a]
  dsimp only
  rw [old]
  refine ⟨_, rfl, ?_, ?_, ?_, ?_, ?_⟩
  · simp only [assignPurge_jt, reviseAll_jt, withAdvisory_jt, State.setJt_jt]
    rfl
  · simp
  · simp
  · refine (assignPurge_outline ..).trans (Cm.outline_of_unmarked ?_)
    simp
  · exact ((kept_withAdvisory (kept_setJt ..)).trans (kept_reviseAll ..)).trans (kept_assignPurge ..)

/-- Settles O23: with every check of R15 passed, the entry placed, the slot taken and the reply. -/
theorem assignUnitPlacesThePortion : Obligations.AssignUnitPlacesThePortion := by
  unfold Obligations.AssignUnitPlacesThePortion
  intro tag unit slot j partAt c e s h p u n new room state he le last l l2 served same delta
  have check : assignCheck unit slot j partAt c (handling 0x17 tag (some (.assignUnit tag unit slot j partAt)) s) = none :=
    assignCheck_of_valid u n new room state he le last l (alignedRoutes_of le l2 same) served delta
  obtain ⟨t, a, jt, live, staging, outline, k⟩ := doAssignUnit_of_new
    (s := handling 0x17 tag (some (.assignUnit tag unit slot j partAt)) s) p check new
  obtain ⟨pos, placed⟩ := Jt.placed_new (p := assignedPortion unit slot j partAt c) new
  rw [handling_jt, placed] at jt
  refine ⟨_, _, exec_of_act h rfl rfl a, by rw [replied_jt, jt], rfl, rfl, rfl, rfl, rfl, rfl, rfl, ?_, ?_, ?_, ?_, ?_, ?_, ?_, ?_⟩
  · rw [replied_jt, jt]; rfl
  · rw [replied_jt, jt]
  · rw [replied_jt, jt]
  · rw [replied_jt, jt]
  · rw [replied_cm, outline, handling_cm]
  · rw [replied_rs, staging, handling_rs]
  · rw [replied_rs, live, handling_rs]
  · exact replied_replies h k

end Sys2Proof.Machine
end

section
/-! DEPARTED (R19, R109, R110). -/

namespace Sys2Proof.Machine

variable {s : State} {c : Instr} {kind tag : Nat}

/-! ## Journeys with the same portions but for states and positions -/

/-- Two journeys with the same routes, the entries of the portion table agreeing but for states and positions (R13). -/
structure Jt.SameTable (j k : Jt) : Prop where
  slots : k.slots = j.slots
  portions : ∃ f : Portion → Portion, k.portions = j.portions.map f ∧ ∀ p, (f p).unit = p.unit ∧ (f p).slot = p.slot
    ∧ (f p).delta = p.delta ∧ (f p).partAt = p.partAt ∧ (f p).home = p.home ∧ (f p).assignedAt = p.assignedAt

namespace Jt.SameTable

variable {j k l : Jt}

theorem of_fields (a : k.slots = j.slots) (b : k.portions = j.portions) : j.SameTable k :=
  ⟨a, id, by simp [b], fun _ => ⟨rfl, rfl, rfl, rfl, rfl, rfl⟩⟩

theorem trans (h : j.SameTable k) (g : k.SameTable l) : j.SameTable l := by
  obtain ⟨a, f, b, e⟩ := h
  obtain ⟨c, f', d, e'⟩ := g
  refine ⟨c.trans a, f' ∘ f, by rw [d, b, List.map_map], fun p => ?_⟩
  obtain ⟨h1, h2, h3, h4, h5, h6⟩ := e p
  obtain ⟨g1, g2, g3, g4, g5, g6⟩ := e' (f p)
  exact ⟨g1.trans h1, g2.trans h2, g3.trans h3, g4.trans h4, g5.trans h5, g6.trans h6⟩

theorem positioned (j : Jt) : j.SameTable j.positioned :=
  ⟨rfl, _, rfl, fun _ => ⟨rfl, rfl, rfl, rfl, rfl, rfl⟩⟩

theorem timed (j : Jt) : j.SameTable j.timed := of_fields rfl rfl

theorem reattached (j : Jt) (back : Nat → Bool) : j.SameTable (j.reattached back) :=
  ⟨rfl, _, rfl, fun p => by split <;> exact ⟨rfl, rfl, rfl, rfl, rfl, rfl⟩⟩

theorem homeStops_eq (h : j.SameTable k) : k.homeStops = j.homeStops := by
  obtain ⟨a, f, b, e⟩ := h
  have same : ((fun p : Portion => p.home) ∘ f) = fun p => p.home := funext fun p => (e p).2.2.2.2.1
  unfold Jt.homeStops Jt.home
  rw [b, List.find?_map, same, a]
  cases j.portions.find? fun p => p.home with
  | none => rfl
  | some p => exact congrArg (fun n => (j.slots.get n).stops) (e p).2.1

theorem homePosition_eq (h : j.SameTable k) (p : k.phase = j.phase) (d : k.odo.dist = j.odo.dist) :
    k.homePosition = j.homePosition := by
  unfold Jt.homePosition Jt.legEff
  rw [h.homeStops_eq, p, d]

/-- An entry with the same route, span and home mark has the same index (R13). -/
theorem currentIndex_eq (h : j.SameTable k) (i : k.phase.index = j.phase.index) {p q : Portion} (delta : q.delta = p.delta)
    (partAt : q.partAt = p.partAt) (home : q.home = p.home) (assigned : q.assignedAt = p.assignedAt) :
    k.currentIndex q = j.currentIndex p := by
  have span (n : Nat) : k.inSpan q n = j.inSpan p n := by
    unfold Jt.inSpan Jt.homeLast
    rw [h.homeStops_eq, home, assigned, partAt]
  have own (n : Nat) : q.own n = p.own n := by rw [Portion.own, delta, Portion.own]
  unfold Jt.currentIndex
  rw [i]
  simp only [span, own]

theorem slotIndex_eq (h : j.SameTable k) (i : k.phase.index = j.phase.index) (n : Nat) : k.slotIndex n = j.slotIndex n := by
  obtain ⟨f, b, e⟩ := h.portions
  unfold Jt.slotIndex
  rw [b, List.findSome?_map]
  refine congrArg (j.portions.findSome? ·) (funext fun q => ?_)
  obtain ⟨-, slot, delta, partAt, home, assigned⟩ := e q
  rw [Function.comp_apply, slot, h.currentIndex_eq i delta partAt home assigned]

theorem slotIndices_eq (h : j.SameTable k) (p : k.phase.index = j.phase.index) : k.slotIndices = j.slotIndices := by
  unfold Jt.slotIndices
  simp only [h.slotIndex_eq p]

end Jt.SameTable

/-- What DEPARTED leaves of the journey, in the fields it sets (R19, R45). -/
theorem Jt.legBegun_odo (j : Jt) (n : Nat) : (j.legBegun n).odo = { j.odo with
    dist := 0, rem := 0, etaS := 0, etaHeld := true, tainted := false, etaMin := 0, pos := (j.legBegun n).homePosition,
    clock := if j.timeValid then some (j.minute % 1440) else none } := by
  let begun := { j with phase := .running n, notice := .none, odo := j.odo.newLeg true }
  have p : (j.legBegun n).homePosition = (j.legBegun n).odo.pos :=
    ((Jt.SameTable.positioned begun).trans (Jt.SameTable.timed _)).homePosition_eq rfl rfl
  rw [p]
  simp [Jt.legBegun, Jt.timed, Jt.positioned, Odometer.newLeg, arrivalClock, ceilDiv]

theorem Jt.legBegun_sameTable (j : Jt) (n : Nat) : j.SameTable (j.legBegun n) :=
  have begun : j.SameTable { j with phase := .running n, notice := .none, odo := j.odo.newLeg true } := .of_fields rfl rfl
  (begun.trans (Jt.SameTable.positioned _)).trans (Jt.SameTable.timed _)

/-! ## The store at a departure -/

@[simp] theorem setEntryState_rs (id : Nat) (st : EntryState) (s : State) : (setEntryState id st s).rs = s.rs := by
  unfold setEntryState
  dsimp only
  split_ifs <;> simp

@[simp] theorem failSplit_rs (unit : Nat) (s : State) : (failSplit unit s).rs = s.rs := by
  unfold failSplit
  dsimp only
  split_ifs
  · rfl
  · rw [raise_rs, State.setCm_rs, withAdvisory_rs, State.setJt_rs, dirtyBlocks_rs]
    exact foldl_keeps State.rs (fun t id => by simp) _ s

@[simp] theorem failSplits_rs (s : State) : (failSplits s).rs = s.rs := foldl_keeps State.rs (fun t u => failSplit_rs u t) _ s

@[simp] theorem departureEvent_rs (d : Nat) (s : State) : (departureEvent d s).rs = (departBanks d s).rs := by
  simp [departureEvent]

@[simp] theorem switchBanks_rs (code : Nat) (trigger departure : Option Nat) (s : State) :
    (switchBanks code trigger departure s).rs = s.rs.switch := by
  simp [switchBanks]

/-- A staging bank whose trigger is due is switched before the purge (R109). -/
theorem departBanks_rs_due {i d : Nat} (h : s.rs.staging.trigger = some i) (l : i ≤ d) :
    (departBanks d s).rs = s.rs.switch.purged s.jt.slotIndices := by
  unfold departBanks
  rw [h]
  simp [l]

theorem departBanks_rs_kept {d : Nat} (h : ∀ i ∈ s.rs.staging.trigger, d < i) :
    (departBanks d s).rs = s.rs.purged s.jt.slotIndices := by
  unfold departBanks
  cases e : s.rs.staging.trigger with
  | none => simp
  | some i => simp [not_le.mpr (h i e)]

variable (r : Rs)

@[simp] theorem Rs.switch_live : r.switch.live = r.live.other := rfl
@[simp] theorem Rs.switch_staging : r.switch.staging = .closed := rfl
@[simp] theorem Rs.switch_diverged : r.switch.diverged = false := rfl
@[simp] theorem Rs.switch_liveBank : r.switch.liveBank = r.stagingBank := Rs.bank_setBank_other r r.live []
@[simp] theorem Rs.switch_stagingBank : r.switch.stagingBank = [] := by
  unfold Rs.stagingBank
  rw [Rs.switch_live, BankNo.other_other]
  exact Rs.bank_setBank_same r r.live []

/-! ## DEPARTED -/

/-- The state that DEPARTED leaves at a stop (R19). -/
theorem doDeparted_atStop {n : Nat} (h : s.jt.phase = .atStop n) :
    ∃ t back, doDeparted s = done t [0] ∧ t.jt = (s.jt.legBegun n).reattached back ∧ Kept s t
      ∧ (∀ i ∈ s.rs.staging.trigger, i ≤ n → t.rs = s.rs.switch.purged s.jt.slotIndices)
      ∧ ((∀ i ∈ s.rs.staging.trigger, n < i) → t.rs = s.rs.purged s.jt.slotIndices) := by
  let u := formFigures (setNotice .none (setOdo (Odometer.newLeg true) (setPhase (.running n) s)))
  have valid : doDeparted s = done (departureEvent n u) [0] := by
    rw [doDeparted, h]
    rfl
  have ujt : u.jt = s.jt.legBegun n := by simp [u, Jt.legBegun]
  have urs : u.rs = s.rs := by simp [u, setOdo, setPhase]
  have indices : u.jt.slotIndices = s.jt.slotIndices := by
    rw [ujt]
    exact (s.jt.legBegun_sameTable n).slotIndices_eq (by rw [h]; rfl)
  obtain ⟨back, jt⟩ := departureEvent_jt n u
  refine ⟨_, back, valid, by rw [jt, ujt], ?_, fun i m l => ?_, fun m => ?_⟩
  · exact ((((kept_setPhase ..).trans (kept_setOdo ..)).trans (kept_setNotice ..)).trans (kept_formFigures ..)).trans
      (kept_departureEvent ..)
  · rw [departureEvent_rs, departBanks_rs_due (urs ▸ m) l, indices, urs]
  · rw [departureEvent_rs, departBanks_rs_kept (urs ▸ m), indices, urs]

theorem doDeparted_running {n : Nat} (h : s.jt.phase = .running n) : doDeparted s = done s [1] := by
  rw [doDeparted, h]
  rfl

theorem doDeparted_refused (h : s.jt.phase = .noJourney ∨ ∃ n, s.jt.phase = .terminated n) :
    doDeparted s = refuse s .wrongState := by
  rcases h with h | ⟨n, h⟩ <;> simp only [doDeparted, h]

/-- Settles O25, by the phase; at a stop by the trigger of the staging bank. -/
theorem departedStartsTheLegSwitchesAndPurges : Obligations.DepartedStartsTheLegSwitchesAndPurges := by
  unfold Obligations.DepartedStartsTheLegSwitchesAndPurges
  refine ⟨fun tag s h => ⟨fun n p => ?_, fun n p => ?_, fun p => ?_⟩, fun tag n s h p _ => ?_⟩
  · obtain ⟨t, back, a, jt, k, -⟩ := doDeparted_atStop (s := handling 0x19 tag (some (.departed tag)) s) p
    refine ⟨_, exec_of_act h rfl rfl a, ?_⟩
    rw [replied_jt, jt, handling_jt]
    refine ⟨rfl, rfl, rfl, rfl, ?_, rfl, rfl, replied_replies h k⟩
    have pos : ((s.jt.legBegun n).reattached back).homePosition = (s.jt.legBegun n).homePosition :=
      (Jt.SameTable.reattached _ back).homePosition_eq rfl rfl
    rw [pos, ← Jt.legBegun_odo]
    rfl
  · exact exec_done_jt (j := s.jt) h rfl rfl fun q => doDeparted_running (s := s.withQueue q) p
  · exact exec_refused h rfl rfl fun q => doDeparted_refused (s := s.withQueue q) p
  · obtain ⟨t, back, a, -, -, due, kept⟩ := doDeparted_atStop (s := handling 0x19 tag (some (.departed tag)) s) p
    refine ⟨_, exec_of_act h rfl rfl a, fun ⟨i, m, l⟩ => ?_, fun m => ?_⟩
    · rw [replied_rs, due i m l]
      simp [Staging.open?]
    · rw [replied_rs, kept m]
      simp

end Sys2Proof.Machine
end

section
/-! ARRIVED (R22). -/

namespace Sys2Proof.Machine

variable {s : State} {c : Instr} {kind tag code n m : Nat} {stops : List Stop}

/-! ## The stop of a code -/

/-- The first stop above c, not cancelled, with the code (R22). -/
theorem arrivalStop_eq_some {q : Stop} (l : n < m) (h : stops[m]? = some q) (served : q.cancelled = false) (e : q.code = code)
    (before : ∀ i < m, n < i → ∀ p, stops[i]? = some p → p.cancelled = false → p.code ≠ code) :
    arrivalStop stops n code = some m := by
  have found : stops.zipIdx.find? (fun x => n < x.2 && !x.1.cancelled && x.1.code = code) = some (q, m) := by
    rw [← List.findSome?_guard]
    refine findSome?_zipIdx_first h ?_ fun j k x g => ?_
    · simp [l, served, e]
    · simp only [Option.guard_eq_none_iff, Bool.and_eq_false_iff, Bool.not_eq_false', decide_eq_false_iff_not]
      by_cases a : n < j
      · by_cases b : x.cancelled = true
        · exact .inl (.inr b)
        · exact .inr (before j k a x g (by simpa using b))
      · exact .inl (.inl a)
  rw [arrivalStop, found]
  rfl

theorem arrivalStop_eq_none (h : ∀ i q, n < i → stops[i]? = some q → q.cancelled = false → q.code ≠ code) :
    arrivalStop stops n code = none := by
  rw [arrivalStop, Option.map_eq_none_iff, List.find?_eq_none]
  rintro ⟨q, i⟩ m
  have g : stops[i]? = some q := List.mem_zipIdx_iff_getElem?.mp m
  simp only [Bool.and_eq_true, decide_eq_true_eq, Bool.not_eq_true', not_and, and_imp]
  exact fun l k => h i q l g k

/-! ## The store and the link at an arrival -/

@[simp] theorem expireNotices_rs (keep : Coach → Notice → Bool) (s : State) : (expireNotices keep s).rs = s.rs := markBlocks_rs ..
@[simp] theorem arrivalEvent_rs (k : Nat) (s : State) : (arrivalEvent k s).rs = s.rs := by
  unfold arrivalEvent reportPassed
  rw [foldl_keeps State.rs (fun t e => by simp)]
  simp
@[simp] theorem goStale_rs (s : State) : (goStale s).rs = s.rs := by simp [goStale]
@[simp] theorem endLeg_rs (atNext : Bool) (s : State) : (endLeg atNext s).rs = s.rs := by
  unfold endLeg calibrate skip
  dsimp only
  split_ifs <;> simp [setOdo]

/-! ## ARRIVED -/

/-- The state that ARRIVED leaves when the stop is found (R22). -/
theorem doArrived_of_found (p : s.jt.phase = .running n) (a : arrivalStop s.jt.homeStops n code = some m) :
    ∃ t, doArrived code s
        = done t (u8 m ++ u8 (if s.jt.next = some m then 0 else skippedStops s.jt.homeStops n m))
      ∧ t.jt = (endLeg (decide (s.jt.next = some m)) s).jt.legEnded m (decide (m = s.jt.homeLast))
      ∧ t.rs = s.rs ∧ Kept s t := by
  let s3 := formFigures (setNotice (.atPlatform m) (setPhase (if m = s.jt.homeLast then .terminated m else .atStop m)
    (setOdo (Odometer.newLeg false) (endLeg (decide (s.jt.next = some m)) s))))
  let k := if s.jt.next = some m then 0 else skippedStops s.jt.homeStops n m
  have valid : doArrived code s = done (arrivalEvent m
      (if decide (s.jt.next = some m) = true then s3 else raise .journey 2 0 (u8 m ++ u8 k) s3)) (u8 m ++ u8 k) := by
    rw [doArrived, p]
    dsimp only
    rw [a]
    simp [s3, k]
  refine ⟨_, valid, ?_, ?_, ?_⟩
  · rw [arrivalEvent_jt, apply_ite State.jt, raise_jt, ite_self]
    simp [s3, Jt.legEnded]
  · rw [arrivalEvent_rs, apply_ite State.rs, raise_rs, ite_self]
    simp [s3, setPhase, setOdo]
  · have leg : Kept s s3 := ((((kept_endLeg ..).trans (kept_setOdo ..)).trans (kept_setPhase ..)).trans
      (kept_setNotice ..)).trans (kept_formFigures ..)
    refine Kept.trans ?_ (kept_arrivalEvent ..)
    split
    · exact leg
    · exact leg.trans (kept_raise ..)

theorem doArrived_of_none (p : s.jt.phase = .running n) (a : arrivalStop s.jt.homeStops n code = none) :
    doArrived code s = refuse s .notFound := by
  rw [doArrived, p]
  dsimp only
  rw [a]

theorem doArrived_not_running (p : ∀ k, s.jt.phase ≠ .running k) : doArrived code s = refuse s .wrongState := by
  unfold doArrived
  split
  · next e => exact absurd e (p _)
  · rfl

/-- The figures of the journey once a stop has been taken, from the leg's end (R45). -/
theorem Jt.legEnded_odo (j : Jt) (last : Bool) :
    let o := (j.legEnded m last).odo
    o.dist = 0 ∧ o.rem = 0 ∧ o.etaS = 0 ∧ o.etaMin = 0 ∧ o.etaHeld = false ∧ o.tainted = false ∧ o.speed = j.odo.speed
      ∧ o.pulses = j.odo.pulses :=
  ⟨rfl, rfl, rfl, by simp [Jt.legEnded, Jt.timed, Jt.positioned, Odometer.newLeg, ceilDiv], rfl, rfl, rfl, rfl⟩

theorem Jt.legEnded_units (j : Jt) (last : Bool) : (j.legEnded m last).portions.map (·.unit) = j.portions.map (·.unit) := by
  simp [Jt.legEnded, Jt.timed, Jt.positioned, Function.comp_def]

/-- Settles O26, by the phase and the search for the stop. -/
theorem arrivedTakesTheStop : Obligations.ArrivedTakesTheStop := by
  unfold Obligations.ArrivedTakesTheStop
  intro tag code s h
  refine ⟨fun n m p ⟨l, q, g, served, e⟩ first => ?_, fun n p no => ?_, fun p => ?_⟩
  · have a : arrivalStop s.jt.homeStops n code = some m := arrivalStop_eq_some l g served e
      fun i k li x gx sx ex => first i k ⟨li, x, gx, sx, ex⟩
    obtain ⟨t, d, jt, rs, k⟩ := doArrived_of_found (s := handling 0x1A tag (some (.arrived tag code)) s) p a
    obtain ⟨len, skips, leg⟩ := endLeg_jt (decide (s.jt.next = some m)) (handling 0x1A tag (some (.arrived tag code)) s)
    have last : (m = s.jt.homeLast) = (m + 1 = s.jt.homeStops.length) := by
      have := (List.getElem?_eq_some_iff.mp g).1
      rw [Jt.homeLast, eq_iff_iff]
      omega
    refine ⟨_, exec_of_act h rfl rfl d, ?_⟩
    rw [handling_jt] at jt leg
    rw [replied_jt, jt, leg, replied_rs, rs]
    obtain ⟨dist, rem, etaS, etaMin, held, tainted, speed, pulses⟩ := Jt.legEnded_odo (m := m)
      { s.jt with config := { s.jt.config with pulseLen := len }, odo := { s.jt.odo with skips := skips } }
      (decide (m = s.jt.homeLast))
    refine ⟨?_, rfl, rfl, rfl, Jt.legEnded_units _ _, dist, rem, etaS, etaMin, held, tainted, speed, pulses, rfl,
      replied_replies h k⟩
    simp [Jt.legEnded, Jt.timed, Jt.positioned, last]
  · exact exec_refused h rfl rfl fun q => doArrived_of_none (s := s.withQueue q) p
      (arrivalStop_eq_none fun i q l g k e => no i ⟨l, q, g, k, e⟩)
  · exact exec_refused h rfl rfl fun q => doArrived_not_running (s := s.withQueue q) p

end Sys2Proof.Machine
end

section
/-! CANCEL STOP and RESTORE STOP (R9 to R12). -/

namespace Sys2Proof.Machine

variable {s : State} {c : Instr} {kind tag slot index : Nat}

/-! ## Marking nothing -/

/-- An event that picks no block changes nothing (R126). -/
theorem revise_keep (s : State) : revise (fun _ _ => .keep) s = s := by
  have blocks : revisedList (fun _ _ => .keep) s = s.cm.list := by
    unfold revisedList
    exact List.map_id _
  have fresh : (s.cm.list.flatMap fun e => (BlockKind.all.filter fun k =>
      BlockEffect.keep.advances && !s.dc.advanced.contains (e.coach.id, k)).map fun k => (e.coach.id, k)) = [] := by
    simp [BlockEffect.advances]
  unfold revise
  rw [fresh, ← revisedList, blocks]
  dsimp only
  rw [List.append_nil]
  unfold abortIf
  split
  · rw [if_neg (by simp)]
    rfl
  · rfl

/-- A mark of no block changes nothing (R126). -/
theorem markBlocks_of_none {pick : Entry → BlockKind → Bool} (h : ∀ e k, pick e k = false) : markBlocks pick s = s := by
  have keep : (fun (e : Entry) k => if (e.blocks.get k).valid && pick e k then BlockEffect.mark else .keep)
      = fun _ _ => .keep := by
    funext e k
    simp [h e k]
  unfold markBlocks
  rw [keep, revise_keep]

/-- The coaches of a slot that no entry of the portion table names: there are none (R12). -/
theorem markRoute_of_unnamed (n : ∀ p ∈ s.jt.portions, p.slot ≠ slot) : markRoute slot index s = s := by
  refine markBlocks_of_none fun e k => ?_
  have none_named : (s.jt.portionOf e.coach.unit).any (fun p => p.slot = slot) = false := by
    cases g : s.jt.portionOf e.coach.unit with
    | none => rfl
    | some p => simpa using n p (portionOf_mem g).1
  rw [none_named, Bool.false_and]

/-! ## A route that no entry names -/

theorem RouteSlot.setMark_eq {r : RouteSlot} {p : Stop} (h : r.stops[index]? = some p) (v : Bool) :
    r.setMark index v = { r with stops := r.stops.set index { p with cancelled := v } } := by
  rw [RouteSlot.setMark, List.modify_eq_set_getElem?, h]
  rfl

theorem isHomeSlot_of_unnamed (n : ∀ p ∈ s.jt.portions, p.slot ≠ slot) : s.jt.isHomeSlot slot = false := by
  unfold Jt.isHomeSlot Jt.home
  cases g : s.jt.portions.find? fun p => p.home with
  | none => rfl
  | some p => simpa using n p (List.mem_of_find?_eq_some g)

theorem homeStops_set_of_unnamed {r : RouteSlot} {j : Jt} (n : ∀ p ∈ j.portions, p.slot ≠ slot) :
    { j with slots := j.slots.set slot r }.homeStops = j.homeStops := by
  unfold Jt.homeStops Jt.home
  cases g : j.portions.find? fun p => p.home with
  | none => rfl
  | some p => exact congrArg RouteSlot.stops (Slots.get_set_other _ _ (n p (List.mem_of_find?_eq_some g)))

/-- A mark on a route that no entry names changes that route alone (R10). -/
theorem changeMarks_of_unnamed {p : Stop} (n : ∀ p ∈ s.jt.portions, p.slot ≠ slot)
    (h : (s.jt.slots.get slot).stops[index]? = some p) (v : Bool) :
    changeMarks [(slot, index)] v s = setSlot slot
      { s.jt.slots.get slot with stops := (s.jt.slots.get slot).stops.set index { p with cancelled := v } } s := by
  have next (r : RouteSlot) : { s.jt with slots := s.jt.slots.set slot r }.next = s.jt.next := by
    unfold Jt.next
    rw [homeStops_set_of_unnamed n]
  unfold changeMarks
  simp only [List.foldl_cons, List.foldl_nil, RouteSlot.setMark_eq h]
  rw [markRoute_of_unnamed (by exact n)]
  split
  · next k e =>
    rw [State.setJt_jt, next, e, if_neg (by simp)]
    rfl
  · rfl

/-- Checks 1 to 3 of R9 pass on a READY slot that no entry names, for an index below the stop count. -/
theorem markChecks_of_unnamed (l : slot ≤ 3) (r : (s.jt.slots.get slot).state = .ready)
    (n : ∀ p ∈ s.jt.portions, p.slot ≠ slot) :
    markChecks slot index s = if (s.jt.slots.get slot).stops.length ≤ index then some .outOfRange else none := by
  have named : (s.jt.portions.any fun p => p.slot = slot && (s.jt.currentIndex p).any (fun x => index ≤ x)) = false := by
    simp only [List.any_eq_false, Bool.and_eq_true, decide_eq_true_eq, not_and]
    exact fun p m e => absurd e (n p m)
  unfold markChecks
  simp only [named, r]
  rw [if_neg (by omega), if_neg (by decide), if_neg (by decide)]
  rfl

theorem insideSpan_of_unnamed (n : ∀ p ∈ s.jt.portions, p.slot ≠ slot) : insideSpan slot index s = false := by
  unfold insideSpan
  simp only [Bool.and_eq_false_iff, List.any_eq_false, Bool.and_eq_true, decide_eq_true_eq, not_and]
  exact .inr fun p m e => absurd e (n p m)

theorem markedRoutes_of_unnamed (n : ∀ p ∈ s.jt.portions, p.slot ≠ slot) : markedRoutes slot index s = [(slot, index)] := by
  simp [markedRoutes, isHomeSlot_of_unnamed n]

/-- CANCEL STOP and RESTORE STOP on a READY slot that no entry names (R9, R10). -/
theorem marks_of_unnamed (l : slot ≤ 3) (r : (s.jt.slots.get slot).state = .ready) (n : ∀ p ∈ s.jt.portions, p.slot ≠ slot)
    {p : Stop} (h : (s.jt.slots.get slot).stops[index]? = some p) :
    let put (v : Bool) := setSlot slot
      { s.jt.slots.get slot with stops := (s.jt.slots.get slot).stops.set index { p with cancelled := v } } s
    doCancelStop slot index s = (if index + 1 = (s.jt.slots.get slot).stops.length ∨ p.cancelled then refuse s .wrongState
        else done (put true) [1])
      ∧ doRestoreStop slot index s = if p.cancelled then done (put false) [1] else refuse s .wrongState := by
  have below := (List.getElem?_eq_some_iff.mp h).1
  have checks : markChecks slot index s = none := (markChecks_of_unnamed l r n).trans (if_neg (by omega))
  unfold doCancelStop doRestoreStop
  simp only [checks, markOf_of_getElem? h, isHomeSlot_of_unnamed n, insideSpan_of_unnamed n, markedRoutes_of_unnamed n,
    changeMarks_of_unnamed n h]
  refine ⟨?_, ?_⟩
  · by_cases last : index + 1 = (s.jt.slots.get slot).stops.length
    · simp [last]
    · cases p.cancelled <;> simp [last, u8]
  · cases p.cancelled <;> rfl

/-- An index at or above the stop count (R9). -/
theorem marks_out_of_range (l : slot ≤ 3) (r : (s.jt.slots.get slot).state = .ready) (n : ∀ p ∈ s.jt.portions, p.slot ≠ slot)
    (h : (s.jt.slots.get slot).stops.length ≤ index) :
    doCancelStop slot index s = refuse s .outOfRange ∧ doRestoreStop slot index s = refuse s .outOfRange := by
  have checks : markChecks slot index s = some .outOfRange := (markChecks_of_unnamed l r n).trans (if_pos h)
  unfold doCancelStop doRestoreStop
  simp only [checks, and_self]

/-! ## The cascade on the home route -/

theorem RouteSlot.setMark_getElem? (r : RouteSlot) (i k : Nat) :
    (r.setMark i true).stops[k]? = r.stops[k]?.map fun p => { p with cancelled := p.cancelled || decide (i = k) } := by
  rw [RouteSlot.setMark, List.getElem?_modify]
  cases r.stops[k]? with
  | none => rfl
  | some p => by_cases h : i = k <;> simp [h]

theorem Slots.set_setMark_getElem? (q : Slots) (x : Nat × Nat) {n : Nat} (l : n ≤ 3) (k : Nat) :
    ((q.set x.1 ((q.get x.1).setMark x.2 true)).get n).stops[k]?
      = (q.get n).stops[k]?.map fun p => { p with cancelled := p.cancelled || decide (x.1 = n) && decide (x.2 = k) } := by
  by_cases e : x.1 = n
  · rw [e, Slots.get_set_same _ _ l, RouteSlot.setMark_getElem?]
    simp
  · rw [Slots.get_set_other _ _ (Ne.symm e)]
    simp [e]

/-- The marks of the routes given are set, and no other (R10). -/
theorem Slots.setMarks_getElem? (routes : List (Nat × Nat)) (q : Slots) {n : Nat} (l : n ≤ 3) (k : Nat) :
    ((q.setMarks routes true).get n).stops[k]? = (q.get n).stops[k]?.map fun p =>
      { p with cancelled := p.cancelled || routes.any fun x => decide (x.1 = n) && decide (x.2 = k) } := by
  induction routes generalizing q with
  | nil => simp [Slots.setMarks]
  | cons x routes ih =>
    have step : q.setMarks (x :: routes) true = (q.set x.1 ((q.get x.1).setMark x.2 true)).setMarks routes true := rfl
    rw [step, ih, Slots.set_setMark_getElem? q x l, Option.map_map]
    simp [Function.comp_def, Bool.or_assoc]

theorem nodup_eraseDups {α : Type} [BEq α] [LawfulBEq α] (l : List α) : l.eraseDups.Nodup := by
  induction h : l.length using Nat.strong_induction_on generalizing l with
  | _ n ih =>
    cases l with
    | nil => simp
    | cons a l =>
      rw [List.eraseDups_cons, List.nodup_cons, List.mem_eraseDups]
      refine ⟨by simp, ih _ ?_ _ rfl⟩
      rw [← h, List.length_cons, Nat.lt_succ_iff]
      exact List.length_filter_le _ l

/-- The two ways of counting without repetition. -/
theorem length_eraseDups_eq_dedup {α : Type} [DecidableEq α] [BEq α] [LawfulBEq α] (l : List α) : l.eraseDups.length = l.dedup.length :=
  ((List.perm_ext_iff_of_nodup (nodup_eraseDups l) l.nodup_dedup).mpr fun a => by
    rw [List.mem_eraseDups, List.mem_dedup]).length_eq

theorem any_eraseDups {α : Type} [BEq α] [LawfulBEq α] (l : List α) (f : α → Bool) : l.eraseDups.any f = l.any f := by
  rw [Bool.eq_iff_iff]
  simp only [List.any_eq_true, List.mem_eraseDups]

theorem changeMarks_rs (routes : List (Nat × Nat)) (v : Bool) (s : State) : (changeMarks routes v s).rs = s.rs := by
  have marked (t : State) : (routes.foldl (fun w x => markRoute x.1 x.2 w) t).rs = t.rs :=
    foldl_keeps State.rs (fun w (x : Nat × Nat) => markRoute_rs x.1 x.2 w) routes t
  unfold changeMarks
  dsimp only
  split
  · split <;> simp [marked]
  · simp [marked]

theorem changeMarks_unmarked (routes : List (Nat × Nat)) (v : Bool) (s : State) :
    (changeMarks routes v s).cm.unmarked = s.cm.unmarked := by
  have marked (t : State) : (routes.foldl (fun w x => markRoute x.1 x.2 w) t).cm.unmarked = t.cm.unmarked :=
    foldl_keeps (fun t => t.cm.unmarked) (fun w (x : Nat × Nat) => markRoute_unmarked x.1 x.2 w) routes t
  unfold changeMarks
  dsimp only
  split
  · split <;> simp [marked]
  · simp [marked]

theorem kept_changeMarks (routes : List (Nat × Nat)) (v : Bool) (s : State) : Kept s (changeMarks routes v s) := by
  have marked (t : State) : Kept t (routes.foldl (fun w x => markRoute x.1 x.2 w) t) :=
    .foldl (fun w (x : Nat × Nat) => kept_markBlocks _ w) routes t
  unfold changeMarks
  dsimp only
  split
  · split
    · exact ((kept_setJt ..).trans (marked _)).trans (kept_setNotice ..)
    · exact (kept_setJt ..).trans (marked _)
  · exact (kept_setJt ..).trans (marked _)

/-- CANCEL STOP on the home route when no check of R9 fails. -/
theorem doCancelStop_home {h : Portion} {i : Nat} (e : s.jt.home = some h) (l : h.slot ≤ 3)
    (r : (s.jt.slots.get h.slot).state = .inUse ∨ (s.jt.slots.get h.slot).state = .ready)
    (above : ∀ p ∈ s.jt.portions, p.slot = h.slot → ∀ x ∈ s.jt.currentIndex p, x < i)
    (below : i + 1 < (s.jt.slots.get h.slot).stops.length)
    (served : ∀ p ∈ (s.jt.slots.get h.slot).stops[i]?, p.cancelled = false)
    (parts : ∀ p ∈ s.jt.portions, p.partAt ≠ some i) :
    doCancelStop h.slot i s = done (changeMarks (markedRoutes h.slot i s) true s) (u8 (markedRoutes h.slot i s).length) := by
  have isHome : s.jt.isHomeSlot h.slot = true := by simp [Jt.isHomeSlot, e]
  have named : (s.jt.portions.any fun p => p.slot = h.slot && (s.jt.currentIndex p).any (fun x => i ≤ x)) = false := by
    simp only [List.any_eq_false, Bool.and_eq_true, decide_eq_true_eq, not_and, Option.any_eq_true, not_exists, not_le]
    exact fun p m g x hx => above p m g x hx
  have checks : markChecks h.slot i s = none := by
    unfold markChecks
    simp only [named]
    have range : ¬ (s.jt.slots.get h.slot).stops.length ≤ i := by omega
    rw [if_neg (by omega), if_neg (by rcases r with r | r <;> simp [r]), if_neg (by rcases r with r | r <;> simp [r]),
      if_neg range]
    rfl
  have mark : markOf (s.jt.slots.get h.slot).stops i = false := by
    rw [markOf_of_getElem? (List.getElem?_eq_getElem (by omega))]
    exact served _ (List.getElem?_eq_getElem (by omega))
  have parting : s.jt.partsAt i = false := by simpa [Jt.partsAt] using parts
  have inside : insideSpan h.slot i s = false := by simp [insideSpan, isHome]
  unfold doCancelStop
  simp only [checks, mark, parting, inside]
  rw [if_neg (by simp; omega), if_neg (by simp), if_neg (by simp)]

/-- The routes that the cascade marks (R10). -/
theorem markedRoutes_home {h : Portion} {i : Nat} (e : s.jt.home = some h) :
    markedRoutes h.slot i s = (h.slot, i) :: ((s.jt.portions.filter fun p =>
      !p.home && p.slot ≠ h.slot && s.jt.inSpan p i).map fun p => (p.slot, p.own i)).eraseDups := by
  simp [markedRoutes, Jt.isHomeSlot, e]

/-- Settles O21: a route that no entry names, and the cascade on the home route. -/
theorem cancelAndRestoreSetTheMarks : Obligations.CancelAndRestoreSetTheMarks := by
  unfold Obligations.CancelAndRestoreSetTheMarks
  refine ⟨fun tag slot index s h l r n => ⟨fun p g => ⟨?_, ?_⟩, fun g => ⟨?_, ?_⟩⟩,
    fun tag i p s h e l r above below served parts => ?_⟩
  · have a (q : List Queued) := (marks_of_unnamed (s := s.withQueue q) l r n g).1
    split
    · exact exec_refused h rfl rfl fun q => (a q).trans (if_pos ‹_›)
    · exact exec_done_jt h rfl rfl fun q => (a q).trans (if_neg ‹_›)
  · have a (q : List Queued) := (marks_of_unnamed (s := s.withQueue q) l r n g).2
    split
    · exact exec_done_jt h rfl rfl fun q => (a q).trans (if_pos ‹_›)
    · exact exec_refused h rfl rfl fun q => (a q).trans (if_neg ‹_›)
  · exact exec_refused h rfl rfl fun q => (marks_out_of_range (s := s.withQueue q) l r n g).1
  · exact exec_refused h rfl rfl fun q => (marks_out_of_range (s := s.withQueue q) l r n g).2
  · have a := doCancelStop_home (s := handling 0x15 tag (some (.cancelStop tag p.slot i)) s) e l r above below served parts
    obtain ⟨notice, jt⟩ := changeMarks_jt (handling 0x15 tag (some (.cancelStop tag p.slot i)) s)
      (markedRoutes p.slot i s) true
    refine ⟨_, exec_of_act h rfl rfl a, ?_⟩
    have k := kept_changeMarks (markedRoutes p.slot i s) true (handling 0x15 tag (some (.cancelStop tag p.slot i)) s)
    rw [handling_jt] at jt
    refine ⟨fun n x ln => ?_, ?_, ?_, ?_, ?_, ?_, ?_, abortAtMost_replied k, ?_⟩
    · rw [replied_jt]
      refine (congrArg (fun j : Jt => (j.slots.get n).stops[x]?) jt).trans ?_
      refine (Slots.setMarks_getElem? _ _ ln x).trans ?_
      refine congrArg (Option.map · _) (funext fun q => ?_)
      rw [markedRoutes_home e, List.any_cons, any_eraseDups, List.any_map]
      simp [Function.comp_def, eq_comm]
    · rw [replied_jt]; exact (congrArg Jt.portions jt).trans rfl
    · rw [replied_jt]; exact (congrArg Jt.phase jt).trans rfl
    · rw [replied_jt]; exact (congrArg Jt.odo jt).trans rfl
    · rw [replied_jt]; exact (congrArg Jt.config jt).trans rfl
    · rw [replied_rs]; exact changeMarks_rs ..
    · rw [replied_cm]; exact changeMarks_unmarked ..
    · refine (replied_replies h k).trans ?_
      refine congrArg (fun d => [replyTo 0x15 tag .done (u8 d)]) ?_
      refine (congrArg List.length (markedRoutes_home (s := s) e)).trans ?_
      rw [List.length_cons, length_eraseDups_eq_dedup, Nat.add_comm]

end Sys2Proof.Machine
end

section
/-! What a window leaves of the ETA, the positions and the notice (R33, R38 to R42). -/

namespace Sys2Proof.Machine

variable {s : State} {j k : Jt}

/-! ## Positions as held -/

theorem Jt.SameTable.position_eq (h : j.SameTable k) (phase : k.phase = j.phase) (dist : k.odo.dist = j.odo.dist) (p : Portion)
    (pos : Option Nat) : k.position { p with pos := pos } = j.position p := by
  have index : k.currentIndex { p with pos := pos } = j.currentIndex p := h.currentIndex_eq (by rw [phase]) rfl rfl rfl rfl
  have next : k.portionNext { p with pos := pos } = j.portionNext p := by
    unfold Jt.portionNext Jt.next Jt.inSpan Jt.homeLast
    rw [index, phase, h.homeStops_eq]
    rfl
  have leg : k.legEff = j.legEff := by
    unfold Jt.legEff
    rw [phase, h.homeStops_eq]
  unfold Jt.position
  simp only [index, next, leg, dist, h.slots, h.homePosition_eq phase dist]

/-- The positions held are those of the phase then standing (log entry 16). -/
theorem Jt.positioned_pos (j : Jt) : ∀ p ∈ j.positioned.portions, p.pos = j.positioned.position p := by
  intro p m
  obtain ⟨q, -, rfl⟩ := List.mem_map.mp m
  exact ((Jt.SameTable.positioned j).position_eq rfl rfl q _).symm

theorem Jt.positioned_home (j : Jt) : j.positioned.odo.pos = j.positioned.homePosition :=
  ((Jt.SameTable.positioned j).homePosition_eq rfl rfl).symm

/-! ## The figures of a window -/

theorem Jt.SameTable.evaluated (j : Jt) : j.SameTable j.evaluated := by
  let timed := { j with odo := evaluateEta j }.timed
  have noticed : j.SameTable { timed with notice := evaluateNotice timed } := .of_fields rfl rfl
  exact noticed.trans (Jt.SameTable.positioned _)

theorem evaluateEta_dist (j : Jt) : (evaluateEta j).dist = j.odo.dist := by rw [evaluateEta_eq]
theorem evaluateEta_speed (j : Jt) : (evaluateEta j).speed = j.odo.speed := by rw [evaluateEta_eq]
theorem evaluateEta_tainted (j : Jt) : (evaluateEta j).tainted = j.odo.tainted := by rw [evaluateEta_eq]

@[simp] theorem Jt.evaluated_phase (j : Jt) : j.evaluated.phase = j.phase := rfl
@[simp] theorem Jt.evaluated_config (j : Jt) : j.evaluated.config = j.config := rfl
@[simp] theorem Jt.evaluated_etaS (j : Jt) : j.evaluated.odo.etaS = (evaluateEta j).etaS := rfl
@[simp] theorem Jt.evaluated_etaHeld (j : Jt) : j.evaluated.odo.etaHeld = (evaluateEta j).etaHeld := rfl
@[simp] theorem Jt.evaluated_dist (j : Jt) : j.evaluated.odo.dist = j.odo.dist := evaluateEta_dist j
@[simp] theorem Jt.evaluated_speed (j : Jt) : j.evaluated.odo.speed = j.odo.speed := evaluateEta_speed j
@[simp] theorem Jt.evaluated_tainted (j : Jt) : j.evaluated.odo.tainted = j.odo.tainted := evaluateEta_tainted j

@[simp] theorem Jt.evaluated_remaining (j : Jt) : j.evaluated.remaining = j.remaining := by
  unfold Jt.remaining Jt.legEff
  rw [(Jt.SameTable.evaluated j).homeStops_eq, Jt.evaluated_phase, Jt.evaluated_dist]

/-- A distance that remains belongs to a running journey (R38). -/
theorem Jt.running_of_remaining (h : j.remaining ≠ 0) : ∃ c, j.phase = .running c := by
  unfold Jt.remaining at h
  split at h
  · exact ⟨_, ‹_›⟩
  · exact absurd rfl h

/-- The ETA by the table of R39. -/
theorem evaluateEta_cases (j : Jt) :
    (j.remaining = 0 → (evaluateEta j).etaS = 0 ∧ (evaluateEta j).etaHeld = false)
    ∧ (j.remaining ≠ 0 → j.config.vmin ≤ j.odo.speed →
        (evaluateEta j).etaS = etaOf j.remaining j.odo.speed ∧ (evaluateEta j).etaHeld = false)
    ∧ (j.remaining ≠ 0 → j.odo.speed < j.config.vmin → (evaluateEta j).etaS = j.odo.etaS ∧ (evaluateEta j).etaHeld = true) := by
  refine ⟨fun r => ?_, fun r v => ?_, fun r v => ?_⟩
  · simp [evaluateEta, r]
  · obtain ⟨c, p⟩ := Jt.running_of_remaining r
    simp [evaluateEta, r, v, p]
  · obtain ⟨c, p⟩ := Jt.running_of_remaining r
    simp [evaluateEta, r, not_le.mpr v, p]

/-- The journey before the evaluation of a window: as it was but for the odometer, or just departed (R20, R33). -/
theorem windowBefore (s : State) :
    let k := (windowDeparture (windowSpeed s.jt.odo.pulses (windowDistance s.jt.odo.pulses s))).jt
    (k.phase = s.jt.phase ∧ k.odo.etaS = s.jt.odo.etaS) ∨ (k.phase ≠ s.jt.phase ∧ k.odo.etaS = 0) := by
  obtain ⟨dist, rem, ps, ds, e, -, -⟩ := windowDistance_jt s.jt.odo.pulses s
  let w := windowSpeed s.jt.odo.pulses (windowDistance s.jt.odo.pulses s)
  have phase : w.jt.phase = s.jt.phase := by simp [w, e]
  by_cases d : ∃ c, w.jt.phase = .atStop c ∧ w.jt.config.creep < w.jt.odo.dist
  · obtain ⟨c, p, far⟩ := d
    obtain ⟨back, jt⟩ := windowDeparture_jt p far
    refine .inr ⟨?_, by rw [jt]; rfl⟩
    rw [jt, ← phase, p]
    exact fun h => by cases h
  · have stay : windowDeparture w = w := windowDeparture_of_not fun c p => not_lt.mp fun far => d ⟨c, p, far⟩
    refine .inl ?_
    show (windowDeparture w).jt.phase = _ ∧ (windowDeparture w).jt.odo.etaS = _
    rw [stay]
    exact ⟨phase, by simp [w, e]⟩

/-! ## The position formulas -/

variable {p : Portion} {c n : Nat}

theorem Jt.inSpan_iff (j : Jt) (p : Portion) (i : Nat) : j.inSpan p i = true ↔
    if p.home then i ≤ j.homeStops.length - 1 else p.assignedAt ≤ i ∧ i ≤ p.partAt.getD (j.homeStops.length - 1) := by
  unfold Jt.inSpan Jt.homeLast
  split <;> simp

theorem Jt.currentIndex_eq (i : j.phase.index = some c) : j.currentIndex p = if j.inSpan p c then some (p.own c) else none := by
  rw [Jt.currentIndex, i]

theorem Jt.position_unaligned (i : j.phase.index = some c) (h : ¬ j.inSpan p c = true) : j.position p = none := by
  rw [Jt.position, Jt.currentIndex_eq i, if_neg h]

theorem Jt.position_noJourney (h : j.phase = .noJourney) : j.position p = none := by
  have none_index : j.currentIndex p = none := by rw [Jt.currentIndex, h]; rfl
  rw [Jt.position, none_index]

theorem Jt.position_home (i : j.phase.index = some c) (h : j.inSpan p c = true) (home : p.home = true) :
    j.position p = some j.homePosition := by
  rw [Jt.position, Jt.currentIndex_eq i, if_pos h]
  exact if_pos home

/-- Off the home route, at a stop or with no next stop in the span (R42). -/
theorem Jt.position_own (i : j.phase.index = some c) (h : j.inSpan p c = true) (home : p.home = false)
    (next : ∀ n, j.next = some n → j.inSpan p n = false) :
    j.position p = some (columnOf (j.slots.get p.slot).stops (p.own c)) := by
  have no_next : j.portionNext p = none := by
    unfold Jt.portionNext
    rw [Jt.currentIndex_eq i, if_pos h]
    cases e : j.next with
    | none => rfl
    | some n => simp [next n e]
  rw [Jt.position, Jt.currentIndex_eq i, if_pos h]
  simp [home, no_next]

/-- Off the home route, running towards a next stop in the span (R42). -/
theorem Jt.position_between (i : j.phase.index = some c) (h : j.inSpan p c = true) (home : p.home = false)
    (next : j.next = some n) (g : j.inSpan p n = true) :
    j.position p = some (markBetween (columnOf (j.slots.get p.slot).stops (p.own c))
      (columnOf (j.slots.get p.slot).stops (p.own n)) j.odo.dist j.legEff) := by
  have next_own : j.portionNext p = some (p.own n) := by
    unfold Jt.portionNext
    rw [Jt.currentIndex_eq i, if_pos h, next]
    exact if_pos g
  rw [Jt.position, Jt.currentIndex_eq i, if_pos h]
  simp [home, next_own]

theorem Phase.index_of_standing {x : Phase} (h : x = .atStop c ∨ x = .terminated c) : x.index = some c := by
  rcases h with rfl | rfl <;> rfl

theorem Jt.next_of_standing (h : j.phase = .atStop c ∨ j.phase = .terminated c) : j.next = none := by
  unfold Jt.next
  rcases h with h | h <;> rw [h]

theorem Jt.homePosition_of_standing (h : j.phase = .atStop c ∨ j.phase = .terminated c) :
    j.homePosition = columnOf j.homeStops c := by
  unfold Jt.homePosition
  rcases h with h | h <;> rw [h]

/-- Running from c with n the first stop above it that is not cancelled (R8, R18, R38). -/
theorem Jt.running_figures (h : j.phase = .running c) (e : eff j.homeStops (c + 1) = n) :
    j.phase.index = some c ∧ j.next = some n ∧ j.legEff = legLength j.homeStops c n
      ∧ j.homePosition = markBetween (columnOf j.homeStops c) (columnOf j.homeStops n) j.odo.dist (legLength j.homeStops c n) := by
  unfold Jt.next Jt.legEff Jt.homePosition
  simp only [h, e, Phase.index]
  simp [Jt.legEff, h, e]

/-- Settles O34: the ETA by the table of R39, the positions by the formulas of R41 and R42. -/
theorem windowFormsEtaAndPosition : Obligations.WindowFormsEtaAndPosition := by
  unfold Obligations.WindowFormsEtaAndPosition
  intro s r d
  have before := windowBefore s
  refine ⟨_, congrArg Host.Outcome.next (event_running (f := windowExpiry) r d), ?_⟩
  rw [State.setDc_jt, windowExpiry_jt]
  generalize (windowDeparture (windowSpeed s.jt.odo.pulses (windowDistance s.jt.odo.pulses s))).jt = k at before ⊢
  obtain ⟨zero, moving, slow⟩ := evaluateEta_cases k
  have remaining : (match k.evaluated.phase with
      | .running c => (((k.evaluated.homeStops.drop (c + 1)).take (eff k.evaluated.homeStops (c + 1) - c)).map Stop.leg).sum
          - k.evaluated.odo.dist
      | _ => 0) = k.remaining := by
    rw [← Jt.evaluated_remaining, Jt.remaining, Jt.legEff]
    cases k.evaluated.phase <;> rfl
  have held : ∀ p ∈ k.evaluated.portions, p.pos = k.evaluated.position p := Jt.positioned_pos _
  have pos : k.evaluated.odo.pos = k.evaluated.homePosition := Jt.positioned_home _
  dsimp only
  refine ⟨fun z => ?_, fun z v => ?_, fun z v => ?_, ?_, ?_, ?_, ?_, ?_, ?_⟩
  · exact zero (remaining.symm.trans z)
  · obtain ⟨eta, flag⟩ := moving (fun e => z (remaining.trans e)) (by simpa using v)
    refine ⟨eta.trans ?_, flag⟩
    rw [← remaining, Jt.evaluated_speed]
    rfl
  · obtain ⟨eta, flag⟩ := slow (fun e => z (remaining.trans e)) (by simpa using v)
    refine ⟨flag, fun same => eta.trans ?_, fun other => eta.trans ?_⟩
    · exact (before.resolve_right fun b => b.1 same).2
    · exact (before.resolve_left fun b => other b.1).2
  · show (k.evaluated.odo.etaS + 60 - 1) / 60 = _
    omega
  · rfl
  · exact fun p => ⟨by rw [pos, Jt.homePosition, p], fun q m => (held q m).trans (Jt.position_noJourney p)⟩
  · exact fun c p => pos.trans (Jt.homePosition_of_standing p)
  · rintro c n p ⟨l, ⟨q, at_n, served⟩, skipped⟩
    obtain ⟨-, -, -, place⟩ := Jt.running_figures p (eff_eq l at_n served skipped)
    exact pos.trans place
  · intro q m
    refine ⟨fun c i off => ?_, fun c i on home => ?_, fun c p on home => ?_, fun c n p next on home => ⟨fun ahead => ?_, fun ahead => ?_⟩⟩
    · exact (held q m).trans (Jt.position_unaligned i (mt (Jt.inSpan_iff ..).mp off))
    · rw [held q m, pos]
      exact Jt.position_home i ((Jt.inSpan_iff ..).mpr on) home
    · refine (held q m).trans (Jt.position_own (Phase.index_of_standing p) ((Jt.inSpan_iff ..).mpr on) home fun n e => ?_)
      rw [Jt.next_of_standing p] at e
      cases e
    all_goals
      obtain ⟨l, ⟨x, at_n, served⟩, skipped⟩ := next
      obtain ⟨index, next, leg, -⟩ := Jt.running_figures p (eff_eq l at_n served skipped)
    · refine (held q m).trans ((Jt.position_between index ((Jt.inSpan_iff ..).mpr on) home next
        ((Jt.inSpan_iff ..).mpr ahead)).trans ?_)
      rw [leg]
      rfl
    · refine (held q m).trans (Jt.position_own index ((Jt.inSpan_iff ..).mpr on) home fun b e => ?_)
      rw [next] at e
      cases e
      exact Bool.eq_false_iff.mpr (mt (Jt.inSpan_iff ..).mp ahead)

end Sys2Proof.Machine
end

section
/-! Reports that wait, the implied departure and the notice of a window (R20, R24). -/

namespace Sys2Proof.Machine

variable {s t : State} {c : Instr} {kind tag : Nat}

/-! ## Reports that wait behind a busy transmitter -/

/-- The transmitter is busy, the class JOURNEY enabled and at most n reports wait (R215). -/
def RoomFor (n : Nat) (s : State) : Prop :=
  s.clc.tx ≠ .idle ∧ s.clc.enabled.journey = true ∧ s.clc.reports.length ≤ n

theorem RoomFor.congr {n : Nat} (h : RoomFor n s) (e : t.clc = s.clc) : RoomFor n t := by
  unfold RoomFor
  rw [e]
  exact h

theorem raise_reports (h : s.clc.tx ≠ .idle) (cls : ReportClass) (code subject : Nat) (data : List Byte) :
    (raise cls code subject data s).clc = s.clc.enqueue { cls := cls, code := code, subject := subject, data := data } :=
  Clc.transmit_of_busy (by rw [Clc.enqueue_tx]; exact h)

/-- One more report at most (R215). -/
theorem RoomFor.raise {n : Nat} (h : RoomFor n s) (cls : ReportClass) (code subject : Nat) (data : List Byte) :
    RoomFor (n + 1) (raise cls code subject data s) := by
  obtain ⟨busy, enabled, room⟩ := h
  refine ⟨?_, by simpa using enabled, ?_⟩ <;> rw [raise_reports busy]
  · rwa [Clc.enqueue_tx]
  · unfold Clc.enqueue
    split_ifs
    · exact room.trans n.le_succ
    · simpa using room.trans n.le_succ
    · simpa using room
    · exact room.trans n.le_succ

/-- A report of an enabled class waits, in the place of one with its key or at the end (R215). -/
theorem RoomFor.mem_raise {n : Nat} (h : RoomFor n s) (l : n < 24) (code subject : Nat) (data : List Byte) :
    { cls := .journey, code := code, subject := subject, data := data } ∈ (Machine.raise .journey code subject data s).clc.reports := by
  obtain ⟨busy, enabled, room⟩ := h
  rw [raise_reports busy]
  unfold Clc.enqueue
  split_ifs with a b d
  · simp [Enabled.has, enabled] at a
  · obtain ⟨q, m, same⟩ := List.any_eq_true.mp b
    refine List.mem_map.mpr ⟨q, m, ?_⟩
    rw [if_pos same]
    simp only [Report.sameKey, Bool.and_eq_true, decide_eq_true_eq] at same
    obtain ⟨⟨cls, code⟩, subject⟩ := same
    rw [← cls, ← code, ← subject]
  · simp
  · exact absurd (room.trans_lt l) d

/-- A report that waits keeps waiting when another with another key is raised (R215). -/
theorem mem_raise_of_mem (h : s.clc.tx ≠ .idle) {r : Report} (m : r ∈ s.clc.reports) {cls : ReportClass} {code subject : Nat}
    {data : List Byte} (k : code ≠ r.code) : r ∈ (raise cls code subject data s).clc.reports := by
  rw [raise_reports h]
  have other : Report.sameKey { cls := cls, code := code, subject := subject, data := data } r = false := by
    simp [Report.sameKey, k]
  unfold Clc.enqueue
  split_ifs
  · exact m
  · exact List.mem_map.mpr ⟨r, m, by rw [other]; rfl⟩
  · exact List.mem_append_left _ m
  · exact m

/-! ## No split to fail -/

/-- What holds of the state of every entry still does after marks of blocks. -/
theorem state_of_unmarked {a b : Cm} {P : EntryState → Prop} (h : a.unmarked = b.unmarked) (k : ∀ e ∈ b.list, P e.state) :
    ∀ e ∈ a.list, P e.state := by
  have same : a.list.map (·.state) = b.list.map (·.state) := by
    simpa [Cm.unmarked, Function.comp_def] using congrArg (fun c : Cm => c.list.map (·.state)) h
  intro e m
  obtain ⟨d, hd, ed⟩ := List.mem_map.mp (same ▸ List.mem_map_of_mem m : e.state ∈ b.list.map (·.state))
  exact ed ▸ k d hd

theorem failSplits_of_none (h : ∀ e ∈ s.cm.list, e.state ≠ .departing) : failSplits s = s := by
  have none_departing : s.cm.departingUnits = [] := by
    have none : (s.cm.list.filter fun e => e.state = .departing) = [] := by simpa using h
    rw [Cm.departingUnits, none]
    rfl
  rw [failSplits, none_departing]
  rfl

/-! ## The implied departure -/

/-- The distance step changes the odometer, and may raise one report (R32, R35). -/
theorem windowDistance_eq (p : Nat) (s : State) : ∃ (f : Odometer → Odometer) (data : List Byte) (new : Bool),
    windowDistance p s = if new then raise .journey 5 0 data (setOdo f s) else setOdo f s :=
  ⟨_, _, _, rfl⟩

theorem windowDistance_room {n p : Nat} (h : RoomFor n s) : RoomFor (n + 1) (windowDistance p s) := by
  obtain ⟨f, data, new, e⟩ := windowDistance_eq p s
  rw [e]
  split
  · exact RoomFor.raise (s := setOdo f s) h ..
  · obtain ⟨busy, enabled, room⟩ := h
    exact ⟨busy, enabled, room.trans n.le_succ⟩

theorem windowDistance_rs (p : Nat) (s : State) : (windowDistance p s).rs = s.rs := by
  obtain ⟨f, data, new, e⟩ := windowDistance_eq p s
  rw [e]
  split <;> rfl

theorem windowDistance_cm (p : Nat) (s : State) : (windowDistance p s).cm = s.cm := by
  obtain ⟨f, data, new, e⟩ := windowDistance_eq p s
  rw [e]
  split <;> rfl

/-- A departure with no armed trigger and no entry DEPARTING raises no report (R20). -/
theorem departureEvent_clc {d : Nat} (h : s.rs.staging.trigger = none) (k : ∀ e ∈ s.cm.list, e.state ≠ .departing) :
    (departureEvent d s).clc = s.clc := by
  have banks : departBanks d s = purgeBanks s.jt.slotIndices s := by
    unfold departBanks
    rw [h]
  have list : ∀ e ∈ (departBanks d s).cm.list, e.state ≠ .departing := by
    rw [banks]
    exact state_of_unmarked (P := (· ≠ .departing)) (purgeBanks_unmarked ..) k
  rw [departureEvent, failSplits_of_none list, markPhase_clc, banks, purgeBanks_clc]

/-- The report of an implied departure waits (R20). -/
theorem windowDeparture_report {n c : Nat} (p : s.jt.phase = .atStop c) (far : s.jt.config.creep < s.jt.odo.dist)
    (h : RoomFor n s) (l : n < 24) (trigger : s.rs.staging.trigger = none) (k : ∀ e ∈ s.cm.list, e.state ≠ .departing) :
    { cls := .journey, code := 1, subject := 0, data := u8 c } ∈ (windowDeparture s).clc.reports
      ∧ RoomFor (n + 1) (windowDeparture s) := by
  unfold windowDeparture
  simp only [p, far, if_true]
  have room : RoomFor n (departureEvent c (formEta (setNotice .none
      (setOdo (fun o => { o with etaS := 0, etaHeld := true, tainted := false }) (setPhase (.running c) s))))) := by
    refine h.congr ((departureEvent_clc ?_ ?_).trans ?_)
    · rw [formEta_rs, setNotice_rs]
      exact trigger
    · exact state_of_unmarked (P := (· ≠ .departing)) ((formEta_unmarked _).trans (setNotice_unmarked ..)) k
    · rw [formEta_clc, setNotice_clc]
      rfl
  exact ⟨room.mem_raise l _ _ _, room.raise _ _ _ _⟩

/-! ## The notice -/

/-- The evaluation of R24 keeps a report that waits, but for one of a notice. -/
theorem windowNotice_mem (h : s.clc.tx ≠ .idle) {r : Report} (m : r ∈ s.clc.reports) (k : r.code ≠ 3) :
    r ∈ (windowNotice s).clc.reports := by
  unfold windowNotice
  dsimp only
  split
  · exact m
  · exact mem_raise_of_mem (by rwa [setNotice_clc]) (by rwa [setNotice_clc]) (Ne.symm k)

/-- A change of the notice state waits as a report (R24). -/
theorem windowNotice_report {n : Nat} (h : RoomFor n s) (l : n < 24) (changed : evaluateNotice s.jt ≠ s.jt.notice) :
    { cls := .journey, code := 3, subject := 0,
      data := u8 (evaluateNotice s.jt).code ++ index? (evaluateNotice s.jt).stop } ∈ (windowNotice s).clc.reports := by
  unfold windowNotice
  dsimp only
  rw [if_neg changed]
  exact (h.congr (setNotice_clc ..)).mem_raise l _ _ _

theorem windowNotice_rs (s : State) : (windowNotice s).rs = s.rs := by
  unfold windowNotice
  dsimp only
  split <;> simp

theorem windowNotice_unmarked (s : State) : (windowNotice s).cm.unmarked = s.cm.unmarked := by
  unfold windowNotice
  dsimp only
  split <;> simp

/-! ## A window as a whole -/

/-- The state after steps 1 and 2 of R33. -/
def windowMoved (s : State) : State := windowSpeed s.jt.odo.pulses (windowDistance s.jt.odo.pulses s)

/-- Steps 1 and 2 change the odometer alone, and of it no figure (R33). -/
theorem windowMoved_jt (s : State) : ∃ o, (windowMoved s).jt = { s.jt with odo := o } ∧ o.tainted = s.jt.odo.tainted := by
  obtain ⟨dist, rem, ps, ds, e, -, -⟩ := windowDistance_jt s.jt.odo.pulses s
  refine ⟨_, (windowSpeed_jt ..).trans (by rw [e]), ?_⟩
  rfl

theorem windowMoved_rs (s : State) : (windowMoved s).rs = s.rs := windowDistance_rs ..
theorem windowMoved_cm (s : State) : (windowMoved s).cm = s.cm := windowDistance_cm ..
theorem windowMoved_room {n : Nat} (h : RoomFor n s) : RoomFor (n + 1) (windowMoved s) := windowDistance_room h

/-- The state once step 5 of R33 has formed the ETA. -/
def windowTimed (s : State) : State :=
  let t := windowDeparture (windowMoved s)
  formEta (t.setJt { t.jt with odo := evaluateEta t.jt })

theorem windowExpiry_eq (s : State) : windowExpiry s = formPositions (windowNotice (windowTimed s)) := rfl

theorem windowTimed_clc (s : State) : (windowTimed s).clc = (windowDeparture (windowMoved s)).clc := formEta_clc _

theorem windowTimed_jt (s : State) : (windowTimed s).jt =
    { (windowDeparture (windowMoved s)).jt with odo := evaluateEta (windowDeparture (windowMoved s)).jt }.timed :=
  formEta_jt _

theorem windowExpiry_moved_jt (s : State) : (windowExpiry s).jt = (windowDeparture (windowMoved s)).jt.evaluated :=
  windowExpiry_jt s

/-- A window that implies no departure moves the odometer alone before the evaluation (R20, R33). -/
theorem windowDeparture_moved_of_not (h : ∀ c, s.jt.phase = .atStop c → (windowMoved s).jt.odo.dist ≤ s.jt.config.creep) :
    windowDeparture (windowMoved s) = windowMoved s := by
  obtain ⟨o, e, -⟩ := windowMoved_jt s
  refine windowDeparture_of_not fun c p => ?_
  rw [e] at p
  have near := h c p
  rw [e] at near ⊢
  exact near

/-- A window in which a departure is implied (R20). -/
theorem windowExpiry_departed {c : Nat} (p : s.jt.phase = .atStop c) (far : s.jt.config.creep < (windowMoved s).jt.odo.dist) :
    (windowExpiry s).jt.phase = .running c ∧ (windowExpiry s).jt.odo.tainted = false := by
  obtain ⟨o, e, -⟩ := windowMoved_jt s
  have p' : (windowMoved s).jt.phase = .atStop c := by rw [e]; exact p
  have far' : (windowMoved s).jt.config.creep < (windowMoved s).jt.odo.dist := by rw [e] at far ⊢; exact far
  obtain ⟨back, jt⟩ := windowDeparture_jt p' far'
  rw [windowExpiry_moved_jt, jt]
  exact ⟨rfl, Jt.evaluated_tainted _⟩

/-- The distance that a window leaves is that of its first step (R33). -/
theorem windowExpiry_dist (s : State) : (windowExpiry s).jt.odo.dist = (windowMoved s).jt.odo.dist := by
  rw [windowExpiry_moved_jt, Jt.evaluated_dist]
  by_cases d : ∃ c, (windowMoved s).jt.phase = .atStop c ∧ (windowMoved s).jt.config.creep < (windowMoved s).jt.odo.dist
  · obtain ⟨c, p, far⟩ := d
    obtain ⟨back, jt⟩ := windowDeparture_jt p far
    rw [jt]
    rfl
  · rw [windowDeparture_of_not fun c p => not_lt.mp fun far => d ⟨c, p, far⟩]

theorem windowExpiry_clc_report {c : Nat} (p : s.jt.phase = .atStop c) (far : s.jt.config.creep < (windowMoved s).jt.odo.dist)
    (room : RoomFor 0 s) (trigger : s.rs.staging.trigger = none) (k : ∀ e ∈ s.cm.list, e.state ≠ .departing) :
    { cls := .journey, code := 1, subject := 0, data := u8 c } ∈ (windowExpiry s).clc.reports := by
  obtain ⟨o, e, -⟩ := windowMoved_jt s
  obtain ⟨m, busy, -, -⟩ := windowDeparture_report (s := windowMoved s) (c := c) (by rw [e]; exact p)
    (by rw [e] at far ⊢; exact far) (windowMoved_room room) (by decide) (by rwa [windowMoved_rs]) (by rwa [windowMoved_cm])
  rw [windowExpiry_eq, formPositions_clc]
  refine windowNotice_mem ?_ ?_ (show (1 : Nat) ≠ 3 by decide)
  · rwa [windowTimed_clc]
  · rwa [windowTimed_clc]

/-- A window that implies no departure leaves store, consist, phase and portions but for positions (R33). -/
theorem windowExpiry_stays (h : ∀ c, s.jt.phase = .atStop c → (windowMoved s).jt.odo.dist ≤ s.jt.config.creep) :
    (windowExpiry s).jt.phase = s.jt.phase ∧ (windowExpiry s).rs = s.rs ∧ (windowExpiry s).cm.unmarked = s.cm.unmarked
      ∧ (windowExpiry s).jt.portions.map (fun p => { p with pos := none })
        = s.jt.portions.map (fun p => { p with pos := none }) := by
  have stay := windowDeparture_moved_of_not h
  obtain ⟨o, e, -⟩ := windowMoved_jt s
  refine ⟨?_, ?_, ?_, ?_⟩
  · rw [windowExpiry_moved_jt, stay, e]
    rfl
  · rw [windowExpiry_eq, formPositions_rs, windowNotice_rs, windowTimed, stay, formEta_rs, State.setJt_rs, windowMoved_rs]
  · rw [windowExpiry_eq, formPositions_unmarked, windowNotice_unmarked, windowTimed, stay, formEta_unmarked, State.setJt_cm,
      windowMoved_cm]
  · rw [windowExpiry_moved_jt, stay, e]
    simp [Jt.evaluated, Jt.positioned, Jt.timed, Function.comp_def]

/-! ## Requests answered at once, by their effect on the journey -/

/-- The journey after a request to a free controller is the one its block left. -/
theorem exec_jt (h : Free s) (k : c.request = some (kind, tag)) (l : requestKinds.contains kind = true)
    (e : exec c s = .next t) : t.jt = (act c (handling kind tag (some c) s)).state.jt := by
  rw [exec_of_request k] at e
  unfold submit at e
  rw [event_arrive_free h] at e
  cases e
  simp only [answerOf, l, Bool.not_true, Bool.false_eq_true, if_false, State.setDc_jt]
  cases act c (handling kind tag (some c) s) <;> simp [settle, Answer.state]

/-! ## The evaluation of the notice while RUNNING -/

/-- The notice of R24 for the next stop. -/
theorem evaluateNotice_eq {j : Jt} {n : Nat} {q : Stop} (next : j.next = some n) (at_n : j.homeStops[n]? = some q) :
    evaluateNotice j = if q.announce ≠ 0 ∧ j.remaining ≤ q.announce ∧ j.notice ≠ .arriving n then .arriving n
      else if q.approach ≠ 0 ∧ j.remaining ≤ q.approach ∧ j.notice = .none then .approaching n else j.notice := by
  unfold evaluateNotice
  simp only [next, at_n, Bool.and_eq_true, decide_eq_true_eq, and_assoc]

/-- What a window evaluates while RUNNING: the notice before it, with the R, the next stop and the routes of its end (R33). -/
theorem windowTimed_running {x : Nat} (p : s.jt.phase = .running x) :
    (windowTimed s).jt.next = s.jt.next ∧ (windowTimed s).jt.homeStops = s.jt.homeStops
      ∧ (windowTimed s).jt.notice = s.jt.notice ∧ (windowTimed s).jt.remaining = (windowExpiry s).jt.remaining
      ∧ (windowExpiry s).jt.notice = evaluateNotice (windowTimed s).jt := by
  have stay : windowDeparture (windowMoved s) = windowMoved s :=
    windowDeparture_moved_of_not fun c g => by rw [p] at g; cases g
  obtain ⟨o, e, -⟩ := windowMoved_jt s
  have jt : (windowTimed s).jt = { s.jt with odo := evaluateEta { s.jt with odo := o } }.timed := by
    rw [windowTimed_jt, stay, e]
  refine ⟨by rw [jt]; rfl, by rw [jt]; rfl, by rw [jt]; rfl, ?_, ?_⟩
  · rw [windowExpiry_moved_jt, Jt.evaluated_remaining, stay, e, jt]
    unfold Jt.remaining
    exact congrArg (fun d => match s.jt.phase with
      | .running _ => s.jt.legEff - d
      | _ => 0) (evaluateEta_dist { s.jt with odo := o })
  · rw [windowExpiry_moved_jt, stay, e, jt]
    rfl

/-- The report of a notice that changes waits (R24). -/
theorem windowExpiry_notice_report {x : Nat} (p : s.jt.phase = .running x) (room : RoomFor 0 s)
    (changed : evaluateNotice (windowTimed s).jt ≠ s.jt.notice) :
    { cls := .journey, code := 3, subject := 0,
      data := u8 (windowExpiry s).jt.notice.code ++ index? (windowExpiry s).jt.notice.stop } ∈ (windowExpiry s).clc.reports := by
  have stay : windowDeparture (windowMoved s) = windowMoved s :=
    windowDeparture_moved_of_not fun c g => by rw [p] at g; cases g
  obtain ⟨-, -, notice, -, after⟩ := windowTimed_running p
  have r : RoomFor 1 (windowTimed s) := (windowMoved_room room).congr ((windowTimed_clc s).trans (by rw [stay]))
  rw [after, windowExpiry_eq, formPositions_clc]
  exact windowNotice_report r (by decide) (by rwa [notice])

/-- Settles O35: the implied departure, the notice of a window, and the notice at the journey's other events. -/
theorem windowImpliesDepartureAndSetsTheNotice : Obligations.WindowImpliesDepartureAndSetsTheNotice := by
  unfold Obligations.WindowImpliesDepartureAndSetsTheNotice
  refine ⟨fun s r d => ?_, fun c n q s r d p next at_n => ?_, fun tag unit slot j s t h e p p' => ?_,
    fun tag code c m s t h e p p' => ?_, fun tag s t h e ⟨c, p⟩ => ?_, fun tag s t h e p p' => ?_, rfl, fun s => rfl⟩
  · refine ⟨_, congrArg Host.Outcome.next (event_running (f := windowExpiry) (by rw [r]; decide) d), fun c p far => ?_, fun near => ?_⟩
    · rw [State.setDc_jt, windowExpiry_dist] at far
      obtain ⟨phase, tainted⟩ := windowExpiry_departed p far
      exact ⟨phase, tainted, fun enabled busy none trigger k =>
        windowExpiry_clc_report p far ⟨busy, enabled, by rw [none]; exact le_rfl⟩ trigger k⟩
    · rw [State.setDc_jt, windowExpiry_dist] at near
      exact windowExpiry_stays near
  · refine ⟨_, congrArg Host.Outcome.next (event_running (f := windowExpiry) r d), ?_⟩
    obtain ⟨next', stops, notice, remaining, after⟩ := windowTimed_running p
    have value := evaluateNotice_eq (next'.trans next) (by rwa [stops])
    rw [notice, remaining] at value
    dsimp only
    rw [State.setDc_jt]
    refine ⟨after.trans value, fun busy enabled none due => ?_⟩
    have change : evaluateNotice (windowTimed s).jt ≠ s.jt.notice ∧ (evaluateNotice (windowTimed s).jt).stop = some n := by
      rw [value]
      split_ifs with arriving approaching
      · exact ⟨fun g => arriving.2.2 g.symm, rfl⟩
      · exact ⟨fun g => (by cases g.trans approaching.2.2), rfl⟩
      · exact absurd due (not_or.mpr ⟨arriving, approaching⟩)
    have m := windowExpiry_notice_report p ⟨busy, enabled, by rw [none]; exact le_rfl⟩ change.1
    rwa [show (windowExpiry s).jt.notice.stop = some n by rw [after, change.2]] at m
  · have jt := exec_jt h rfl rfl e
    obtain same | ⟨-, begun⟩ := doAssignUnitHome_jt
      (s := handling 0x17 tag (some (.assignUnitHome tag unit slot j 0xFF)) s) unit slot j 0xFF
    · exact absurd ((congrArg Jt.phase (jt.trans same)).trans p) p'
    · exact congrArg Jt.notice (jt.trans begun)
  · have jt := exec_jt h rfl rfl e
    obtain same | ⟨x, k, -, -, ended⟩ := doArrived_jt (s := handling 0x1A tag (some (.arrived tag code)) s) code
    · rw [(congrArg Jt.phase (jt.trans same)).trans p] at p'
      rcases p' with g | g <;> cases g
    · have j := jt.trans ended
      rw [j] at p' ⊢
      have same : k = m := by
        simp only [Jt.legEnded, Jt.timed, Jt.positioned] at p'
        split at p' <;> simpa using p'
      exact congrArg JourneyNotice.atPlatform same
  · obtain ⟨u, back, a, jt, -⟩ := doDeparted_atStop (s := handling 0x19 tag (some (.departed tag)) s) p
    cases (exec_of_act (c := .departed tag) h rfl rfl a).symm.trans e
    rw [replied_jt, jt]
    rfl
  · have jt := exec_jt h rfl rfl e
    obtain same | ended := doEndJourney_jt (s := handling 0x18 tag (some (.endJourney tag)) s)
    · exact absurd ((congrArg Jt.phase (jt.trans same)).symm.trans p') p
    · exact congrArg Jt.notice (jt.trans ended)

end Sys2Proof.Machine
end

section
/-! SPLIT and REMOVE ENTRY (R77 to R81). -/

namespace Sys2Proof.Machine

variable {s : State} {kind tag unit id : Nat} {m : Cm}

/-! ## One entry of a parting unit -/

/-- An entry that SPLIT has made DEPARTING (R77). -/
def Entry.departing (e : Entry) : Entry := { e with state := .departing, pairCount := 0 }

/-- Whether the entry of an identity has missed too often to depart (R78). -/
def Cm.overdue (m : Cm) (id : Nat) : Bool := m.list.any fun e => e.coach.id = id && 3 ≤ e.coach.missed

/-- The consist once SPLIT has taken one entry of a unit (R77, R78). -/
def Cm.departed (m : Cm) (unit id : Nat) : Cm :=
  { m with
    list := (m.list.filter fun e => !(e.coach.id = id && 3 ≤ e.coach.missed)).map fun e =>
      if e.coach.id = id then e.departing else e
    partings := if m.overdue id then (m.joinParting unit id).partings else m.partings }

theorem Cm.departed_unmarked (m : Cm) (unit id : Nat) : (m.departed unit id).unmarked = m.unmarked.departed unit id := by
  have same : m.unmarked.overdue id = m.overdue id := by simp [Cm.overdue, Cm.unmarked, Function.comp_def]
  simp only [Cm.departed, same, Cm.joinParting]
  simp only [Cm.unmarked, List.map_map, List.filter_map, Function.comp_def]
  refine congrArg (fun l => ({ m with list := l, partings := _ } : Cm)) (List.map_congr_left fun e _ => ?_)
  split <;> rfl

theorem setEntryState_unmarked (id : Nat) (st : EntryState) (s : State) : (setEntryState id st s).cm.unmarked
    = (updateEntry id (fun e => { e with state := st }) s).cm.unmarked := by
  unfold setEntryState
  dsimp only
  split_ifs <;> simp

/-- Identities stand once each in the list (R53). -/
def Cm.Distinct (m : Cm) : Prop := (m.list.map (·.coach.id)).Nodup

theorem Cm.entryOf_coach (m : Cm) (id : Nat) : (m.entryOf id).map (·.coach) = (m.list.map (·.coach)).find? (·.id = id) := by
  rw [Cm.entryOf, List.find?_map]
  rfl

/-- With distinct identities the entry found is the overdue one (R53). -/
theorem Cm.Distinct.overdue_eq (h : m.Distinct) (id : Nat) :
    m.overdue id = ((m.entryOf id).map (·.coach)).any fun k => 3 ≤ k.missed := by
  have found (e : Entry) (k : e ∈ m.list) (i : e.coach.id = id) : m.entryOf id = some e := by
    cases g : m.entryOf id with
    | none => exact absurd i (by simpa using List.find?_eq_none.mp g e k)
    | some d =>
      have d_id : d.coach.id = id := by simpa using List.find?_some g
      exact congrArg some (List.inj_on_of_nodup_map h (List.mem_of_find?_eq_some g) k (d_id.trans i.symm))
  rw [Bool.eq_iff_iff]
  simp only [Cm.overdue, List.any_eq_true, Bool.and_eq_true, decide_eq_true_eq, Option.any_eq_true, Option.map_eq_some_iff]
  constructor
  · rintro ⟨e, k, i, l⟩
    exact ⟨e.coach, ⟨e, found e k i, rfl⟩, l⟩
  · rintro ⟨-, ⟨e, g, rfl⟩, l⟩
    exact ⟨e, List.mem_of_find?_eq_some g, by simpa using List.find?_some g, l⟩

/-- The state that a change to DEPARTING with pair count 0 leaves (R77). -/
def setDeparting (id : Nat) (s : State) : State :=
  setEntryState id .departing (updateEntry id (fun e => { e with pairCount := 0 }) s)

theorem setDeparting_unmarked (id : Nat) (s : State) : (setDeparting id s).cm.unmarked
    = Cm.unmarked { s.cm with list := s.cm.list.map fun e => if e.coach.id = id then e.departing else e } := by
  rw [setDeparting, setEntryState_unmarked]
  simp only [updateEntry, Cm.update, State.setCm_cm, List.map_map]
  refine congrArg (fun l => Cm.unmarked { s.cm with list := l }) (List.map_congr_left fun e _ => ?_)
  by_cases h : e.coach.id = id <;> simp [h, Entry.departing]

theorem coaches_of_unmarked {a b : Cm} (h : a.unmarked = b.unmarked) : a.list.map (·.coach) = b.list.map (·.coach) := by
  simpa [Cm.unmarked, Function.comp_def] using congrArg (fun c : Cm => c.list.map (·.coach)) h

theorem setDeparting_coaches (id : Nat) (s : State) :
    (setDeparting id s).cm.list.map (·.coach) = s.cm.list.map (·.coach) := by
  refine (coaches_of_unmarked (setDeparting_unmarked id s)).trans ?_
  rw [List.map_map]
  refine List.map_congr_left fun e _ => ?_
  by_cases h : e.coach.id = id <;> simp [h, Entry.departing]

/-- An entry of a parting unit departs, or is deleted when it has missed too often (R77, R78). -/
theorem departEntry_eq (h : s.cm.Distinct) : departEntry id unit s = if s.cm.overdue id then
      leaveList (fun x => x.coach.id = id) ((setDeparting id s).setCm ((setDeparting id s).cm.joinParting unit id))
    else setDeparting id s := by
  rw [h.overdue_eq, Cm.entryOf_coach, ← setDeparting_coaches id s, ← Cm.entryOf_coach]
  show (match (setDeparting id s).cm.entryOf id with
    | some e => _
    | none => _) = _
  cases (setDeparting id s).cm.entryOf id with
  | none => rfl
  | some e =>
    by_cases l : 3 ≤ e.coach.missed
    · simp only [l, if_true, Option.map_some, Option.any_some, decide_true]
      rfl
    · simp only [l, if_false, Option.map_some, Option.any_some, decide_false]
      rfl

theorem leaveList_cm (gone : Entry → Bool) (s : State) :
    (leaveList gone s).cm = { s.cm with list := s.cm.list.filter fun e => !gone e } := by
  simp [leaveList]

/-- Entries that leave by their identities, and other parting sets, do so whatever the blocks. -/
theorem unmarked_filter {a b : Cm} (h : a.unmarked = b.unmarked) (f : Coach → Bool) (g : List PartingSet → List PartingSet) :
    Cm.unmarked { a with list := a.list.filter fun e => f e.coach, partings := g a.partings }
      = Cm.unmarked { b with list := b.list.filter fun e => f e.coach, partings := g b.partings } := by
  have out (c : Cm) : Cm.unmarked { c with list := c.list.filter fun e => f e.coach, partings := g c.partings }
      = { c.unmarked with list := c.unmarked.list.filter fun e => f e.coach, partings := g c.unmarked.partings } := by
    simp [Cm.unmarked, List.filter_map, Function.comp_def]
  rw [out, out, h]

/-- With distinct identities every entry of an overdue identity is overdue. -/
theorem Cm.Distinct.missed_of_overdue (h : m.Distinct) (l : m.overdue id = true) {e : Entry} (k : e ∈ m.list)
    (i : e.coach.id = id) : 3 ≤ e.coach.missed := by
  obtain ⟨d, hd, g⟩ := List.any_eq_true.mp l
  simp only [Bool.and_eq_true, decide_eq_true_eq] at g
  rw [List.inj_on_of_nodup_map h k hd (i.trans g.1.symm)]
  exact g.2

theorem departEntry_unmarked (h : s.cm.Distinct) : (departEntry id unit s).cm.unmarked = (s.cm.departed unit id).unmarked := by
  rw [departEntry_eq h]
  have t := setDeparting_unmarked id s
  by_cases l : s.cm.overdue id = true
  · rw [if_pos l, leaveList_cm]
    refine (unmarked_filter t (fun k => !(k.id = id)) fun q =>
      q.map fun p => if p.unit = unit then { p with ids := p.ids ++ [id] } else p).trans ?_
    rw [Cm.departed, if_pos l]
    refine congrArg (fun l => Cm.unmarked { s.cm with list := l, partings := _ }) ?_
    have coach (e : Entry) : (if e.coach.id = id then e.departing else e).coach = e.coach := by split <;> rfl
    simp only [List.filter_map, Function.comp_def, coach]
    refine congrArg (List.map _) (List.filter_congr fun e k => ?_)
    by_cases i : e.coach.id = id
    · simp [i, h.missed_of_overdue l k i]
    · simp [i]
  · rw [if_neg l, t, Cm.departed, if_neg l]
    refine congrArg (fun l => Cm.unmarked { s.cm with list := List.map _ l }) (List.filter_eq_self.mpr fun e k => ?_).symm
    simpa [imp_iff_not_or] using List.any_eq_false.mp (Bool.eq_false_iff.mpr l) e k

/-! ## Every entry of a parting unit -/

theorem Cm.Distinct.of_unmarked {a b : Cm} (h : a.unmarked = b.unmarked) (k : b.Distinct) : a.Distinct := by
  have same := congrArg (List.map (·.id)) (coaches_of_unmarked h)
  simp only [List.map_map, Function.comp_def] at same
  exact (congrArg List.Nodup same).mpr k

theorem Entry.ite_departing_coach (p : Prop) [Decidable p] (e : Entry) : (if p then e.departing else e).coach = e.coach := by
  split <;> rfl

theorem Cm.Distinct.departed (h : m.Distinct) (unit id : Nat) : (m.departed unit id).Distinct := by
  unfold Cm.Distinct Cm.departed
  simp only [List.map_map, Function.comp_def, Entry.ite_departing_coach]
  exact h.sublist (List.filter_sublist.map _)

theorem foldl_departed_unmarked (l : List Nat) (m : Cm) :
    (l.foldl (fun m id => m.departed unit id) m).unmarked = l.foldl (fun m id => m.departed unit id) m.unmarked := by
  induction l generalizing m with
  | nil => rfl
  | cons id l ih => rw [List.foldl_cons, List.foldl_cons, ih, Cm.departed_unmarked]

theorem foldl_departEntry_unmarked (h : s.cm.Distinct) (l : List Nat) :
    (l.foldl (fun t id => departEntry id unit t) s).cm.unmarked = (l.foldl (fun m id => m.departed unit id) s.cm).unmarked := by
  induction l generalizing s with
  | nil => rfl
  | cons id l ih =>
    have step := departEntry_unmarked (id := id) (unit := unit) h
    rw [List.foldl_cons, List.foldl_cons, ih (.of_unmarked step (h.departed unit id)), foldl_departed_unmarked, step,
      ← foldl_departed_unmarked]

/-- The consist once SPLIT has taken the entries of identities: those overdue deleted into the parting set, the others
DEPARTING (R77, R78). -/
def Cm.departedAll (m : Cm) (unit : Nat) (ids : List Nat) : Cm :=
  { m with
    list := (m.list.filter fun e => !(ids.contains e.coach.id && 3 ≤ e.coach.missed)).map fun e =>
      if ids.contains e.coach.id then e.departing else e
    partings := m.partings.map fun p => if p.unit = unit then { p with ids := p.ids ++ ids.filter m.overdue } else p }

theorem Cm.overdue_departed_other {x : Nat} (h : x ≠ id) : (m.departed unit id).overdue x = m.overdue x := by
  rw [Bool.eq_iff_iff]
  simp only [Cm.overdue, Cm.departed, List.any_map, List.any_filter, Function.comp_def, Entry.ite_departing_coach,
    List.any_eq_true, Bool.and_eq_true, decide_eq_true_eq, Bool.not_eq_true', Bool.and_eq_false_iff, decide_eq_false_iff_not]
  refine exists_congr fun e => and_congr_right fun _ => ⟨And.right, fun g => ⟨.inl (g.1 ▸ h), g⟩⟩

theorem Cm.foldl_departed (ids : List Nat) (h : ids.Nodup) (m : Cm) :
    ids.foldl (fun m id => m.departed unit id) m = m.departedAll unit ids := by
  induction ids generalizing m with
  | nil => simp [Cm.departedAll]
  | cons id ids ih =>
    obtain ⟨new, rest⟩ := List.nodup_cons.mp h
    rw [List.foldl_cons, ih rest]
    have others : ids.filter (m.departed unit id).overdue = ids.filter m.overdue :=
      List.filter_congr fun x k => Cm.overdue_departed_other fun e => new (e ▸ k)
    refine Cm.eq_of_fields ?_ rfl rfl rfl ?_ rfl
    · simp only [Cm.departedAll, Cm.departed, List.filter_map, List.map_map, List.filter_filter, Function.comp_def,
        Entry.ite_departing_coach]
      have keep : (m.list.filter fun e => !(ids.contains e.coach.id && decide (3 ≤ e.coach.missed))
            && !(decide (e.coach.id = id) && decide (3 ≤ e.coach.missed)))
          = m.list.filter fun e => !((id :: ids).contains e.coach.id && decide (3 ≤ e.coach.missed)) :=
        List.filter_congr fun e _ => by
          rw [List.contains_cons, Bool.and_or_distrib_right, Bool.not_or, Bool.and_comm]
          rfl
      rw [keep]
      refine List.map_congr_left fun e _ => ?_
      by_cases a : e.coach.id = id <;> by_cases b : ids.contains e.coach.id = true <;> simp_all [Entry.departing]
    · simp only [Cm.departedAll, others]
      unfold Cm.departed Cm.joinParting
      by_cases l : m.overdue id = true
      · simp only [l, if_true, List.map_map, List.filter_cons_of_pos l]
        refine List.map_congr_left fun p _ => ?_
        by_cases u : p.unit = unit <;> simp [u]
      · simp [l]

end Sys2Proof.Machine
end

section
/-! SPLIT as a whole, and REMOVE ENTRY (R77, R79, R81). -/

namespace Sys2Proof.Machine

variable {s : State} {kind tag unit id : Nat} {m : Cm}

/-! ## The consist that SPLIT leaves -/

/-- The list entries of a unit. -/
def Cm.ofUnit (m : Cm) (unit : Nat) : List Entry := m.list.filter fun e => e.coach.unit = unit

/-- The identities of a unit's list entries that are deleted at once (R78). -/
def Cm.goneOf (m : Cm) (unit : Nat) : List Nat := ((m.ofUnit unit).filter fun e => 3 ≤ e.coach.missed).map (·.coach.id)

theorem Cm.Distinct.mem_map_filter (h : m.Distinct) {f : Entry → Bool} {e : Entry} (k : e ∈ m.list) :
    e.coach.id ∈ (m.list.filter f).map (·.coach.id) ↔ f e = true := by
  constructor
  · intro g
    obtain ⟨d, hd, i⟩ := List.mem_map.mp g
    obtain ⟨hd, fd⟩ := List.mem_filter.mp hd
    exact List.inj_on_of_nodup_map h hd k i ▸ fd
  · exact fun g => List.mem_map.mpr ⟨e, List.mem_filter.mpr ⟨k, g⟩, rfl⟩

theorem Cm.Distinct.mem_ofUnit (h : m.Distinct) {e : Entry} (k : e ∈ m.list) :
    e.coach.id ∈ (m.ofUnit unit).map (·.coach.id) ↔ e.coach.unit = unit := by
  rw [Cm.ofUnit, h.mem_map_filter k, decide_eq_true_eq]

theorem Cm.Distinct.mem_goneOf (h : m.Distinct) {e : Entry} (k : e ∈ m.list) :
    e.coach.id ∈ m.goneOf unit ↔ e.coach.unit = unit ∧ 3 ≤ e.coach.missed := by
  rw [Cm.goneOf, Cm.ofUnit, List.filter_filter, h.mem_map_filter k, Bool.and_eq_true, decide_eq_true_eq, decide_eq_true_eq,
    and_comm]

theorem Cm.Distinct.filter_overdue (h : m.Distinct) (unit : Nat) :
    ((m.ofUnit unit).map (·.coach.id)).filter m.overdue = m.goneOf unit := by
  rw [List.filter_map, Cm.goneOf]
  refine congrArg _ (List.filter_congr fun e k => ?_)
  have k' : e ∈ m.list := (List.mem_filter.mp k).1
  rw [Function.comp_apply, Bool.eq_iff_iff, decide_eq_true_eq]
  exact ⟨fun l => h.missed_of_overdue l k' rfl,
    fun l => List.any_eq_true.mpr ⟨e, k', by simpa using l⟩⟩

/-- The consist once SPLIT has been taken (R77, R78): the entries gone in the parting set, which stands last. -/
def Cm.split (m : Cm) (unit : Nat) : Cm :=
  { m with
    list := (m.list.filter fun e => !(m.goneOf unit).contains e.coach.id).map fun e =>
      if e.coach.unit = unit then e.departing else e
    partings := m.partings ++ [{ unit := unit, ids := m.goneOf unit }] }

theorem Cm.Distinct.departedAll_eq (h : m.Distinct) (new : ∀ x ∈ m.partings, x.unit ≠ unit) :
    ({ m with partings := m.partings ++ [{ unit := unit, ids := [] }] } : Cm).departedAll unit ((m.ofUnit unit).map (·.coach.id))
      = m.split unit := by
  refine Cm.eq_of_fields ?_ rfl rfl rfl ?_ rfl
  · have keep : (m.list.filter fun e => !(((m.ofUnit unit).map (·.coach.id)).contains e.coach.id && 3 ≤ e.coach.missed))
        = m.list.filter fun e => !(m.goneOf unit).contains e.coach.id :=
      List.filter_congr fun e k => by
        refine congrArg (!·) ?_
        rw [Bool.eq_iff_iff, Bool.and_eq_true, List.contains_iff_mem, List.contains_iff_mem, decide_eq_true_eq,
          h.mem_ofUnit k, h.mem_goneOf k]
    simp only [Cm.departedAll, Cm.split, keep]
    refine List.map_congr_left fun e k => ?_
    have k' : e ∈ m.list := (List.mem_filter.mp k).1
    simp only [List.contains_iff_mem, h.mem_ofUnit k']
  · have same (f : PartingSet → PartingSet) : (m.partings.map fun p => if p.unit = unit then f p else p) = m.partings := by
      conv_rhs => rw [← List.map_id m.partings]
      exact List.map_congr_left fun p k => if_neg (new p k)
    simp only [Cm.departedAll, Cm.split, List.map_append, List.map_singleton, if_true, List.nil_append]
    exact congrArg₂ (· ++ ·) (same _) (by rw [← h.filter_overdue]; rfl)

theorem takeSplit_unmarked (h : s.cm.Distinct) (new : ∀ x ∈ s.cm.partings, x.unit ≠ unit) :
    (takeSplit unit s).cm.unmarked = (s.cm.split unit).unmarked := by
  have nodup : ((s.cm.ofUnit unit).map (·.coach.id)).Nodup := h.sublist (List.filter_sublist.map _)
  let s1 := withAdvisory (fun t => t.setJt (t.jt.setPortionState unit .parting)) s
  let s2 := s1.setCm { s1.cm with partings := s1.cm.partings ++ [{ unit := unit, ids := [] }] }
  have before : s2.cm.unmarked
      = Cm.unmarked { s.cm with partings := s.cm.partings ++ [{ unit := unit, ids := [] }] } := by
    have e := withAdvisory_unmarked (fun t : State => t.setJt (t.jt.setPortionState unit .parting)) s
    have q := unmarked_filter e (fun _ => true) (· ++ [{ unit := unit, ids := [] }])
    simpa [s2, s1] using q
  have distinct : s2.cm.Distinct := .of_unmarked before h
  show (((s.cm.ofUnit unit).map (·.coach.id)).foldl (fun t id => departEntry id unit t) s2).cm.unmarked = _
  rw [foldl_departEntry_unmarked distinct, foldl_departed_unmarked, before, ← foldl_departed_unmarked,
    Cm.foldl_departed _ nodup, h.departedAll_eq new]

/-! ## What else SPLIT takes along -/

@[simp] theorem leaveList_rs (gone : Entry → Bool) (s : State) : (leaveList gone s).rs = s.rs := by simp [leaveList]

@[simp] theorem departEntry_rs (id unit : Nat) (s : State) : (departEntry id unit s).rs = s.rs := by
  unfold departEntry
  dsimp only
  split
  · split_ifs <;> simp
  · simp

@[simp] theorem takeSplit_rs (unit : Nat) (s : State) : (takeSplit unit s).rs = s.rs := by
  unfold takeSplit
  dsimp only
  rw [foldl_keeps State.rs fun t id => departEntry_rs id unit t]
  simp

theorem kept_departEntry (id unit : Nat) (s : State) : Kept s (departEntry id unit s) := by
  have t := (kept_updateEntry id (fun e => { e with pairCount := 0 }) s).trans (kept_setEntryState id .departing _)
  unfold departEntry
  dsimp only
  split
  · split_ifs
    · exact (t.trans (kept_setCm ..)).trans (kept_leaveList ..)
    · exact t
  · exact t

theorem kept_takeSplit (unit : Nat) (s : State) : Kept s (takeSplit unit s) := by
  unfold takeSplit
  exact ((kept_withAdvisory (kept_setJt ..)).trans (kept_setCm ..)).trans (.foldl (fun t id => kept_departEntry id unit t) _ _)

/-! ## Whether the split is complete -/

theorem departing_isEmpty_of_unmarked {a b : Cm} (h : a.unmarked = b.unmarked) :
    (a.departing unit).isEmpty = (b.departing unit).isEmpty := by
  have out (c : Cm) : (c.departing unit).isEmpty = (c.unmarked.departing unit).isEmpty := by
    simp [Cm.departing, Cm.unmarked, List.filter_map, Function.comp_def]
  rw [out a, h, ← out b]

/-- An entry of the unit departs unless all have missed too often (R77, R78). -/
theorem Cm.Distinct.split_departing_isEmpty (h : m.Distinct) :
    ((m.split unit).departing unit).isEmpty = true ↔ ∀ e ∈ m.ofUnit unit, 3 ≤ e.coach.missed := by
  rw [List.isEmpty_iff, Cm.departing, List.filter_eq_nil_iff]
  constructor
  · intro g e k
    obtain ⟨k, u⟩ := List.mem_filter.mp k
    have mine : e.coach.unit = unit := by simpa using u
    by_contra l
    refine g e.departing (List.mem_map.mpr ⟨e, List.mem_filter.mpr ⟨k, ?_⟩, if_pos mine⟩) ?_
    · simp [h.mem_goneOf k, not_le.mp l]
    · simp [Entry.departing, mine]
  · intro g e k
    obtain ⟨d, hd, rfl⟩ := List.mem_map.mp k
    obtain ⟨k, out⟩ := List.mem_filter.mp hd
    have left : d.coach.unit ≠ unit := fun u => by
      have gone : d.coach.id ∈ m.goneOf unit := (h.mem_goneOf k).mpr ⟨u, g d (List.mem_filter.mpr ⟨k, by simpa using u⟩)⟩
      simp [gone] at out
    simp [left]

theorem Jt.setPortionState_portionOf {j : Jt} {p : Portion} (h : j.portionOf unit = some p) (st : PortionState) :
    (j.setPortionState unit st).portionOf unit = some { p with state := st } := by
  have keep : ((fun q : Portion => decide (q.unit = unit)) ∘ fun q => if q.unit = unit then { q with state := st } else q)
      = fun q => decide (q.unit = unit) := by
    funext q
    by_cases u : q.unit = unit <;> simp [u]
  rw [Jt.portionOf] at h
  rw [Jt.portionOf, Jt.setPortionState, List.find?_map, keep, h]
  have u : p.unit = unit := by simpa using List.find?_some h
  simp [u]

theorem splitDone_takeSplit {p : Portion} (h : s.cm.Distinct) (new : ∀ x ∈ s.cm.partings, x.unit ≠ unit)
    (e : s.jt.portionOf unit = some p) :
    splitDone (takeSplit unit s) unit = true ↔ ∀ e ∈ s.cm.ofUnit unit, 3 ≤ e.coach.missed := by
  rw [splitDone, takeSplit_jt, Jt.setPortionState_portionOf e, departing_isEmpty_of_unmarked (takeSplit_unmarked h new),
    ← h.split_departing_isEmpty]
  simp

/-! ## The completion (R79) -/

theorem completeSplit_rs (unit : Nat) (s : State) : (completeSplit unit s).rs
    = s.rs.deleteVehicles (s.cm.partingIds unit ++ (s.cm.detached.filter fun c => c.unit = unit).map (·.id)) := by
  simp [completeSplit]

theorem completeSplit_unmarked (unit : Nat) (s : State) : (completeSplit unit s).cm.unmarked
    = Cm.unmarked { s.cm with detached := s.cm.detached.filter (fun c => c.unit ≠ unit)
                              partings := s.cm.partings.filter fun p => p.unit ≠ unit } := by
  unfold completeSplit
  exact withAdvisory_unmarked ..

variable (r : Rs) (ids : List Nat)

@[simp] theorem Rs.deleteVehicles_live : (r.deleteVehicles ids).live = r.live := by
  simp [Rs.deleteVehicles, apply_ite Rs.live]
@[simp] theorem Rs.deleteVehicles_staging : (r.deleteVehicles ids).staging = r.staging := by
  simp [Rs.deleteVehicles, apply_ite Rs.staging]

@[simp] theorem Rs.deleteVehicles_liveBank : (r.deleteVehicles ids).liveBank = withoutVehicles ids r.liveBank := by
  rw [Rs.liveBank, Rs.deleteVehicles_live, Rs.deleteVehicles]
  split_ifs
  · rw [Rs.bank_setBank_of_other, Rs.bank_setBank_same]
  · exact Rs.bank_setBank_same ..
  · exact Rs.bank_setBank_same ..

@[simp] theorem Rs.deleteVehicles_stagingBank : (r.deleteVehicles ids).stagingBank =
    if r.staging.open? then withoutVehicles ids r.stagingBank else r.stagingBank := by
  rw [Rs.stagingBank, Rs.deleteVehicles_live, Rs.deleteVehicles]
  split_ifs
  · exact Rs.bank_setBank_same ..
  · exact Rs.bank_setBank_other ..
  · exact Rs.bank_setBank_other ..

end Sys2Proof.Machine
end

section
/-! The answers of SPLIT and REMOVE ENTRY (R77, R79, R81). -/

namespace Sys2Proof.Machine

variable {s : State} {kind tag unit id : Nat} {p : Portion}

/-! ## SPLIT -/

theorem doSplit_not_stopped (h : ¬ ∃ x, s.jt.phase = .atStop x) : doSplit unit s = refuse s .wrongState := by
  unfold doSplit
  split
  · next x e => exact absurd ⟨x, e⟩ h
  · rfl

theorem doSplit_zero (h : ∃ x, s.jt.phase = .atStop x) : doSplit 0 s = refuse s .badField := by
  obtain ⟨x, e⟩ := h
  simp [doSplit, e]

theorem doSplit_unassigned (h : ∃ x, s.jt.phase = .atStop x) (u : unit ≠ 0) (e : s.jt.portionOf unit = none) :
    doSplit unit s = refuse s .notFound := by
  obtain ⟨x, stop⟩ := h
  simp only [doSplit, stop, if_neg u, e]

theorem doSplit_fixed (h : ∃ x, s.jt.phase = .atStop x) (u : unit ≠ 0) (e : s.jt.portionOf unit = some p)
    (g : p.home = true ∨ p.state = .parting) : doSplit unit s = refuse s .wrongState := by
  obtain ⟨x, stop⟩ := h
  simp only [doSplit, stop, if_neg u, e]
  exact if_pos (by simpa using g)

theorem doSplit_taken (h : ∃ x, s.jt.phase = .atStop x) (u : unit ≠ 0) (e : s.jt.portionOf unit = some p)
    (home : p.home = false) (a : p.state = .attached) : doSplit unit s = done (checkSplit unit (takeSplit unit s))
      (u8 (s.cm.ofUnit unit).length ++ flag (splitDone (takeSplit unit s) unit)) := by
  obtain ⟨x, stop⟩ := h
  simp only [doSplit, stop, if_neg u, e]
  exact if_neg (by simp [home, a])

/-- A split that is not complete leaves the portion PARTING (R16, R77). -/
theorem Jt.setPortionState_eq (j : Jt) (unit : Nat) (st : PortionState) : j.setPortionState unit st = { j with
    portions := j.portions.map fun x => { x with state := if x.unit = unit then st else x.state } } := by
  refine congrArg (fun l => { j with portions := l }) (List.map_congr_left fun x _ => ?_)
  split <;> rfl

/-- The journey that a complete split leaves (R16). -/
theorem Jt.split_completed {j : Jt} (e : j.portionOf unit = some p) :
    let others := j.portions.filter fun x => x.unit ≠ unit
    let slot := j.slots.get p.slot
    let k := (j.setPortionState unit .parting).removePortion unit
    k.portions = others
      ∧ k.slots = (if slot.state = .inUse ∧ ∀ x ∈ others, x.slot ≠ p.slot then
          j.slots.set p.slot { slot with state := .ready } else j.slots)
      ∧ k.phase = j.phase ∧ k.odo = j.odo := by
  have others : ((j.setPortionState unit .parting).portions.filter fun q => q.unit ≠ unit)
      = j.portions.filter fun x => x.unit ≠ unit := by
    have unit_eq (q : Portion) : (if q.unit = unit then { q with state := .parting } else q).unit = q.unit := by split <;> rfl
    simp only [Jt.setPortionState, List.filter_map, Function.comp_def, unit_eq]
    conv_rhs => rw [← List.map_id (j.portions.filter fun x => x.unit ≠ unit)]
    exact List.map_congr_left fun q k => if_neg (by simpa using (List.mem_filter.mp k).2)
  dsimp only
  rw [removePortion_eq (Jt.setPortionState_portionOf e .parting), others]
  refine ⟨releaseSlot_portions .., ?_, releaseSlot_phase .., (releaseSlot_odometer ..).2.2⟩
  unfold Jt.releaseSlot
  simp only [apply_ite Jt.slots, Bool.and_eq_true, decide_eq_true_eq, Bool.not_eq_true', List.any_eq_false]
  rfl

/-- The consist that a complete split leaves (R79). -/
theorem completeSplit_takeSplit (h : s.cm.Distinct) (new : ∀ x ∈ s.cm.partings, x.unit ≠ unit) :
    let t := completeSplit unit (takeSplit unit s)
    t.rs = s.rs.deleteVehicles (s.cm.goneOf unit ++ (s.cm.detached.filter fun c => c.unit = unit).map (·.id))
      ∧ t.cm.list.map (·.coach) = (s.cm.list.filter fun e => !(s.cm.goneOf unit).contains e.coach.id).map (·.coach)
      ∧ t.cm.detached = s.cm.detached.filter (fun k => k.unit ≠ unit) ∧ t.cm.partings = s.cm.partings := by
  have taken := takeSplit_unmarked h new
  have detached : (takeSplit unit s).cm.detached = s.cm.detached := by have q := congrArg Cm.detached taken; exact q
  have partings : (takeSplit unit s).cm.partings = s.cm.partings ++ [{ unit := unit, ids := s.cm.goneOf unit }] := by
    have q := congrArg Cm.partings taken
    exact q
  have done := completeSplit_unmarked unit (takeSplit unit s)
  rw [detached, partings] at done
  have ids : (takeSplit unit s).cm.partingIds unit = s.cm.goneOf unit := by
    have none_before : s.cm.partings.find? (fun p => p.unit = unit) = none := by simpa using new
    rw [Cm.partingIds, partings, List.find?_append, none_before]
    simp
  refine ⟨?_, ?_, ?_, ?_⟩
  · rw [completeSplit_rs, takeSplit_rs, ids, detached]
  · refine (coaches_of_unmarked done).trans ((coaches_of_unmarked taken).trans ?_)
    simp [Cm.split, Function.comp_def, Entry.ite_departing_coach]
  · have q := congrArg Cm.detached done
    exact q
  · have q := congrArg Cm.partings done
    refine Eq.trans q ?_
    have keep : s.cm.partings.filter (fun p => p.unit ≠ unit) = s.cm.partings :=
      List.filter_eq_self.mpr fun x k => by simpa using new x k
    show List.filter (fun p => decide (p.unit ≠ unit)) (s.cm.partings ++ [_]) = _
    rw [List.filter_append, keep]
    simp

/-! ## REMOVE ENTRY -/

/-- REMOVE ENTRY by the collection that holds the identity (R81). -/
theorem doRemoveEntry_eq (id : Nat) (s : State) : doRemoveEntry id s =
    if id = 0 then refuse s .badField
    else if ∃ e ∈ s.cm.list, e.coach.id = id then refuse s .wrongState
    else match s.cm.detached.find? fun k => k.id = id with
      | none => refuse s .notFound
      | some k => done (s.setCm { s.cm with
          detached := s.cm.detached.filter fun x => x.id ≠ id
          partings := s.cm.partings.map fun (p : PartingSet) =>
            { p with ids := if p.unit = k.unit then p.ids ++ [id] else p.ids } }) [] := by
  have listed : (s.cm.entryOf id).isSome = true ↔ ∃ e ∈ s.cm.list, e.coach.id = id := by
    simp [Cm.entryOf, List.find?_isSome]
  have join (k : Coach) : (s.cm.partings.map fun p => if p.unit = k.unit then { p with ids := p.ids ++ [id] } else p)
      = s.cm.partings.map fun p => { p with ids := if p.unit = k.unit then p.ids ++ [id] else p.ids } :=
    List.map_congr_left fun p _ => by split <;> rfl
  unfold doRemoveEntry
  cases s.cm.detached.find? fun k => k.id = id <;> simp only [listed, Cm.joinParting, join]

theorem exec_removeEntry (h : Free s) :
    let reply := answered 0x25 tag (some (.removeEntry tag id))
    exec (.removeEntry tag id) s = .next (
      if id = 0 then reply .badField [] s
      else if ∃ e ∈ s.cm.list, e.coach.id = id then reply .wrongState [] s
      else match s.cm.detached.find? fun k => k.id = id with
        | none => reply .notFound [] s
        | some k => reply .done [] (s.setCm { s.cm with
            detached := s.cm.detached.filter fun x => x.id ≠ id
            partings := s.cm.partings.map fun (p : PartingSet) =>
              { p with ids := if p.unit = k.unit then p.ids ++ [id] else p.ids } })) := by
  have eq (q : List Queued) := doRemoveEntry_eq id (s.withQueue q)
  dsimp only
  split_ifs with zero listed
  · exact exec_refused h rfl rfl fun q => (eq q).trans (if_pos zero)
  · exact exec_refused h rfl rfl fun q => ((eq q).trans (if_neg zero)).trans (if_pos listed)
  · have unlisted (q : List Queued) := ((eq q).trans (if_neg zero)).trans (if_neg listed)
    simp only [State.withQueue_cm] at unlisted
    cases e : s.cm.detached.find? fun k => k.id = id <;> simp only [e] at unlisted
    · exact exec_refused h rfl rfl unlisted
    · exact exec_now h rfl rfl (t := s.setCm _) unlisted h.1 h.2.2.1

/-! ## The obligation -/

theorem Cm.Distinct.of_consistOk (h : ConsistOk s.cm) : s.cm.Distinct := by
  obtain ⟨_, nodup, _⟩ := h
  simp only [Cm.coaches, List.map_append, List.map_map] at nodup
  exact nodup.of_append_left

/-- A SPLIT that leaves an entry DEPARTING. -/
theorem checkSplit_takeSplit_of_left (h : s.cm.Distinct) (new : ∀ x ∈ s.cm.partings, x.unit ≠ unit)
    (e : s.jt.portionOf unit = some p) (left : ∃ e ∈ s.cm.ofUnit unit, e.coach.missed < 3) :
    splitDone (takeSplit unit s) unit = false ∧ checkSplit unit (takeSplit unit s) = takeSplit unit s := by
  have no : splitDone (takeSplit unit s) unit ≠ true := fun all => by
    obtain ⟨d, k, l⟩ := left
    have := (splitDone_takeSplit h new e).mp all d k
    omega
  exact ⟨by simpa using no, if_neg no⟩

/-- A SPLIT that leaves no entry of the unit. -/
theorem checkSplit_takeSplit_of_gone (h : s.cm.Distinct) (new : ∀ x ∈ s.cm.partings, x.unit ≠ unit)
    (e : s.jt.portionOf unit = some p) (gone : ∀ e ∈ s.cm.ofUnit unit, 3 ≤ e.coach.missed) :
    splitDone (takeSplit unit s) unit = true
      ∧ checkSplit unit (takeSplit unit s) = completeSplit unit (takeSplit unit s) := by
  have yes := (splitDone_takeSplit h new e).mpr gone
  exact ⟨yes, if_pos yes⟩

/-- What a SPLIT leaves as it was, complete or not. -/
theorem checkSplit_takeSplit_keeps (h : s.cm.Distinct) (new : ∀ x ∈ s.cm.partings, x.unit ≠ unit)
    (e : s.jt.portionOf unit = some p) :
    let t := checkSplit unit (takeSplit unit s)
    t.jt.phase = s.jt.phase ∧ t.jt.odo = s.jt.odo ∧ t.cm.types = s.cm.types := by
  have types : (takeSplit unit s).cm.types = s.cm.types := by
    have q := congrArg Cm.types (takeSplit_unmarked h new)
    exact q
  by_cases gone : ∀ e ∈ s.cm.ofUnit unit, 3 ≤ e.coach.missed
  · obtain ⟨_, _, phase, odo⟩ := Jt.split_completed e
    dsimp only
    rw [(checkSplit_takeSplit_of_gone h new e gone).2, completeSplit_jt, takeSplit_jt]
    have q := congrArg Cm.types (completeSplit_unmarked unit (takeSplit unit s))
    exact ⟨phase, odo, Eq.trans q types⟩
  · push Not at gone
    dsimp only
    rw [(checkSplit_takeSplit_of_left h new e gone).2, takeSplit_jt]
    exact ⟨rfl, rfl, types⟩

/-- Settles O38: the refusals of SPLIT, its two outcomes by whether an entry of the unit is left, and REMOVE ENTRY. -/
theorem splitAndRemoveEntryTakeEntriesAway : Obligations.SplitAndRemoveEntryTakeEntriesAway := by
  unfold Obligations.SplitAndRemoveEntryTakeEntriesAway
  refine ⟨fun tag unit s h ok => ⟨fun no => ?_, fun stop z => ?_, fun stop u none => ?_, fun p e stop u => ⟨fun g => ?_,
    fun home a new => ?_⟩⟩, fun tag id s h => exec_removeEntry h⟩
  · exact exec_refused h rfl rfl fun q => doSplit_not_stopped (s := s.withQueue q) no
  · exact exec_refused h rfl rfl fun q => z ▸ doSplit_zero (s := s.withQueue q) stop
  · exact exec_refused h rfl rfl fun q => doSplit_unassigned (s := s.withQueue q) stop u none
  · exact exec_refused h rfl rfl fun q => doSplit_fixed (s := s.withQueue q) stop u e g
  · let s' := handling 0x24 tag (some (.split tag unit)) s
    have d : s'.cm.Distinct := .of_consistOk ok
    have kept : Kept s' (checkSplit unit (takeSplit unit s')) := (kept_takeSplit unit s').trans (kept_checkSplit unit _)
    obtain ⟨phase, odo, types⟩ := checkSplit_takeSplit_keeps (s := s') d new e
    refine ⟨_, exec_of_act h rfl rfl (doSplit_taken (s := s') stop u e home a), ?_, ?_, replied_dc_kept h kept, ?_,
      fun left => ?_, fun gone => ?_⟩
    · rw [replied_jt]
      exact phase
    · rw [replied_jt]
      exact odo
    · rw [replied_cm]
      exact types
    · obtain ⟨no, same⟩ := checkSplit_takeSplit_of_left (s := s') d new e left
      rw [replied_replies h kept, replied_jt, replied_rs, replied_cm, same, no, takeSplit_jt, Jt.setPortionState_eq,
        takeSplit_rs, takeSplit_unmarked d new]
      exact ⟨rfl, rfl, rfl, rfl⟩
    · obtain ⟨yes, same⟩ := checkSplit_takeSplit_of_gone (s := s') d new e gone
      obtain ⟨portions, slots, _, _⟩ := Jt.split_completed (j := s.jt) e
      obtain ⟨rs, list, detached, partings⟩ := completeSplit_takeSplit (s := s') d new
      rw [replied_replies h kept, replied_jt, replied_rs, replied_cm, same, yes, completeSplit_jt, takeSplit_jt, rs,
        Rs.deleteVehicles_liveBank, Rs.deleteVehicles_stagingBank]
      exact ⟨portions, slots, rfl, rfl, Rs.deleteVehicles_staging .., Rs.deleteVehicles_live .., list, detached, partings, rfl⟩

end Sys2Proof.Machine
end

section
/-! The start of a coach slot and the end of its CONTENT frame (R131, R156 to R158). -/

namespace Sys2Proof.Machine

variable {s : State} {e : Entry} {k r : BlockKind} {n : Nat} {f : ContentFrame}

/-! ## The block chosen (R131) -/

theorem choose_of_dirty (h : BlockKind.all.find? (fun x => (e.blocks.get x).valid && (e.blocks.get x).dirty) = some k) :
    choose e = (k, e.refresh) := by
  rw [choose, h]

theorem choose_of_clean (h : ∀ x ∈ BlockKind.all, ¬ ((e.blocks.get x).valid = true ∧ (e.blocks.get x).dirty = true))
    (g : e.refresh.after.find? (fun x => (e.blocks.get x).valid) = some k) : choose e = (k, k) := by
  have clean : BlockKind.all.find? (fun x => (e.blocks.get x).valid && (e.blocks.get x).dirty) = none :=
    List.find?_eq_none.mpr fun x m => by simpa using h x m
  rw [choose, clean, g]

/-- The block of R131 from the marks of the entry's blocks. -/
theorem choose_eq (h : if ∃ x ∈ BlockKind.all, (e.blocks.get x).valid = true ∧ (e.blocks.get x).dirty = true then
      BlockKind.all.find? (fun x => (e.blocks.get x).valid && (e.blocks.get x).dirty) = some k ∧ r = e.refresh
    else e.refresh.after.find? (fun x => (e.blocks.get x).valid) = some k ∧ r = k) : choose e = (k, r) := by
  split_ifs at h with dirty
  · obtain ⟨found, rfl⟩ := h
    exact choose_of_dirty found
  · obtain ⟨found, rfl⟩ := h
    exact choose_of_clean (fun x m marked => dirty ⟨x, m, marked⟩) found

/-! ## The slot start (R156, R157) -/

theorem slotStart_of_none (h : s.bc.segment.nextSlot = some n) (g : s.cm.list[n - 1]? = none) :
    slotStart s = s.setBc (s.bc.enter (.slot n)) := by
  simp only [slotStart, h, g]

theorem slotStart_of_some (h : s.bc.segment.nextSlot = some n) (g : s.cm.list[n - 1]? = some e) :
    slotStart s = beginContent n e s := by
  simp only [slotStart, h, g]

/-- The segment before slot n (R152). -/
theorem nextSlot_eq {g : CycleSegment} (h : (g = .beaconSent ∧ n = 1) ∨ (2 ≤ n ∧ n ≤ 16 ∧ g = .slotDone (n - 1))) :
    g.nextSlot = some n := by
  rcases h with ⟨rfl, rfl⟩ | ⟨low, high, rfl⟩
  · rfl
  · have before : n - 1 < 16 := by omega
    rw [CycleSegment.nextSlot, if_pos before]
    exact congrArg some (by omega)

/-- The CONTENT frame that begins for a block chosen (R157). -/
theorem beginContent_of_choose (h : choose e = (k, r)) : beginContent n e s =
    let gen := (e.blocks.get k).gen
    (updateEntry e.coach.id (fun x => { x with refresh := r }) s).setBc { s.bc.enter (.slot n) with
      frame := some { dest := e.coach.id, kind := k, gen := gen, sent := [], state := .sending, endAt := 0,
                      len := (contentPayload s e.coach.id k gen).length }
      sent := countUp s.bc.sent } := by
  rw [beginContent, h]
  rfl

/-! ## The end of the frame (R158) -/

/-- Past the end marker of a frame being sent all its payload has gone, and it is completed with its check. -/
theorem ContentFrame.sendTo_end (h : f.state = .sending) (payload : List Byte) {t : Nat} (past : 4 * (f.len + 7) ≤ t) :
    f.sendTo payload t =
      let sent := f.sent ++ (payload.drop f.sent.length).take (f.len - f.sent.length)
      { f with sent := sent, endAt := 4 * (f.len + 7)
               state := .completed (crc16 ([2, BitVec.ofNat 8 f.len] ++ sent)) } := by
  have due : min f.len (begunBy t - 4) = f.len := by
    unfold begunBy ceilDiv
    omega
  unfold ContentFrame.sendTo
  rw [if_pos h, due, if_pos past]
  rfl

theorem contentComplete_of_ended (h : s.bc.frame = some f) (ended : f.state ≠ .sending) : contentComplete s = s := by
  rw [contentComplete, h]
  exact if_neg ended

/-- The payload of one frame ends within its slot (R148, R157). -/
theorem contentComplete_of_sending (slot : s.bc.segment = .slot n) (h : s.bc.frame = some f) (sending : f.state = .sending)
    (short : f.len ≤ 208) : contentComplete s = s.setBc { s.bc with
      clock := max s.bc.clock (4 * (f.len + 7))
      frame := some (f.sendTo (contentPayload s f.dest f.kind f.gen) (max s.bc.clock (4 * (f.len + 7)))) } := by
  have within : min (4 * (f.len + 7)) s.bc.segment.length = 4 * (f.len + 7) := by
    have length : s.bc.segment.length = 2000 := by rw [slot]; rfl
    omega
  rw [contentComplete, h]
  dsimp only
  rw [if_pos sending, runTo, within, h]
  rfl

/-- What both lines have carried of a frame that is completed (R147, R149, R157). -/
theorem Bc.sends_completed {b : Bc} {check : BitVec 16} (slot : b.segment = .slot n) (h : b.frame = some f)
    (completed : f.state = .completed check) (whole : f.sent.length = f.len) (past : 4 * (f.len + 7) ≤ b.clock) (line : Line) :
    b.sends line = [.start, .data 1, .data 2, .data (BitVec.ofNat 8 f.len)] ++ f.sent.map .data
      ++ (wordBytes (crc16 ([2, BitVec.ofNat 8 f.len] ++ f.sent))).map .data ++ [.stop] := by
  have length : (downSymbols f.span).length = f.len + 7 := by
    simp [downSymbols, ContentFrame.span, u8, wordBytes, whole]
  have begun : (downSymbols f.span).length ≤ begunBy b.clock := by
    rw [length, begunBy, ceilDiv]
    omega
  rw [Bc.sends_symbols, Bc.symbols, slot, h]
  have carried : f.symbols b.clock = downSymbols f.span := by
    simp only [ContentFrame.symbols, completed, List.take_of_length_le begun]
  simp [carried, downSymbols, ContentFrame.span, u8, contentKind]

/-! ## The two events -/

/-- A slot start as an event, by the entry at the hop. -/
theorem exec_coachSlotStart (h : s.clc.ready ≠ .held) (d : s.dc.advanced = []) (g : s.bc.segment.nextSlot = some n) :
    (s.cm.list[n - 1]? = none → exec .coachSlotStart s = .next (s.setBc (s.bc.enter (.slot n))))
    ∧ ∀ e, s.cm.list[n - 1]? = some e → exec .coachSlotStart s = .next (beginContent n e s) := by
  refine ⟨fun l => congrArg Host.Outcome.next ?_, fun e l => congrArg Host.Outcome.next ?_⟩
  · have start := slotStart_of_none g l
    rw [event_eq h d (by rw [start]; exact d), start]
  · have start := slotStart_of_some g l
    rw [event_eq h d (by rw [start]; exact d), start]

/-- The end of a CONTENT frame as an event, by what it leaves. -/
theorem exec_contentFrameComplete {t : State} (h : s.clc.ready ≠ .held) (d : s.dc.advanced = []) (g : contentComplete s = t)
    (keep : t.dc = s.dc) : exec .contentFrameComplete s = .next t :=
  congrArg Host.Outcome.next ((event_eq h d (by rw [g, keep, d])).trans g)

end Sys2Proof.Machine
end

section
/-! The payload of a CONTENT frame, block by block (R26, R43, R114 to R116, R122 to R125, R140, R157, R229). -/

namespace Sys2Proof.Machine

variable {s : State} {j : Jt} {e : Entry} {p : Portion}

/-! ## Where a portion stands -/

/-- The home index, or 0 before a journey. -/
def Jt.here (j : Jt) : Nat := j.phase.index.getD 0

/-- Whether the train runs. -/
def Jt.isRunning (j : Jt) : Bool := j.phase = .running j.here

/-- The home index of the next stop, when the train runs. -/
def Jt.ahead (j : Jt) : Nat := eff j.homeStops (j.here + 1)

/-- Whether a portion has a current index (R13). -/
def Jt.aligned (j : Jt) (p : Portion) : Bool := j.phase ≠ .noJourney && j.inSpan p j.here

theorem Jt.currentIndex_of_aligned (j : Jt) (p : Portion) :
    j.currentIndex p = if j.aligned p then some (p.own j.here) else none := by
  unfold Jt.currentIndex Jt.aligned Jt.here
  cases j.phase <;> simp [Phase.index]

theorem Jt.next_of_isRunning (j : Jt) : j.next = if j.isRunning then some j.ahead else none := by
  unfold Jt.next Jt.isRunning Jt.ahead Jt.here
  cases j.phase <;> simp [Phase.index]

theorem Jt.portionNext_of_aligned (j : Jt) (p : Portion) :
    j.portionNext p = if j.aligned p && j.isRunning && j.inSpan p j.ahead then some (p.own j.ahead) else none := by
  unfold Jt.portionNext
  rw [Jt.currentIndex_of_aligned, Jt.next_of_isRunning]
  cases j.aligned p <;> cases j.isRunning <;> rfl

/-- The stop a HEADER shows (R122): the portion's own index of the next stop while running, of the stop otherwise. -/
def Jt.shownStop (j : Jt) (p : Portion) : Option Nat :=
  if !j.aligned p then none
  else if !j.isRunning then some (p.own j.here)
  else if j.inSpan p j.ahead then some (p.own j.ahead) else none

theorem headerStop_eq (s : State) (e : Entry) : headerStop s e =
    ((s.jt.portionOf e.coach.unit).bind s.jt.shownStop).map fun x => (x, if s.jt.isRunning then 2 else 1) := by
  unfold headerStop
  cases s.jt.portionOf e.coach.unit with
  | none => rfl
  | some p =>
    simp only [Option.bind_some, Jt.portionNext_of_aligned, Jt.currentIndex_of_aligned, Jt.shownStop]
    unfold Jt.isRunning Jt.aligned Jt.here
    cases s.jt.phase <;> simp [Phase.index] <;> split_ifs <;> simp_all

/-! ## The door side (R26) -/

/-- The platform side of the stop at which a portion stands or to which it comes (R26). -/
def Jt.platform (j : Jt) (p : Portion) : Side :=
  let side (i : Nat) : Side := sideOf (j.slots.get p.slot).stops (p.own i)
  if j.aligned p && j.phase = .atStop j.here then side j.here
  else match j.notice with
    | .approaching i => if j.aligned p && j.isRunning && j.inSpan p j.ahead then side i else .none
    | .arriving i => if j.aligned p && j.isRunning && j.inSpan p j.ahead then side i else .none
    | _ => .none

theorem doorSide_eq (s : State) (e : Entry) : doorSide s e =
    (((s.jt.portionOf e.coach.unit).map s.jt.platform).getD .none).mirrored (mirror s e) := by
  unfold doorSide
  refine congrArg (fun x => Side.mirrored x _) ?_
  cases s.jt.portionOf e.coach.unit with
  | none => rfl
  | some p =>
    simp only [Option.map_some, Option.getD_some, Jt.portionNext_of_aligned, Jt.currentIndex_of_aligned, Jt.platform]
    cases aligned : s.jt.aligned p
    · cases s.jt.phase <;> cases s.jt.notice <;> rfl
    · unfold Jt.isRunning Jt.here
      cases s.jt.phase <;> cases s.jt.notice <;> simp [Phase.index] <;> split_ifs <;> rfl

end Sys2Proof.Machine
end

section
/-! The notice of a HEADER, and the seats of a SEAT block (R25, R114 to R116, R140, R229). -/

namespace Sys2Proof.Machine

variable {s : State} {j : Jt} {e : Entry} {p : Portion}

/-! ## The notice of a HEADER (R140, R229) -/

/-- The four fields of a notice (R229). -/
def noticeField (kind : Nat) (urgent : Bool) (stop : Option Nat) (t : Text) : List Byte :=
  u8 kind ++ flag urgent ++ u8 (stop.getD 0xFF) ++ text t

/-- The fields of the notice handed for a portion (R25). -/
def Handed.field : Handed → List Byte
  | .approaching i => noticeField 2 false (some i) []
  | .arriving i => noticeField 3 false (some i) []
  | .atPlatform i => noticeField 4 false (some i) []
  | .advisory i d => noticeField 5 false (some i) d

/-- The fields of the host notice of a priority nearest the top of an entry's stack. -/
def Entry.hostField (e : Entry) (x : Priority) : Option (List Byte) :=
  (e.coach.notices.find? fun m => m.priority = x).map fun m => noticeField 1 (x = .urgent) none m.text

theorem nearest_notice (x : Priority) (l : List Notice) :
    (nearest x l).map Prod.snd = l.find? fun m => m.priority = x := by
  conv_rhs => rw [← List.zipIdx_map_fst 0 l, List.find?_map]
  simp only [nearest, Option.map_map]
  rfl

theorem nearest_eq_none {x : Priority} {l : List Notice} (h : nearest x l = none) :
    (l.find? fun m => m.priority = x) = none := by
  rw [← nearest_notice, h]
  rfl

theorem nearest_eq_some {x : Priority} {l : List Notice} {i : Nat} {m : Notice} (h : nearest x l = some (i, m)) :
    (l.find? fun m => m.priority = x) = some m ∧ m.priority = x := by
  have found : (l.find? fun m => m.priority = x) = some m := by
    rw [← nearest_notice, h]
    rfl
  exact ⟨found, by simpa using List.find?_some found⟩

/-- The notice by the cases of R140. -/
theorem noticeBytes_eq (s : State) (e : Entry) : noticeBytes s e =
    if e.state = .departing then noticeField 6 true none (destination s e)
    else (((e.hostField .urgent).or ((s.jt.unitHanded e.coach.unit).map Handed.field)).or (e.hostField .normal)).getD
      (noticeField 0 false none []) := by
  unfold noticeBytes chosen Entry.hostField
  split_ifs with departing
  · rfl
  · cases urgent : nearest .urgent e.coach.notices with
    | some x =>
      obtain ⟨found, top⟩ := nearest_eq_some urgent
      rw [found]
      simp [top, noticeField, index?]
    | none =>
      rw [nearest_eq_none urgent]
      cases s.jt.unitHanded e.coach.unit with
      | some x => cases x <;> rfl
      | none =>
        cases normal : nearest .normal e.coach.notices with
        | some x =>
          obtain ⟨found, top⟩ := nearest_eq_some normal
          rw [found]
          simp [top, noticeField, index?]
        | none =>
          rw [nearest_eq_none normal]
          rfl

/-- The fields a portion is handed at a home stop with a kind of notice, the parting advisory to a destination first
(R25). -/
def Jt.stopField (j : Jt) (dest : Text) (kind : Nat) (p : Portion) (i : Nat) : Option (List Byte) :=
  if !j.aligned p || !j.inSpan p i then none
  else if j.partsAt i && (p.home || p.partAt = some i) then some (noticeField 5 false (some (p.own i)) dest)
  else some (noticeField kind false (some (p.own i)) [])

/-- The fields a portion is handed by the notice state, the destination given (R24, R25). -/
def Jt.handedField (j : Jt) (dest : Text) (p : Portion) : Option (List Byte) :=
  match j.notice with
  | .none => none
  | .approaching i => j.stopField dest 2 p i
  | .arriving i => j.stopField dest 3 p i
  | .atPlatform i => j.stopField dest 4 p i

theorem Jt.handed_field (j : Jt) (p : Portion) :
    (j.handed p).map Handed.field = j.handedField (j.slots.get p.slot).dest p := by
  unfold Jt.handed Jt.handedField Jt.stopField
  rw [Jt.currentIndex_of_aligned]
  cases aligned : j.aligned p
  · cases j.notice <;> rfl
  · cases j.notice <;> simp [JourneyNotice.stop] <;> split_ifs <;> rfl

theorem unitHanded_field (s : State) (e : Entry) : (s.jt.unitHanded e.coach.unit).map Handed.field =
    (s.jt.portionOf e.coach.unit).bind (s.jt.handedField (destination s e)) := by
  unfold Jt.unitHanded destination Jt.unitRoute
  cases s.jt.portionOf e.coach.unit with
  | none => rfl
  | some p => exact Jt.handed_field s.jt p

/-! ## The seats of a SEAT block (R114, R115, R229) -/

/-- The fields of a seat at current index c, from its segments read with effective ends. -/
def seatField (stops : List Stop) (c : Nat) (l : List Segment) : List Byte :=
  let starts (g : Segment) : Nat := effClamped stops g.fromIx
  let ends (g : Segment) : Nat := effClamped stops g.toIx
  match l.find? fun g => starts g < ends g && c < ends g with
  | none => [1, 0xFF, 0, 0]
  | some g => (if c < starts g then u8 2 ++ u8 (starts g)
      else if ends g = stops.length - 1 then [4, 0xFF] else u8 3 ++ u8 (ends g)) ++ u8 g.kind.code ++ text g.label

theorem decideSeat_bytes (stops : List Stop) (c : Nat) (l : List Segment) :
    (decideSeat stops c l).bytes = seatField stops c l := by
  induction l with
  | nil => rfl
  | cons g rest ih =>
    unfold decideSeat seatField
    simp only [List.find?_cons]
    by_cases empty : effClamped stops g.toIx ≤ effClamped stops g.fromIx
    · simp only [empty, not_lt.mpr empty, if_true, decide_false, Bool.false_and]
      exact ih
    · by_cases past : effClamped stops g.toIx ≤ c
      · simp only [empty, not_lt.mpr past, if_false, decide_false, Bool.and_false]
        exact ih
      · simp only [empty, not_le.mp empty, not_le.mp past, if_true, if_false, decide_true, Bool.and_true]
        by_cases taken : effClamped stops g.fromIx ≤ c
        · simp only [taken, not_lt.mpr taken, if_true, if_false]
          split_ifs <;> rfl
        · simp only [taken, not_le.mp taken, if_true, if_false]
          rfl

/-- The fields of a seat by its entry's portion and live record (R114, R116). -/
theorem seatState_bytes (s : State) (bank : List Vehicle) (e : Entry) (q : Nat) : (seatState s bank e q).bytes =
    match s.jt.portionOf e.coach.unit, vehicleIn bank e.coach.id with
    | some p, some v =>
      if v.slot ≠ p.slot ∨ v.type ≠ e.coach.type then [0, 0xFF, 0, 0]
      else if s.jt.phase = .terminated s.jt.here then [1, 0xFF, 0, 0]
      else if !s.jt.aligned p then [0, 0xFF, 0, 0]
      else seatField (s.jt.slots.get p.slot).stops (p.own s.jt.here) ((v.seats[q]?).getD [])
    | _, _ => [0, 0xFF, 0, 0] := by
  unfold seatState agreement agreementWith Jt.unitIndex
  cases s.jt.portionOf e.coach.unit with
  | none => rfl
  | some p =>
    cases vehicleIn bank e.coach.id with
    | none => rfl
    | some v =>
      dsimp only
      by_cases slot : v.slot = p.slot
      · by_cases type : v.type = e.coach.type
        · simp only [slot, type, ne_eq, not_true, or_self, if_false, Option.bind_some, Jt.currentIndex_of_aligned,
            ← decideSeat_bytes]
          unfold Jt.here
          cases s.jt.aligned p <;> cases s.jt.phase <;> simp [Phase.index, slot] <;> rfl
        · simp [slot, type]
          rfl
      · simp [slot]
        rfl

end Sys2Proof.Machine
end

section
/-! The blocks as CONTENT payloads, and the obligation about the coach slot's frame (R122 to R125, R157, R228, R229). -/

namespace Sys2Proof.Machine

variable {s : State} {e : Entry} {p : Portion} {gen : Nat}

/-! ## The payload of an entry of the list (R157, R228) -/

theorem Cm.Distinct.entryOf_eq {m : Cm} (h : m.Distinct) (k : e ∈ m.list) : m.entryOf e.coach.id = some e := by
  have found : (m.entryOf e.coach.id).isSome = true := List.find?_isSome.mpr ⟨e, k, by simp⟩
  obtain ⟨d, g⟩ := Option.isSome_iff_exists.mp found
  have same : d.coach.id = e.coach.id := by simpa using List.find?_some g
  rw [g, List.inj_on_of_nodup_map h (List.mem_of_find?_eq_some g) k same]

theorem contentPayload_of_mem (h : s.cm.Distinct) (m : e ∈ s.cm.list) (k : BlockKind) (gen : Nat) :
    contentPayload s e.coach.id k gen = u32 e.coach.id ++ u8 k.code ++ u8 gen ++ blockBytes s e k := by
  rw [contentPayload, h.entryOf_eq m]

/-! ## HEADER (R122) -/

theorem destination_eq (s : State) (e : Entry) :
    destination s e = ((s.jt.portionOf e.coach.unit).map fun p => (s.jt.slots.get p.slot).dest).getD [] := by
  rw [destination, Jt.unitRoute, Option.map_map]
  rfl

theorem headerBytes_eq (s : State) (e : Entry) : headerBytes s e =
    let stop := (s.jt.portionOf e.coach.unit).bind s.jt.shownStop
    u16 e.coach.number ++ text (destination s e) ++ u8 (stop.getD 0xFF)
      ++ u8 (if stop.isNone then 0 else if s.jt.isRunning then 2 else 1)
      ++ u8 (if stop.isNone then 0xFF else s.jt.odo.etaMin)
      ++ u16 (if stop.isSome && s.jt.timeValid then s.jt.odo.clock.getD 0xFFFF else 0xFFFF)
      ++ u8 (doorSide s e).code ++ noticeBytes s e := by
  have clock (b : Bool) : wide? (if b then s.jt.odo.clock else none) = u16 (if b then s.jt.odo.clock.getD 0xFFFF else 0xFFFF) := by
    cases b <;> rfl
  unfold headerBytes
  dsimp only
  rw [headerStop_eq, clock]
  cases (s.jt.portionOf e.coach.unit).bind s.jt.shownStop <;> rfl

/-! ## NAMES and MAP (R123, R125) -/

theorem namesBytes_eq (h : s.jt.portionOf e.coach.unit = some p) (k : Nat) : namesBytes s e k =
    let stops := (s.jt.slots.get p.slot).stops
    u8 k ++ u8 stops.length ++ ((stops.drop (8 * k)).take 8).flatMap fun x => flag x.cancelled ++ text x.name := by
  rw [namesBytes, Jt.unitRoute, h]
  rfl

theorem mapBytes_eq (h : s.jt.portionOf e.coach.unit = some p) : mapBytes s e =
    let stops := (s.jt.slots.get p.slot).stops
    let place (x : Nat) : Nat := if mirror s e then 1023 - x else x
    u8 stops.length ++ u8 (if s.jt.aligned p then p.own s.jt.here else 0xFF)
      ++ u16 (if s.jt.aligned p then (p.pos.map place).getD 0xFFFF else 0xFFFF)
      ++ stops.flatMap fun x => u16 (place x.column) ++ flag x.cancelled := by
  unfold mapBytes
  rw [Jt.unitRoute, Jt.unitIndex, h]
  simp only [Option.bind_some, Jt.currentIndex_of_aligned]
  cases s.jt.aligned p <;> rfl

/-! ## SEAT (R124) -/

theorem seatBytes_eq {x : TypeRecord} (h : s.cm.types.find? (fun t => t.code = e.coach.type) = some x) (k : Nat) :
    seatBytes s e k =
      let here := min 16 (x.seats - 16 * k)
      u8 k ++ u8 here ++ (List.range here).flatMap fun i => (seatState s s.rs.liveBank e (16 * k + i)).bytes := by
  rw [seatBytes, Cm.typeOf, h]
  rfl

theorem blockBytes_names (s : State) (e : Entry) {k : Nat} (h : k < 5) :
    blockBytes s e (.names k) = namesBytes s e k ∧ (BlockKind.names k).code = 2 + k := by
  interval_cases k <;> exact ⟨rfl, rfl⟩

theorem blockBytes_seat (s : State) (e : Entry) {k : Nat} (h : k < 6) :
    blockBytes s e (.seat k) = seatBytes s e k ∧ (BlockKind.seat k).code = 7 + k := by
  interval_cases k <;> exact ⟨rfl, rfl⟩

/-! ## The obligation -/

/-- The first part of O50: a slot start by the entry at the hop and the block it chooses. -/
theorem slotStart_sends {n : Nat} (ready : s.clc.ready ≠ .held) (still : s.dc.advanced = [])
    (before : (s.bc.segment = .beaconSent ∧ n = 1) ∨ (2 ≤ n ∧ n ≤ 16 ∧ s.bc.segment = .slotDone (n - 1))) :
    (s.cm.list[n - 1]? = none → exec .coachSlotStart s = .next (s.setBc (s.bc.enter (.slot n))))
    ∧ ∀ e k r, s.cm.list[n - 1]? = some e → choose e = (k, r) →
      let gen := (e.blocks.get k).gen
      exec .coachSlotStart s = .next ((updateEntry e.coach.id (fun x => { x with refresh := r }) s).setBc
        { s.bc.enter (.slot n) with
          frame := some { dest := e.coach.id, kind := k, gen := gen, sent := [], state := .sending, endAt := 0,
                          len := (contentPayload s e.coach.id k gen).length }
          sent := countUp s.bc.sent }) := by
  obtain ⟨silent, sends⟩ := exec_coachSlotStart ready still (nextSlot_eq before)
  exact ⟨silent, fun e k r l c => (sends e l).trans (congrArg Host.Outcome.next (beginContent_of_choose c))⟩

/-- Settles O50: the slot start by the block chosen, the frame's end by what is due, the payload block by block. -/
theorem slotStartSendsTheChosenBlock : Obligations.SlotStartSendsTheChosenBlock := by
  unfold Obligations.SlotStartSendsTheChosenBlock
  refine ⟨fun n s ready still before => ?_, fun n f s ready still slot frame => ⟨fun ended => ?_, fun sending short => ?_⟩,
    fun gen e s ok m => ?_⟩
  · obtain ⟨silent, sends⟩ := slotStart_sends ready still before
    exact ⟨silent, fun e k r l c => sends e k r l (choose_eq c)⟩
  · exact exec_contentFrameComplete ready still (contentComplete_of_ended frame ended) rfl
  · have past : 4 * (f.len + 7) ≤ max s.bc.clock (4 * (f.len + 7)) := le_max_right ..
    have complete := contentComplete_of_sending slot frame sending short
    rw [f.sendTo_end sending _ past] at complete
    intro sent check b
    exact ⟨exec_contentFrameComplete ready still complete rfl, fun whole line =>
      Bc.sends_completed (b := b) slot rfl rfl whole past line⟩
  · have distinct : s.cm.Distinct := .of_consistOk ok
    have payload (k : BlockKind) := contentPayload_of_mem distinct m k gen
    intro begins content portion stops own last span c running aligned n stop side platform mirrored door dest field parts
      journey handed host notice seat place
    refine ⟨?_, fun p h => ⟨fun k l => ?_, ?_⟩, fun x h k l => ?_⟩
    · have header := (payload .header).trans (congrArg (_ ++ ·) (headerBytes_eq s e))
      rw [doorSide_eq, noticeBytes_eq, unitHanded_field, destination_eq] at header
      simp only [← List.append_assoc] at header
      exact header
    · obtain ⟨block, code⟩ := blockBytes_names s e l
      have names := payload (.names k)
      rw [block, code, namesBytes_eq h, ← List.append_assoc, ← List.append_assoc] at names
      exact names
    · have map := (payload .map).trans (congrArg (_ ++ ·) (mapBytes_eq h))
      simp only [← List.append_assoc] at map
      exact map
    · obtain ⟨block, code⟩ := blockBytes_seat s e l
      have seats := payload (.seat k)
      rw [block, code, seatBytes_eq h] at seats
      simp only [← List.append_assoc, seatState_bytes] at seats
      exact seats

end Sys2Proof.Machine
end

section
/-! READ JOURNEY, READ ROUTE and CONFIGURE ODOMETER (R7, R30, R50, R51). -/

namespace Sys2Proof.Machine

variable {s : State} {tag : Nat} {r : ResultCode} {data : List Byte}

/-! ## READ JOURNEY and READ ROUTE -/

/-- READ ROUTE on a free controller: the checks of R7 in their order, then the records. -/
theorem exec_readRoute {slot first count : Nat} (h : Free s) :
    exec (.readRoute tag slot first count) s = .next (
      let reply := answered 0x14 tag (some (.readRoute tag slot first count))
      let route := s.jt.slots.get slot
      if 3 < slot ∨ count = 0 ∨ 6 < count then reply .badField [] s
      else if route.state = .empty then reply .notFound [] s
      else if route.stops.length ≤ first ∧ ¬ (route.state = .edit ∧ route.stops.length = 0 ∧ first = 0) then
        reply .outOfRange [] s
      else reply .done (u8 route.state.code ++ u16 route.code ++ text route.dest ++ u8 route.stops.length
        ++ counted Stop.bytes ((route.stops.drop first).take count)) s) := by
  have act_eq (q : List Queued) :
      act (.readRoute tag slot first count) (s.withQueue q) = doReadRoute slot first count (s.withQueue q) := rfl
  have bad : (decide (3 < slot) || decide (count = 0) || decide (6 < count)) = true ↔ 3 < slot ∨ count = 0 ∨ 6 < count := by
    simp [or_assoc]
  have beyond (route : RouteSlot) :
      (decide (route.stops.length ≤ first) && !(decide (route.state = .edit) && decide (route.stops = []) && decide (first = 0)))
          = true
        ↔ route.stops.length ≤ first ∧ ¬ (route.state = .edit ∧ route.stops.length = 0 ∧ first = 0) := by
    simp only [Bool.and_eq_true, Bool.not_eq_true', ← Bool.not_eq_true, decide_eq_true_eq, List.length_eq_zero_iff, and_assoc]
  dsimp only
  split
  · exact exec_refused h rfl rfl fun q => (act_eq q).trans (if_pos (bad.mpr ‹_›))
  · have named (q : List Queued) := (act_eq q).trans (if_neg (bad.not.mpr ‹_›))
    split
    · exact exec_refused h rfl rfl fun q => (named q).trans (if_pos ‹_›)
    · have loaded (q : List Queued) := (named q).trans (if_neg ‹_›)
      split
      · exact exec_refused h rfl rfl fun q => (loaded q).trans (if_pos ((beyond _).mpr ‹_›))
      · exact exec_done_jt (j := s.jt) h rfl rfl fun q => (loaded q).trans (if_neg ((beyond _).not.mpr ‹_›))

/-- Settles O32: the one reply of READ JOURNEY, and the checks of READ ROUTE in the order of R7. -/
theorem readJourneyAndReadRouteCarryTheirReplies : Obligations.ReadJourneyAndReadRouteCarryTheirReplies := by
  unfold Obligations.ReadJourneyAndReadRouteCarryTheirReplies
  exact ⟨fun tag s h => exec_done_jt h rfl rfl fun q => rfl, fun tag slot first count s h => exec_readRoute h⟩

/-! ## CONFIGURE ODOMETER -/

/-- Whether a value lies outside its range, given with its bounds as (low, high, value) (R29). -/
def outside (x : Nat × Nat × Nat) : Bool := x.2.2 < x.1 || x.2.1 < x.2.2

/-- The eight parameters in the order of R29, each with its bounds. -/
def rangesOf (p : OdoConfig) : List (Nat × Nat × Nat) :=
  [(1000, 60000, p.pulseLen), (1, 6, p.shift), (100, 5000, p.vmin), (20, 500, p.creep), (1, 50, p.correction),
   (10, 5000, p.offset), (500, 50000, p.minLeg), (1, 15, p.skipLimit)]

/-- The position that BAD_FIELD carries is that of the first parameter outside its range, counted from 1 (R30). -/
theorem configFault_eq_findIdx (p : OdoConfig) : configFault p = ((rangesOf p).findIdx? outside).map (· + 1) := by
  have out (lo hi v : Nat) : (!(decide (lo ≤ v) && decide (v ≤ hi))) = outside (lo, hi, v) := by
    simp only [outside, Bool.not_and, ← decide_not, not_le]
  simp only [configFault, out, rangesOf, List.findIdx?_cons, List.findIdx?_nil, apply_ite (Option.map _), Option.map_map]
  rfl

/-- The Journey Tracker with all eight parameters replaced (R30). -/
def Jt.configured (j : Jt) (p : OdoConfig) : Jt :=
  { j with config := p, odo := { j.odo with skips := if p.pulseLen ≠ j.config.pulseLen then 0 else min j.odo.skips p.skipLimit } }

/-- The new skip limit is reached with the pulse length unchanged, and the old one was not (R30). -/
def Jt.StaleBy (j : Jt) (p : OdoConfig) : Prop :=
  p.pulseLen = j.config.pulseLen ∧ p.skipLimit ≤ j.odo.skips ∧ j.odo.skips < j.config.skipLimit

theorem doConfigureOdometer_stale {p : OdoConfig} (ok : configFault p = none) (h : s.jt.StaleBy p) :
    doConfigureOdometer p s = done (goStale (s.setJt (s.jt.configured p))) [] := by
  obtain ⟨same, reached, fresh⟩ := h
  rw [doConfigureOdometer, ok]
  simp [same, reached, fresh, Jt.configured, setOdo, State.setJt]

theorem doConfigureOdometer_quiet {p : OdoConfig} (ok : configFault p = none) (h : ¬ s.jt.StaleBy p) :
    doConfigureOdometer p s = done (s.setJt (s.jt.configured p)) [] := by
  rw [doConfigureOdometer, ok]
  dsimp only
  split_ifs with changed reached fresh
  · simp [Jt.configured, changed, setOdo, State.setJt]
  · exact absurd ⟨not_not.mp changed, reached, fresh⟩ h
  · simp [Jt.configured, changed, reached, setOdo, State.setJt]
  · simp [Jt.configured, changed, (not_le.mp reached).le, State.setJt]

/-- The reply built leaves the alarm flags (R204). -/
@[simp] theorem replied_alarms (u : State) : (replied r data u).clc.alarms = u.clc.alarms := by
  unfold replied finishHead
  split
  · split <;> simp [addReply]
  · rfl

/-- A report raised leaves CALIBRATION_STALE: of the flags it may set OVERFLOW (R215). -/
@[simp] theorem raise_stale (cls : ReportClass) (code subject : Nat) (data : List Byte) (s : State) :
    (raise cls code subject data s).clc.alarms.stale = s.clc.alarms.stale := by
  simp only [raise, State.setClc_clc, Clc.transmit_alarms]
  unfold Clc.enqueue
  split_ifs <;> rfl

@[simp] theorem goStale_stale (s : State) : (goStale s).clc.alarms.stale = true := raise_stale ..

/-- Settles O30: the first parameter outside its range, otherwise the replacement with or without CALIBRATION_STALE. -/
theorem configureOdometerReplacesAllOrNone : Obligations.ConfigureOdometerReplacesAllOrNone := by
  unfold Obligations.ConfigureOdometerReplacesAllOrNone
  intro tag p s h ranges bad old skips after stale
  have fault := configFault_eq_findIdx p
  have scan : ranges.findIdx? bad = (rangesOf p).findIdx? outside := rfl
  rw [scan]
  cases found : (rangesOf p).findIdx? outside with
  | some i =>
    rw [found] at fault
    exact exec_refused h rfl rfl fun q => by
      show doConfigureOdometer p _ = _
      rw [doConfigureOdometer, fault]
      rfl
  | none =>
    rw [found] at fault
    by_cases reached : s.jt.StaleBy p
    · have a := doConfigureOdometer_stale (s := handling 0x1D tag (some (.configureOdometer tag p)) s) fault reached
      have k := (kept_setJt (handling 0x1D tag (some (.configureOdometer tag p)) s) (s.jt.configured p)).trans
        (kept_goStale _)
      exact ⟨_, exec_of_act h rfl rfl a, replied_jt, replied_cm, replied_rs, replied_dc_kept h k, replied_bc, replied_sup,
        replied_replies h k, fun _ => by rw [replied_alarms, goStale_stale], fun not => absurd reached not⟩
    · exact ⟨_, exec_done_jt (j := s.jt.configured p) h rfl rfl fun q =>
        doConfigureOdometer_quiet (s := s.withQueue q) fault reached, rfl, rfl, rfl,
        (Kept.refl s).dc_emptied h.2.2.2.2, rfl, rfl, rfl, fun now => absurd now reached, fun _ => rfl⟩

end Sys2Proof.Machine
end

section
/-! POSITION FIX (R41, R42, R44, R49). -/

namespace Sys2Proof.Machine

variable {s : State} {kind tag x : Nat} {c : Option Instr} {r : ResultCode} {data : List Byte}

/-- The new D is the capped X when that is within the limit of D, otherwise D moved toward it by the limit (R49). -/
theorem fixDistance_eq (dist x limit : Nat) :
    fixDistance dist x limit =
      let X := min Config.maxDist x
      let near := (if dist ≤ X then X - dist else dist - X) ≤ limit
      (if near then X else if dist ≤ X then dist + limit else dist - limit, decide ¬ near) := by
  unfold fixDistance
  dsimp only
  by_cases up : dist ≤ min Config.maxDist x
  · by_cases near : min Config.maxDist x - dist ≤ limit <;> simp [up, near]
  · by_cases near : dist - min Config.maxDist x ≤ limit <;> simp [up, near]

/-- Forming positions leaves the request queue out of account. -/
theorem formPositions_withQueue (s : State) (q : List Queued) : formPositions (s.withQueue q) = (formPositions s).withQueue q :=
  markBlocks_withQueue (s := s.setJt s.jt.positioned) _ q

/-- The first event of a command that forms positions, as the command leaves it: the valid MAP blocks of the coaches whose
portion's position changes are marked, and the frame in flight of one of them is aborted (R44, R126, R159). -/
theorem formPositions_first (h : s.dc.advanced = []) :
    let moved (e : Entry) (k : BlockKind) : Bool :=
      k = .map && decide (s.jt.handedPos e.coach.unit ≠ s.jt.positioned.handedPos e.coach.unit)
    (formPositions s).setDc { (formPositions s).dc with advanced := [] }
      = abortIf (fun d k => s.cm.list.any fun e => e.coach.id = d && (e.blocks.get k).valid && moved e k)
          ((s.setJt s.jt.positioned).setCm (s.cm.marked moved)) :=
  markBlocks_first _ (s.setJt s.jt.positioned) h

/-- What an answer leaves does not depend on the blocks its command has advanced (log entry 18). -/
theorem answered_emptied (t : State) :
    answered kind tag c r data (t.setDc { t.dc with advanced := [] }) = answered kind tag c r data t := rfl

/-- The Journey Tracker with D moved by a position fix, before pos is formed (R49). -/
def Jt.fixedTo (j : Jt) (f : Nat × Bool) : Jt :=
  { j with odo := { j.odo with dist := f.1, rem := 0, tainted := true, fixLimited := j.odo.fixLimited || f.2 } }

theorem doPositionFix_running {n : Nat} (p : s.jt.phase = .running n) :
    doPositionFix x s =
      let f := fixDistance s.jt.odo.dist x s.jt.config.offset
      done (formPositions (s.setJt (s.jt.fixedTo f))) (u32 f.1 ++ flag f.2) := by
  rw [doPositionFix, p]
  rfl

theorem doPositionFix_not_running (p : ∀ n, s.jt.phase ≠ .running n) : doPositionFix x s = refuse s .wrongState := by
  unfold doPositionFix
  split
  · next e => exact absurd e (p _)
  · rfl

/-- POSITION FIX on a free controller in RUNNING (R49). -/
theorem exec_positionFix {n : Nat} (h : Free s) (p : s.jt.phase = .running n) :
    exec (.positionFix tag x) s = .next (
      let f := fixDistance s.jt.odo.dist x s.jt.config.offset
      let shown := (s.jt.fixedTo f).positioned
      let moved (e : Entry) (k : BlockKind) : Bool :=
        k = .map && decide (s.jt.handedPos e.coach.unit ≠ shown.handedPos e.coach.unit)
      answered 0x1E tag (some (.positionFix tag x)) .done (u32 f.1 ++ flag f.2)
        (abortIf (fun d k => s.cm.list.any fun e => e.coach.id = d && (e.blocks.get k).valid && moved e k)
          ((s.setJt shown).setCm (s.cm.marked moved)))) := by
  let f := fixDistance s.jt.odo.dist x s.jt.config.offset
  have a (q : List Queued) : act (.positionFix tag x) (s.withQueue q)
      = .now ((formPositions (s.setJt (s.jt.fixedTo f))).withQueue q) .done (u32 f.1 ++ flag f.2) :=
    (doPositionFix_running (s := s.withQueue q) p).trans (by rw [← formPositions_withQueue]; rfl)
  have k := (kept_setJt s (s.jt.fixedTo f)).trans (kept_formPositions _)
  rw [exec_now h rfl rfl a (k.ready.trans h.1) (k.replies.trans h.2.2.1), ← answered_emptied,
    formPositions_first (s := s.setJt (s.jt.fixedTo f)) h.2.2.2.2]
  rfl

/-- Settles O31: the fix in RUNNING with the marks of the positions that change, and its refusal in any other phase. -/
theorem positionFixMovesTheDistance : Obligations.PositionFixMovesTheDistance := by
  unfold Obligations.PositionFixMovesTheDistance
  intro tag x s h
  refine ⟨fun n p => ?_, fun p => exec_refused h rfl rfl fun q => doPositionFix_not_running (s := s.withQueue q) p⟩
  rw [exec_positionFix h p, fixDistance_eq]
  rfl

end Sys2Proof.Machine
end

section
/-! What a window makes of D, rem and v, and a pulse (R32, R34 to R37). -/

namespace Sys2Proof.Machine

/-! ## Distance -/

/-- D advances in a window: at a stop before the departure is implied, and while RUNNING (R34). -/
def Phase.moving : Phase → Bool
  | .noJourney => false | .atStop _ => true | .running _ => true | .terminated _ => false

theorem Phase.moving_iff (p : Phase) : p.moving = true ↔ (∃ c, p = .atStop c) ∨ ∃ c, p = .running c := by
  cases p <;> simp [Phase.moving]

/-- The odometer after a window's pulses have been counted, in a phase that moves or not, at a pulse length (R32, R34, R35). -/
def Odometer.advanced (o : Odometer) (moving : Bool) (len : Nat) : Odometer :=
  let total := o.rem + o.pulses * len
  let full := moving && decide (Config.maxDist < o.dist + total / 1000000)
  { o with
    dist := if !moving then o.dist else if full then Config.maxDist else o.dist + total / 1000000
    rem := if !moving then o.rem else if full then 0 else total % 1000000
    pulses := 0
    pulseSat := o.pulseSat || decide (4095 ≤ o.pulses)
    distSat := o.distSat || full }

/-- The distance step of a window, exactly (R33). -/
theorem windowDistance_jt_eq (s : State) : (windowDistance s.jt.odo.pulses s).jt =
    { s.jt with odo := s.jt.odo.advanced s.jt.phase.moving s.jt.config.pulseLen } := by
  unfold windowDistance
  dsimp only
  rw [apply_ite State.jt, raise_jt, ite_self, setOdo_jt]
  rcases s.jt with ⟨_, _, _ | _ | _ | _, _⟩ <;> rfl

/-- D and rem take the whole metres and the rest of the total, up to 999,999 m (R34, R35). -/
theorem Odometer.advanced_cases (o : Odometer) (moving : Bool) (len : Nat) :
    let total := o.rem + o.pulses * len
    let full := 999999 < o.dist + total / 1000000
    let a := o.advanced moving len
    (moving = true → ¬ full → a.dist = o.dist + total / 1000000 ∧ a.rem = total % 1000000 ∧ a.distSat = o.distSat)
    ∧ (moving = true → full → a.dist = 999999 ∧ a.rem = 0 ∧ a.distSat = true)
    ∧ (¬ moving = true → a.dist = o.dist ∧ a.rem = o.rem ∧ a.distSat = o.distSat) := by
  intro total full a
  refine ⟨fun m f => ?_, fun m f => ?_, fun m => ?_⟩
  · have below : ¬ 999999 < o.dist + (o.rem + o.pulses * len) / 1000000 := f
    simp [a, Odometer.advanced, Config.maxDist, m, below, total]
  · have above : 999999 < o.dist + (o.rem + o.pulses * len) / 1000000 := f
    simp [a, Odometer.advanced, Config.maxDist, m, above]
  · simp [a, Odometer.advanced, m]

/-! ## Speed -/

/-- The difference between the speed and a sample (R37). -/
def speedGap (v sample : Nat) : Nat := if v ≤ sample then sample - v else v - sample

/-- A filter step takes a near sample, and otherwise goes toward it by a part of the difference (R37). -/
theorem filterStep_eq (k v sample : Nat) : filterStep k v sample =
    if speedGap v sample < 2 ^ k then sample
    else if v ≤ sample then v + speedGap v sample / 2 ^ k else v - speedGap v sample / 2 ^ k := by
  unfold filterStep speedGap
  split_ifs <;> rfl

/-- A filter step stays between the speed and the sample (R37). -/
theorem filterStep_between (k v sample : Nat) : min v sample ≤ filterStep k v sample ∧ filterStep k v sample ≤ max v sample := by
  have less := Nat.div_le_self (speedGap v sample) (2 ^ k)
  rw [filterStep_eq]
  generalize speedGap v sample / 2 ^ k = part at *
  unfold speedGap at *
  split_ifs at * <;> omega

/-! ## The window as a whole -/

/-- The odometer that steps 1 and 2 of a window leave (R33). -/
theorem windowMoved_odo (s : State) : (windowMoved s).jt = { s.jt with
    odo := { s.jt.odo.advanced s.jt.phase.moving s.jt.config.pulseLen with
      speed := filterStep s.jt.config.shift s.jt.odo.speed (speedSample s.jt.odo.pulses s.jt.config.pulseLen) } } := by
  rw [windowMoved, windowSpeed_jt, windowDistance_jt_eq]
  rfl

/-- Two journeys with the same routes and parameters, whose odometers agree but for the figures formed and the taint. -/
structure Jt.SameCounters (j k : Jt) : Prop where
  slots : k.slots = j.slots
  config : k.config = j.config
  dist : k.odo.dist = j.odo.dist
  rem : k.odo.rem = j.odo.rem
  speed : k.odo.speed = j.odo.speed
  skips : k.odo.skips = j.odo.skips
  pulses : k.odo.pulses = j.odo.pulses
  pulseSat : k.odo.pulseSat = j.odo.pulseSat
  distSat : k.odo.distSat = j.odo.distSat

/-- The evaluation of a window moves no counter (R33). -/
theorem Jt.SameCounters.evaluated {j k : Jt} (h : j.SameCounters k) : j.SameCounters k.evaluated := by
  obtain ⟨slots, config, dist, rem, speed, skips, pulses, pulseSat, distSat⟩ := h
  have e := evaluateEta_eq k
  exact ⟨slots, config, (congrArg Odometer.dist e).trans dist, (congrArg Odometer.rem e).trans rem,
    (congrArg Odometer.speed e).trans speed, (congrArg Odometer.skips e).trans skips,
    (congrArg Odometer.pulses e).trans pulses, (congrArg Odometer.pulseSat e).trans pulseSat,
    (congrArg Odometer.distSat e).trans distSat⟩

/-- An implied departure keeps the distance and moves no counter (R20, R45). -/
theorem windowDeparture_counters (s : State) : s.jt.SameCounters (windowDeparture s).jt := by
  by_cases d : ∃ c, s.jt.phase = .atStop c ∧ s.jt.config.creep < s.jt.odo.dist
  · obtain ⟨c, p, far⟩ := d
    obtain ⟨back, jt⟩ := windowDeparture_jt p far
    rw [jt]
    exact ⟨rfl, rfl, rfl, rfl, rfl, rfl, rfl, rfl, rfl⟩
  · rw [windowDeparture_of_not fun c p => not_lt.mp fun far => d ⟨c, p, far⟩]
    exact ⟨rfl, rfl, rfl, rfl, rfl, rfl, rfl, rfl, rfl⟩

/-- Steps 3 to 6 of a window move no counter (R33). -/
theorem windowExpiry_counters (s : State) : (windowMoved s).jt.SameCounters (windowExpiry s).jt := by
  rw [windowExpiry_moved_jt]
  exact (windowDeparture_counters _).evaluated

/-- A pulse is counted up to 4,095 (R32). -/
theorem pulse_eq (s : State) : pulse s = s.setJt { s.jt with
    odo := { s.jt.odo with pulses := if s.jt.odo.pulses < 4095 then s.jt.odo.pulses + 1 else 4095 } } := by
  have count : min 4095 (s.jt.odo.pulses + 1) = if s.jt.odo.pulses < 4095 then s.jt.odo.pulses + 1 else 4095 := by
    split <;> omega
  rw [← count]
  rfl

/-- Settles O33: a pulse, then a window by its distance step, its filter step and what the later steps keep. -/
theorem windowAdvancesDistanceAndSpeed : Obligations.WindowAdvancesDistanceAndSpeed := by
  unfold Obligations.WindowAdvancesDistanceAndSpeed
  refine ⟨fun s r d => ?_, fun s r d => ?_⟩
  · exact congrArg Host.Outcome.next ((event_eq (f := pulse) r d d).trans (pulse_eq s))
  · intro o L k total moving full sample gap
    refine ⟨_, congrArg Host.Outcome.next (event_running (f := windowExpiry) r d), ?_⟩
    obtain ⟨slots, config, dist, rem, speed, skips, pulses, pulseSat, distSat⟩ := windowExpiry_counters s
    rw [windowMoved_odo] at slots config dist rem speed skips pulses pulseSat distSat
    rw [State.setDc_jt, slots, config, dist, rem, speed, skips, pulses, pulseSat, distSat]
    obtain ⟨advances, saturates, stays⟩ := Odometer.advanced_cases s.jt.odo s.jt.phase.moving s.jt.config.pulseLen
    obtain ⟨low, high⟩ := filterStep_between s.jt.config.shift s.jt.odo.speed sample
    have step := filterStep_eq s.jt.config.shift s.jt.odo.speed sample
    have moves : s.jt.phase.moving = true ↔ moving := s.jt.phase.moving_iff
    rw [moves] at advances saturates stays
    exact ⟨advances, saturates, stays, fun near => step.trans (if_pos near), fun far => step.trans (if_neg (not_lt.mpr far)),
      low, high, rfl, rfl, rfl, rfl, rfl⟩

end Sys2Proof.Machine
end

section
/-! The end of a leg at an arrival: calibrated or skipped (R46 to R48). -/

namespace Sys2Proof.Machine

variable {s : State} {code n m : Nat}

/-! ## The end of a leg -/

/-- The pulse length of R46 and R47 for a leg that has been used. -/
def Jt.calibratedLen (j : Jt) : Nat :=
  let lim := j.config.pulseLen * j.config.correction / 1000
  clampPulse (limited j.config.pulseLen lim (corrected j.config.pulseLen j.legEff j.odo.dist))

/-- Whether the leg that an arrival at stop m ends is used for calibration (R46). -/
def Jt.CalibratesAt (j : Jt) (m : Nat) : Prop :=
  j.next = some m ∧ j.odo.tainted = false ∧ j.config.minLeg ≤ j.legEff ∧ j.legEff ≤ 2 * j.odo.dist

/-- The test that the end of a leg makes is that of R46. -/
theorem Jt.calibratesAt_iff (j : Jt) (m : Nat) :
    (decide (j.next = some m) && !j.odo.tainted && legUsable j.config j.legEff j.odo.dist) = true ↔ j.CalibratesAt m := by
  simp only [legUsable, Jt.CalibratesAt, Bool.and_eq_true, decide_eq_true_eq, Bool.not_eq_true', and_assoc]

/-- A leg that is used sets the pulse length and empties the skip counter (R46, R47). -/
theorem endLeg_jt_of_calibrates (h : s.jt.CalibratesAt m) : (endLeg (decide (s.jt.next = some m)) s).jt =
    { s.jt with config := { s.jt.config with pulseLen := s.jt.calibratedLen }, odo := { s.jt.odo with skips := 0 } } := by
  rw [endLeg, if_pos ((s.jt.calibratesAt_iff m).mpr h), calibrate]
  dsimp only
  rw [apply_ite State.jt, raise_jt, ite_self]
  rfl

/-- A leg that is not used is skipped (R48). -/
theorem endLeg_of_not_calibrates (h : ¬ s.jt.CalibratesAt m) : endLeg (decide (s.jt.next = some m)) s = skip s :=
  if_neg ((s.jt.calibratesAt_iff m).not.mpr h)

/-- The skip that reaches the limit sets CALIBRATION_STALE (R48). -/
theorem skip_stale (h : s.jt.odo.skips + 1 = s.jt.config.skipLimit) : (skip s).clc.alarms.stale = true := by
  unfold skip
  dsimp only
  split_ifs with below reached
  · exact goStale_stale _
  · exact absurd h reached
  · omega

/-! ## The alarm flag through the rest of an arrival -/

@[simp] theorem arrivalEvent_stale (k : Nat) (s : State) : (arrivalEvent k s).clc.alarms.stale = s.clc.alarms.stale := by
  unfold arrivalEvent reportPassed
  rw [foldl_keeps (fun t => t.clc.alarms.stale) fun t p => raise_stale ..]
  simp [expireNotices]

/-- After the end of the leg an arrival leaves CALIBRATION_STALE (R22, R23). -/
theorem doArrived_stale (p : s.jt.phase = .running n) (a : arrivalStop s.jt.homeStops n code = some m) :
    (doArrived code s).state.clc.alarms.stale = (endLeg (decide (s.jt.next = some m)) s).clc.alarms.stale := by
  rw [doArrived, p]
  dsimp only
  rw [a]
  dsimp only [done_state]
  rw [arrivalEvent_stale, apply_ite (fun t : State => t.clc.alarms.stale), raise_stale, ite_self, formFigures_clc, setNotice_clc]
  rfl

/-- Settles O27: the arrival taken as in O26, its leg calibrated when it is used and skipped when it is not. -/
theorem arrivalCalibratesOrSkips : Obligations.ArrivalCalibratesOrSkips := by
  unfold Obligations.ArrivalCalibratesOrSkips
  intro tag code n m q s h p l g served e first L S D lim L' value used
  let begun := handling 0x1A tag (some (.arrived tag code)) s
  have a : arrivalStop s.jt.homeStops n code = some m := arrivalStop_eq_some l g served e first
  obtain ⟨t, d, jt, -, -⟩ := doArrived_of_found (s := begun) p a
  have stale := doArrived_stale (s := begun) p a
  rw [d, done_state] at stale
  refine ⟨_, exec_of_act h rfl rfl d, fun yes => ?_, fun no => ?_⟩
  · rw [endLeg_jt_of_calibrates (s := begun) yes] at jt
    rw [replied_jt, jt]
    exact ⟨rfl, rfl⟩
  · rw [endLeg_of_not_calibrates (s := begun) no] at jt stale
    rw [skip_jt] at jt
    rw [replied_jt, jt, replied_alarms, stale]
    exact ⟨rfl, rfl, skip_stale (s := begun)⟩

end Sys2Proof.Machine
end

section
/-! The invariants of the consist and of the content block sets under changes of the consist (R53, R66, R83, R119 to R121, R134). -/

namespace Sys2Proof.Machine

/-! ## The consist -/

/-- What no coach that stays may change: its identity and its unit (R54). -/
def Coach.key (k : Coach) : Nat × Nat := (k.id, k.unit)

/-- Some of the elements, in any order, stay so under a function, injective or not. -/
theorem subperm_map {α β : Type} (f : α → β) {l m : List α} (h : l.Subperm m) : (l.map f).Subperm (m.map f) := by
  obtain ⟨k, p, q⟩ := h
  exact ⟨k.map f, p.map f, q.map f⟩

/-- A consist that holds no other coaches, with stacks of at most 4 notices and the same type table, is as lawful. -/
theorem ConsistOk.of_keys {c d : Cm} (h : ConsistOk c) (keys : (d.coaches.map Coach.key).Subperm (c.coaches.map Coach.key))
    (full : ∀ k ∈ d.coaches, k.notices.length ≤ Config.maxNotices) (types : d.types = c.types) : ConsistOk d := by
  obtain ⟨size, ids, units, -, known, codes⟩ := h
  have part (f : Nat × Nat → Nat) (x : Cm) : (x.coaches.map Coach.key).map f = x.coaches.map fun k => f k.key :=
    List.map_map ..
  have some (f : Nat × Nat → Nat) : (d.coaches.map fun k => f k.key).Subperm (c.coaches.map fun k => f k.key) := by
    rw [← part f c, ← part f d]
    exact subperm_map f keys
  refine ⟨?_, ?_, ?_, full, types ▸ known, types ▸ codes⟩
  · simpa [Cm.coaches] using keys.length_le.trans (by simpa [Cm.coaches] using size)
  · obtain ⟨l, p, q⟩ := some Prod.fst
    exact p.nodup_iff.mp (q.nodup ids)
  · refine le_trans (List.Subperm.length_le (List.subperm_of_subset (List.nodup_dedup _) fun u m => ?_)) units
    exact List.mem_dedup.mpr ((some Prod.snd).subset (List.mem_dedup.mp m))

theorem ConsistOk.notices {c : Cm} (h : ConsistOk c) : ∀ k ∈ c.coaches, k.notices.length ≤ Config.maxNotices := by
  obtain ⟨-, -, -, notices, -, -⟩ := h
  exact notices

theorem ConsistOk.ids {c : Cm} (h : ConsistOk c) : (c.coaches.map (·.id)).Nodup := by
  obtain ⟨-, ids, -⟩ := h
  exact ids

/-- A consist whose coaches are the same, or some of them, is as lawful. -/
theorem ConsistOk.of_subperm {c d : Cm} (h : ConsistOk c) (coaches : d.coaches.Subperm c.coaches) (types : d.types = c.types) :
    ConsistOk d :=
  ConsistOk.of_keys h (subperm_map _ coaches) (fun k m => ConsistOk.notices h k (coaches.subset m)) types

theorem ConsistOk.of_coaches {c d : Cm} (h : ConsistOk c) (coaches : d.coaches = c.coaches) (types : d.types = c.types) :
    ConsistOk d := ConsistOk.of_subperm h (coaches ▸ List.Subperm.refl _) types

/-- A consist in which each coach has been changed, but not in its identity and unit and with a stack still of at most 4
notices, is as lawful. -/
theorem ConsistOk.of_map {c d : Cm} (h : ConsistOk c) (g : Coach → Coach) (key : ∀ k, (g k).key = k.key)
    (stack : ∀ k ∈ c.coaches, (g k).notices.length ≤ Config.maxNotices)
    (list : d.list.map (·.coach) = (c.list.map (·.coach)).map g) (detached : d.detached = c.detached.map g)
    (types : d.types = c.types) : ConsistOk d := by
  have all : d.coaches = c.coaches.map g := by rw [Cm.coaches, Cm.coaches, list, detached, List.map_append]
  refine ConsistOk.of_keys h (List.Perm.subperm (.of_eq ?_)) (fun k m => ?_) types
  · rw [all, List.map_map]
    exact List.map_congr_left fun k _ => key k
  · rw [all] at m
    obtain ⟨j, mj, rfl⟩ := List.mem_map.mp m
    exact stack j mj

/-! ## The content block sets -/

/-- A block that is dirty only while valid, its generation one byte (R119, R131). -/
def Block.Ok (b : Block) : Prop := (b.dirty = true → b.valid = true) ∧ b.gen < 256

/-- A lawful content block set: the HEADER is valid (R120), every block lawful. -/
def BlockSet.Ok (b : BlockSet) : Prop := b.header.valid = true ∧ ∀ k ∈ BlockKind.all, (b.get k).Ok

theorem blocksOk_iff {c : Cm} : BlocksOk c ↔ ∀ e ∈ c.list, e.blocks.Ok := Iff.rfl

theorem BlockSet.Ok.block {b : BlockSet} (h : b.Ok) (k : BlockKind) : (b.get k).Ok := h.2 k (BlockKind.mem_all k)

theorem BlockSet.ok_ofKinds {f : BlockKind → Block} (header : (f .header).valid = true) (each : ∀ k, (f k).Ok) :
    (BlockSet.ofKinds f).Ok := ⟨header, fun k _ => by rw [BlockSet.get_ofKinds]; exact each k⟩

/-- Block sets are lawful as before when each is one of those before. -/
theorem BlocksOk.of_mem {c d : Cm} (h : BlocksOk c) (same : ∀ e ∈ d.list, ∃ x ∈ c.list, e.blocks = x.blocks) :
    BlocksOk d := by
  rw [blocksOk_iff] at h ⊢
  intro e m
  obtain ⟨x, mx, q⟩ := same e m
  exact q ▸ h x mx

/-- An entry just admitted has a lawful set (R119). -/
theorem BlockSet.ok_admitted (s : State) (st : EntryState) (c : Coach) : (BlockSet.admitted s st c).Ok :=
  BlockSet.ok_ofKinds (by simp [validFor]) fun k => ⟨id, Nat.zero_lt_succ _⟩

/-- The dirty mark of one kind cleared leaves a lawful set (R132). -/
theorem BlockSet.Ok.clean {e : Entry} (h : e.blocks.Ok) (k : BlockKind) : (e.clean k).blocks.Ok := by
  refine BlockSet.ok_ofKinds ?_ fun x => ?_
  · have v : (e.blocks.get .header).valid = true := h.1
    split <;> exact v
  · obtain ⟨dirty, gen⟩ := h.block x
    split
    · exact ⟨nofun, gen⟩
    · exact ⟨dirty, gen⟩

/-- What an event may do to a block (R120, R126, R129): mark it or set its mark only while it is valid, and never make the HEADER
not valid. -/
def BlockEffect.lawful (x : BlockEffect) (b : Block) (k : BlockKind) : Prop :=
  match x with
  | .mark => b.valid = true
  | .dirty => b.valid = true
  | .leave => k ≠ .header
  | .keep => True
  | .enter => True

/-- A lawful effect leaves a lawful block, and a valid HEADER valid. -/
theorem Block.Ok.after {b : Block} {x : BlockEffect} {k : BlockKind} (h : b.Ok) (l : x.lawful b k) (already : Bool) :
    (b.after already x).Ok ∧ (k = .header → b.valid = true → (b.after already x).valid = true) := by
  obtain ⟨dirty, gen⟩ := h
  have small (p : Bool) : (if p then (b.gen + 1) % 256 else b.gen) < 256 := by split <;> omega
  cases x with
  | keep => exact ⟨⟨dirty, gen⟩, fun _ v => v⟩
  | mark => exact ⟨⟨fun _ => l, small _⟩, fun _ v => v⟩
  | enter => exact ⟨⟨fun _ => rfl, small _⟩, fun _ _ => rfl⟩
  | leave => exact ⟨⟨nofun, small _⟩, fun e => absurd e l⟩
  | dirty => exact ⟨⟨fun _ => l, gen⟩, fun _ v => v⟩

/-! ## Lawful changes -/

/-- What the shared operations make of the consist: the invariants hold as before, and the survey stays (R56). -/
structure Cm.Keeps (c d : Cm) : Prop where
  consist : ConsistOk c → ConsistOk d
  blocks : BlocksOk c → BlocksOk d
  survey : d.survey = c.survey

/-- A change that leaves entries out, or keeps their coaches and blocks. -/
theorem Cm.keeps_of_subperm {c d : Cm} (coaches : d.coaches.Subperm c.coaches)
    (blocks : ∀ e ∈ d.list, ∃ x ∈ c.list, e.blocks = x.blocks) (survey : d.survey = c.survey) (types : d.types = c.types) :
    c.Keeps d :=
  ⟨fun h => ConsistOk.of_subperm h coaches types, fun h => h.of_mem blocks, survey⟩

/-- A change of entries that keeps their coaches and blocks. -/
theorem Cm.keeps_of_map {c d : Cm} (f : Entry → Entry) (list : d.list = c.list.map f) (coach : ∀ e, (f e).coach = e.coach)
    (blocks : ∀ e, (f e).blocks = e.blocks) (detached : d.detached = c.detached) (survey : d.survey = c.survey)
    (types : d.types = c.types) : c.Keeps d := by
  refine Cm.keeps_of_subperm (List.Perm.subperm (.of_eq ?_)) (fun e m => ?_) survey types
  · rw [Cm.coaches, Cm.coaches, list, detached, List.map_map]
    exact congrArg (· ++ _) (List.map_congr_left fun e _ => coach e)
  · rw [list] at m
    obtain ⟨x, mx, rfl⟩ := List.mem_map.mp m
    exact ⟨x, mx, blocks x⟩

/-- A change of notice stacks, or of other fields of the coaches, that keeps identities, units and blocks. -/
theorem Cm.keeps_of_coaches {c d : Cm} (f : Entry → Entry) (g : Coach → Coach) (list : d.list = c.list.map f)
    (coach : ∀ e, (f e).coach = g e.coach) (blocks : ∀ e, (f e).blocks = e.blocks) (detached : d.detached = c.detached.map g)
    (key : ∀ k, (g k).key = k.key)
    (stack : ConsistOk c → ∀ k ∈ c.coaches, (g k).notices.length ≤ Config.maxNotices)
    (survey : d.survey = c.survey) (types : d.types = c.types) : c.Keeps d := by
  refine ⟨fun h => ConsistOk.of_map h g key (stack h) ?_ detached types, fun h => h.of_mem fun e m => ?_, survey⟩
  · rw [list, List.map_map, List.map_map]
    exact List.map_congr_left fun e _ => coach e
  · rw [list] at m
    obtain ⟨x, mx, rfl⟩ := List.mem_map.mp m
    exact ⟨x, mx, blocks x⟩

/-- Entries leave the list, for nowhere. -/
theorem Cm.keeps_filter (c : Cm) (gone : Entry → Bool) :
    c.Keeps { c with list := c.list.filter fun e => !gone e } :=
  Cm.keeps_of_subperm ((List.filter_sublist.map _).append (List.Sublist.refl _)).subperm
    (fun e m => ⟨e, List.mem_of_mem_filter m, rfl⟩) rfl rfl

theorem Cm.Keeps.trans {c d e : Cm} (h : c.Keeps d) (k : d.Keeps e) : c.Keeps e :=
  ⟨fun o => k.consist (h.consist o), fun o => k.blocks (h.blocks o), k.survey.trans h.survey⟩

/-- An entry of one identity changed in its coach, but not in its identity, unit, stack or blocks. -/
theorem Cm.keeps_update (c : Cm) (id : Nat) (f : Entry → Entry)
    (same : ∀ e, (f e).coach.key = e.coach.key ∧ (f e).coach.notices = e.coach.notices ∧ (f e).blocks = e.blocks) :
    c.Keeps (c.update id f) := by
  have entry (e : Entry) : (if e.coach.id = id then f e else e).coach.key = e.coach.key
      ∧ (if e.coach.id = id then f e else e).coach.notices = e.coach.notices
      ∧ (if e.coach.id = id then f e else e).blocks = e.blocks := by
    split
    · exact same e
    · exact ⟨rfl, rfl, rfl⟩
  refine ⟨fun h => ConsistOk.of_keys h (List.Perm.subperm (.of_eq ?_)) (fun k m => ?_) rfl, fun h => h.of_mem fun e m => ?_,
    rfl⟩
  · simp only [Cm.coaches, Cm.update, List.map_append, List.map_map]
    exact congrArg (· ++ _) (List.map_congr_left fun e _ => (entry e).1)
  · simp only [Cm.coaches, Cm.update, List.mem_append, List.map_map, List.mem_map, Function.comp] at m
    obtain ⟨e, me, rfl⟩ | m := m
    · rw [(entry e).2.1]
      exact ConsistOk.notices h _ (List.mem_append_left _ (List.mem_map_of_mem me))
    · exact ConsistOk.notices h _ (List.mem_append_right _ m)
  · obtain ⟨x, mx, rfl⟩ := List.mem_map.mp m
    exact ⟨x, mx, (entry x).2.2⟩

/-- One event's lawful effects on the blocks of the list entries (R126). -/
theorem Cm.keeps_revisedList (f : Entry → BlockKind → BlockEffect) (s : State)
    (l : ∀ e ∈ s.cm.list, ∀ k, (f e k).lawful (e.blocks.get k) k) : s.cm.Keeps { s.cm with list := revisedList f s } := by
  refine ⟨fun h => ConsistOk.of_coaches h ?_ rfl, fun h => ?_, rfl⟩
  · simp [Cm.coaches, revisedList, Function.comp_def]
  · rw [blocksOk_iff] at h ⊢
    intro e m
    obtain ⟨x, mx, rfl⟩ := List.mem_map.mp m
    refine BlockSet.ok_ofKinds ?_ fun k => (((h x mx).block k).after (l x mx k) _).1
    exact (((h x mx).block .header).after (l x mx .header) _).2 rfl (h x mx).1

/-- The dirty mark of one kind of an entry cleared (R132). -/
theorem Cm.keeps_clean (c : Cm) (id : Nat) (k : BlockKind) : c.Keeps (c.update id (Entry.clean k)) := by
  refine ⟨fun h => ConsistOk.of_coaches h ?_ rfl, fun h => ?_, rfl⟩
  · simp only [Cm.coaches, Cm.update, List.map_map]
    refine congrArg (· ++ _) (List.map_congr_left fun e _ => ?_)
    show (if e.coach.id = id then e.clean k else e).coach = e.coach
    split <;> rfl
  · rw [blocksOk_iff] at h ⊢
    intro e m
    obtain ⟨x, mx, rfl⟩ := List.mem_map.mp m
    split
    · exact (h x mx).clean k
    · exact h x mx

/-! ## Losses and admission -/

/-- An entry of the list and those of other identities are entries of the list, once each. -/
theorem cons_filter_subperm {l : List Entry} {e : Entry} {id : Nat} (m : e ∈ l) (at_ : e.coach.id = id) :
    (e :: l.filter fun x => !(decide (x.coach.id = id))).Subperm l := by
  have one : [e].Subperm (l.filter fun x => decide (x.coach.id = id)) :=
    (List.singleton_sublist.mpr (List.mem_filter.mpr ⟨m, by simpa using at_⟩)).subperm
  exact ((List.subperm_append_right _).mpr one).trans (List.filter_append_perm _ l).subperm

/-- An entry lost: it leaves the list for the detached set (R71). -/
theorem Cm.keeps_lost (c : Cm) {id : Nat} {e : Entry} (at_ : c.entryOf id = some e) :
    c.Keeps { c with list := c.list.filter fun x => !(decide (x.coach.id = id)), detached := c.detached ++ [e.coach] } := by
  refine Cm.keeps_of_subperm ?_ (fun x m => ⟨x, List.mem_of_mem_filter m, rfl⟩) rfl rfl
  have moved := subperm_map (·.coach) (cons_filter_subperm (List.mem_of_find?_eq_some at_)
    (by simpa using List.find?_some at_))
  simp only [Cm.coaches, ← List.append_assoc]
  exact (List.perm_append_singleton _ _).subperm.trans ((List.subperm_append_right c.detached).mpr moved)

/-- The units that the other coaches name are units of the consist. -/
theorem Cm.unitsBut_length {c : Cm} (h : ConsistOk c) (id : Nat) : (c.unitsBut id).length ≤ Config.maxUnits := by
  obtain ⟨-, -, units, -⟩ := h
  refine le_trans (List.Subperm.length_le (List.subperm_of_subset (List.nodup_dedup _) fun u m => ?_)) units
  exact List.mem_dedup.mpr (((List.filter_sublist).map _).subset (List.mem_dedup.mp m))

/-- A coach admitted at the end of the list, new or out of the detached set, its unit not a fifth (R65 to R67). -/
theorem Cm.keeps_admitted {c : Cm} {e : Entry} {detached : List Coach} (partings : List PartingSet)
    (rest : detached.Sublist c.detached) (fresh : ∀ k ∈ c.list.map (·.coach) ++ detached, k.id ≠ e.coach.id)
    (room : ConsistOk c → c.list.length + detached.length < Config.maxEntries)
    (unit : c.unitLimit e.coach.id e.coach.unit = false)
    (stack : ConsistOk c → e.coach.notices.length ≤ Config.maxNotices) (blocks : e.blocks.Ok) :
    c.Keeps { c with list := c.list ++ [e], detached := detached, partings := partings } := by
  have perm : (Cm.coaches { c with list := c.list ++ [e], detached := detached, partings := partings }).Perm
      (e.coach :: (c.list.map (·.coach) ++ detached)) := by
    simp only [Cm.coaches, List.map_append, List.map_cons, List.map_nil, List.append_assoc, List.singleton_append]
    exact List.perm_middle
  have some : (c.list.map (·.coach) ++ detached).Sublist c.coaches := (List.Sublist.refl _).append rest
  refine ⟨fun h => ?_, fun h => ?_, rfl⟩
  · have few := Cm.unitsBut_length h e.coach.id
    have whole := h
    obtain ⟨-, ids, -, notices, known, codes⟩ := h
    refine ⟨?_, ?_, ?_, fun k m => ?_, known, codes⟩
    · have := room whole
      simp only [List.length_append, List.length_singleton]
      omega
    · rw [(perm.map _).nodup_iff, List.map_cons, List.nodup_cons]
      refine ⟨fun m => ?_, (some.map _).nodup ids⟩
      obtain ⟨k, mk, q⟩ := List.mem_map.mp m
      exact fresh k mk q
    · have sub : (Cm.coaches { c with list := c.list ++ [e], detached := detached, partings := partings }).map (·.unit)
          ⊆ e.coach.unit :: c.unitsBut e.coach.id := fun u m => by
        obtain ⟨k, mk, rfl⟩ := List.mem_map.mp m
        obtain rfl | mk := List.mem_cons.mp (perm.subset mk)
        · exact List.mem_cons_self ..
        · refine List.mem_cons_of_mem _ (List.mem_dedup.mpr (List.mem_map.mpr ⟨k, List.mem_filter.mpr ⟨some.subset mk, ?_⟩, rfl⟩))
          simpa using fresh k mk
      simp only [Cm.unitLimit, Bool.and_eq_false_iff, Bool.not_eq_false', List.contains_iff_mem, decide_eq_false_iff_not,
        not_le] at unit
      obtain m | l := unit
      · refine (List.Subperm.length_le (List.subperm_of_subset (List.nodup_dedup _) fun u mu => ?_)).trans few
        exact (List.mem_cons.mp (sub (List.mem_dedup.mp mu))).elim (fun q => q ▸ m) id
      · refine (List.Subperm.length_le (List.subperm_of_subset (List.nodup_dedup _) fun u mu =>
          sub (List.mem_dedup.mp mu))).trans ?_
        exact l
    · obtain rfl | mk := List.mem_cons.mp (perm.subset m)
      · exact stack whole
      · exact notices k (some.subset mk)
  · rw [blocksOk_iff] at h ⊢
    intro x m
    obtain m | m := List.mem_append.mp m
    · exact h x m
    · exact List.mem_singleton.mp m ▸ blocks

end Sys2Proof.Machine
end

section
/-! The traversal of the shared operations, once: an invariant that the updates of one block, a report, an alarm flag and an abort
keep is kept by every operation of the Journey Tracker, the Consist Manager, the Reservation Store and the Display Composer. -/

namespace Sys2Proof.Machine

/-- What an invariant must bear to be kept by the shared operations: any journey and any store, a lawful change of the consist,
the record of advanced blocks, an abort, an alarm flag and a report. -/
structure Shared (I : State → Prop) : Prop where
  jt : ∀ s v, I s → I (s.setJt v)
  rs : ∀ s v, I s → I (s.setRs v)
  cm : ∀ s v, s.cm.Keeps v → I s → I (s.setCm v)
  advanced : ∀ s l, I s → I (s.setDc { s.dc with advanced := l })
  abort : ∀ test s, I s → I (abortIf test s)
  alarms : ∀ f s, I s → I (setAlarms f s)
  raise : ∀ cls code subject data s, I s → I (raise cls code subject data s)

variable {s : State} {I : State → Prop}

namespace Shared

/-! ## Content blocks -/

theorem revise (b : Shared I) (h : I s) (f : Entry → BlockKind → BlockEffect)
    (l : ∀ e ∈ s.cm.list, ∀ k, (f e k).lawful (e.blocks.get k) k) : I (revise f s) := by
  unfold Machine.revise
  exact b.abort _ _ (b.advanced _ _ (b.cm _ _ (Cm.keeps_revisedList f s l) h))

theorem markBlocks (b : Shared I) (h : I s) (pick : Entry → BlockKind → Bool) : I (markBlocks pick s) := by
  refine b.revise h _ fun e _ k => ?_
  split_ifs with v
  · exact (Bool.and_eq_true_iff.mp v).1
  · trivial

theorem evaluateKinds (b : Shared I) (h : I s) (pick : Entry → Bool) : I (evaluateKinds pick s) := by
  refine b.revise h _ fun e _ k => ?_
  split
  · split
    · trivial
    · next v => exact fun q => by simp [q, validNow, validFor] at v
    · trivial
  · trivial

theorem dirtyBlocks (b : Shared I) (h : I s) (pick : Entry → Bool) : I (dirtyBlocks pick s) := by
  refine b.revise h _ fun e _ k => ?_
  split_ifs with v
  · exact (Bool.and_eq_true_iff.mp v).1
  · trivial

theorem markHeaders (b : Shared I) (h : I s) (pick : Entry → Bool) : I (markHeaders pick s) := b.markBlocks h _
theorem markSeats (b : Shared I) (h : I s) (pick : Entry → Bool) : I (markSeats pick s) := b.markBlocks h _
theorem markSeatsOf (b : Shared I) (h : I s) (seats : List (Nat × Nat)) : I (markSeatsOf seats s) := b.markBlocks h _
theorem markPhase (b : Shared I) (h : I s) : I (markPhase s) := b.markBlocks h _
theorem markRoute (b : Shared I) (h : I s) (slot index : Nat) : I (markRoute slot index s) := b.markBlocks h _
theorem reviseAll (b : Shared I) (h : I s) (pick : Entry → Bool) : I (reviseAll pick s) :=
  b.markBlocks (b.evaluateKinds h pick) _
theorem withAdvisory (b : Shared I) (f : State → State) (h : I (f s)) : I (withAdvisory f s) := b.markHeaders h _

/-! ## List entries -/

/-- An entry changed, but not in its coach and blocks. -/
theorem updateEntry (b : Shared I) (h : I s) (id : Nat) (f : Entry → Entry) (coach : ∀ e, (f e).coach = e.coach)
    (blocks : ∀ e, (f e).blocks = e.blocks) : I (updateEntry id f s) :=
  b.cm _ _ (s.cm.keeps_update id f fun e => ⟨congrArg Coach.key (coach e), congrArg Coach.notices (coach e), blocks e⟩) h

/-- A coach changed, but not in its identity, unit and stack. -/
theorem updateCoach (b : Shared I) (h : I s) (id : Nat) (f : Entry → Entry)
    (same : ∀ e, (f e).coach.key = e.coach.key ∧ (f e).coach.notices = e.coach.notices ∧ (f e).blocks = e.blocks) :
    I (Machine.updateEntry id f s) := b.cm _ _ (s.cm.keeps_update id f same) h

/-- The parting sets changed. -/
theorem setPartings (b : Shared I) (h : I s) (l : List PartingSet) : I (s.setCm { s.cm with partings := l }) :=
  b.cm _ _ ⟨id, id, rfl⟩ h

theorem joinParting (b : Shared I) (h : I s) (unit id : Nat) : I (s.setCm (s.cm.joinParting unit id)) := b.setPartings h _

theorem leaveList (b : Shared I) (h : I s) (gone : Entry → Bool) : I (leaveList gone s) := by
  unfold Machine.leaveList
  exact b.abort _ _ (b.cm _ _ (s.cm.keeps_filter gone) h)

theorem setEntryState (b : Shared I) (h : I s) (id : Nat) (st : EntryState) : I (setEntryState id st s) := by
  have k : I (Machine.updateEntry id (fun e => { e with state := st }) s) :=
    b.updateEntry h id _ (fun _ => rfl) fun _ => rfl
  unfold Machine.setEntryState
  dsimp only
  split_ifs
  · exact b.markHeaders (b.evaluateKinds k _) _
  · exact b.evaluateKinds k _

theorem checkEntry (b : Shared I) (h : I s) (id : Nat) : I (checkEntry id s) := by
  unfold Machine.checkEntry
  split
  · exact h
  · next e _ =>
    have k : I (Machine.updateEntry id (fun d => { d with agree := agreement s s.rs.liveBank e }) s) :=
      b.updateEntry h id _ (fun _ => rfl) fun _ => rfl
    dsimp only
    split_ifs
    · exact k
    · exact b.markSeats k _
    · exact b.raise _ _ _ _ _ (b.markSeats k _)

theorem checkAgreement (b : Shared I) (h : I s) (pick : Entry → Bool) : I (checkAgreement pick s) :=
  foldl_induct (P := I) (fun _ id k => b.checkEntry k id) _ h

end Shared
end Sys2Proof.Machine
end

section
/-! The traversal of the shared operations, continued: losses, splits, admission, departure and arrival. -/

namespace Sys2Proof.Machine

variable {s : State} {I : State → Prop}

/-- Entries leave the list, with at most an abort (R71, R159). -/
theorem leaveList_eq (gone : Entry → Bool) (s : State) : ∃ test, leaveList gone s
    = (abortIf test s).setCm { s.cm with list := s.cm.list.filter fun e => !gone e } := by
  refine ⟨fun d _ => ((s.cm.list.filter gone).map (·.coach.id)).contains d, ?_⟩
  rw [leaveList, abortIf_setCm]

/-- An entry lost, with at most an abort (R71). -/
theorem detach_eq {id : Nat} {e : Entry} (at_ : s.cm.entryOf id = some e) : ∃ test, detach id s
    = (abortIf test s).setCm { s.cm with
        list := s.cm.list.filter fun x => !(decide (x.coach.id = id)), detached := s.cm.detached ++ [e.coach] } := by
  obtain ⟨test, q⟩ := leaveList_eq (fun x => x.coach.id = id) s
  refine ⟨test, ?_⟩
  unfold detach
  rw [at_]
  simp only [leaveList_cm]
  rw [q]
  rfl

/-- No entry of the list has an identity without a hop. -/
theorem Cm.not_mem_of_hopOf {c : Cm} {id : Nat} (h : c.hopOf id = none) : ∀ e ∈ c.list, e.coach.id ≠ id := by
  intro e m q
  obtain ⟨i, hi⟩ := List.mem_iff_getElem?.mp m
  have none := List.find?_eq_none.mp (Option.map_eq_none_iff.mp h) (e, i) (List.mk_mem_zipIdx_iff_getElem?.mpr hi)
  exact none (by simpa using q)

/-- A change of the survey that does not take it OFF. -/
def StaysOn (f : Survey → Survey) : Prop := ∀ v, v.state ≠ .off → (f v).state ≠ .off

namespace Shared

theorem detach (b : Shared I) (h : I s) (id : Nat) : I (detach id s) := by
  cases at_ : s.cm.entryOf id with
  | none => simpa only [Machine.detach, at_] using h
  | some e =>
    obtain ⟨test, q⟩ := detach_eq at_
    rw [q]
    exact b.cm _ _ (by rw [abortIf_cm]; exact s.cm.keeps_lost at_) (b.abort test s h)

theorem loseEntry (b : Shared I) (h : I s) (id : Nat) : I (loseEntry id s) :=
  b.raise _ _ _ _ _ (b.alarms _ _ (b.detach h id))
theorem bypassEntry (b : Shared I) (h : I s) (id hop : Nat) : I (bypassEntry id hop s) :=
  b.raise _ _ _ _ _ (b.alarms _ _ (b.detach h id))

/-! ## Splits -/

/-- Detached coaches forgotten, with parting sets (R79, R81). -/
theorem forget (b : Shared I) (h : I s) (keep : Coach → Bool) (l : List PartingSet) :
    I (s.setCm { s.cm with detached := s.cm.detached.filter keep, partings := l }) :=
  b.cm _ _ (Cm.keeps_of_subperm ((List.Sublist.refl _).append List.filter_sublist).subperm (fun e m => ⟨e, m, rfl⟩) rfl rfl) h

theorem completeSplit (b : Shared I) (h : I s) (unit : Nat) : I (completeSplit unit s) :=
  b.raise _ _ _ _ _ (b.rs _ _ (b.withAdvisory (fun t => t.setJt (t.jt.removePortion unit)) (b.jt _ _ (b.forget h _ _))))

theorem checkSplit (b : Shared I) (h : I s) (unit : Nat) : I (checkSplit unit s) := by
  unfold Machine.checkSplit
  split_ifs
  · exact b.completeSplit h unit
  · exact h

theorem deleteDeparting (b : Shared I) (h : I s) (id unit : Nat) : I (deleteDeparting id unit s) :=
  b.checkSplit (b.joinParting (b.leaveList h _) unit id) unit

/-- An entry of a unit becomes another state with pair count 0 (R77, R80). -/
theorem restate (b : Shared I) (h : I s) (id : Nat) (st : EntryState) :
    I (Machine.setEntryState id st (Machine.updateEntry id (fun e => { e with pairCount := 0 }) s)) :=
  b.setEntryState (b.updateEntry h id (fun e => { e with pairCount := 0 }) (fun _ => rfl) fun _ => rfl) id st

theorem failSplit (b : Shared I) (h : I s) (unit : Nat) : I (failSplit unit s) := by
  unfold Machine.failSplit
  dsimp only
  split_ifs
  · exact h
  · refine b.raise _ _ _ _ _ (b.setPartings (b.withAdvisory (fun t => t.setJt (t.jt.setPortionState unit .attached))
      (b.jt _ _ (b.dirtyBlocks ?_ _))) _)
    exact foldl_induct (P := I) (fun _ id k => b.restate k id .active) _ h

theorem failSplits (b : Shared I) (h : I s) : I (failSplits s) := foldl_induct (P := I) (fun _ u k => b.failSplit k u) _ h

theorem departEntry (b : Shared I) (h : I s) (id unit : Nat) : I (departEntry id unit s) := by
  have k := b.restate h id .departing
  unfold Machine.departEntry
  dsimp only
  split
  · split_ifs
    · exact b.leaveList (b.joinParting k unit id) _
    · exact k
  · exact k

theorem takeSplit (b : Shared I) (h : I s) (unit : Nat) : I (takeSplit unit s) :=
  foldl_induct (P := I) (fun _ id k => b.departEntry k id unit) _ (b.setPartings (b.withAdvisory
    (fun t => t.setJt (t.jt.setPortionState unit .parting)) (b.jt _ _ h)) _)

/-! ## Admission -/

theorem reportUnknownType (b : Shared I) (h : I s) (id type : Nat) : I (reportUnknownType id type s) := by
  unfold Machine.reportUnknownType
  split_ifs
  · exact b.raise _ _ _ _ _ h
  · exact h

theorem refuseCall (b : Shared I) (v : ∀ f s, StaysOn f → I s → I (setSurvey f s)) (h : I s) (watch : Bool) (cause : CloseCause)
    (code id : Nat) (data : List Byte) : I (refuseCall watch cause code id data s) := by
  unfold Machine.refuseCall
  split_ifs
  · exact h
  · exact b.raise _ _ _ _ _ (v _ _ (fun _ _ => nofun) h)

/-- A coach admitted with the fields of its call answer: its identity not in the list, its unit not a fifth, room for it (R65
to R67). The detached set is what is left of it. -/
theorem admitCoach (b : Shared I) (h : I s) (a : CallAnswer) (notices : List Notice) (detached : List Coach)
    (rest : detached.Sublist s.cm.detached) (fresh : ∀ k ∈ s.cm.list.map (·.coach) ++ detached, k.id ≠ a.id)
    (room : ConsistOk s.cm → s.cm.list.length + detached.length < Config.maxEntries)
    (unit : s.cm.unitLimit a.id a.unit = false) (stack : ConsistOk s.cm → notices.length ≤ Config.maxNotices) :
    I (admitCoach a 0 notices (s.setCm { s.cm with detached := detached })) := by
  unfold Machine.admitCoach
  refine b.checkEntry ?_ _
  exact b.cm s _ (Cm.keeps_admitted _ rest fresh room unit stack (BlockSet.ok_admitted ..)) h

/-- The survey goes on after an admission that has been reported (R61, R65, R66). -/
theorem admitted (b : Shared I) (v : ∀ f s, StaysOn f → I s → I (setSurvey f s)) (h : I s) (code : Nat) (a : CallAnswer) (data : List Byte) :
    I (surveyOn (Machine.reportUnknownType a.id a.type (Machine.raise .consist code a.id data s))) :=
  v _ _ (fun _ _ => nofun) (b.reportUnknownType (b.raise _ _ _ _ _ h) _ _)

theorem handleCallAnswer (b : Shared I) (v : ∀ f s, StaysOn f → I s → I (setSurvey f s)) (h : I s) (a : CallAnswer) (target : Nat)
    (watch : Bool) : I (handleCallAnswer a target watch s) := by
  unfold Machine.handleCallAnswer
  split
  · exact b.refuseCall v h ..
  · next new =>
    have listed : ∀ k ∈ s.cm.list.map (·.coach), k.id ≠ a.id := fun k m => by
      obtain ⟨e, me, rfl⟩ := List.mem_map.mp m
      exact Cm.not_mem_of_hopOf new e me
    split
    · next c found =>
      have mc : c ∈ s.cm.detached := List.mem_of_find?_eq_some found
      split
      · exact b.refuseCall v h ..
      · next unit =>
        refine b.admitted v (b.admitCoach h a c.notices _ List.filter_sublist ?_ ?_ (by simpa using unit) ?_) _ _ _
        · intro k m
          obtain m | m := List.mem_append.mp m
          · exact listed k m
          · simpa using (List.mem_filter.mp m).2
        · intro o
          have less : (s.cm.detached.filter fun x => x.id ≠ a.id).length < s.cm.detached.length :=
            List.length_filter_lt_length_iff_exists.mpr ⟨c, mc, by simpa using List.find?_some found⟩
          have size : s.cm.list.length + s.cm.detached.length ≤ Config.maxEntries := o.1
          omega
        · exact fun o => ConsistOk.notices o c (List.mem_append_right _ mc)
    · next new =>
      split
      · exact b.refuseCall v h ..
      · next room =>
        split
        · exact b.refuseCall v h ..
        · next unit =>
          refine b.admitted v (b.admitCoach h a [] s.cm.detached (List.Sublist.refl _) ?_ (fun _ => not_le.mp room)
            (by simpa using unit) fun _ => Nat.zero_le _) _ _ _
          intro k m
          obtain m | m := List.mem_append.mp m
          · exact listed k m
          · simpa using List.find?_eq_none.mp new k m

theorem callUnanswered (b : Shared I) (v : ∀ f s, StaysOn f → I s → I (setSurvey f s)) (h : I s) (watch : Bool) :
    I (callUnanswered watch s) := by
  unfold Machine.callUnanswered
  dsimp only
  split_ifs
  · exact h
  · exact b.raise _ _ _ _ _ (v _ _ (fun _ _ => nofun) (v _ _ (fun _ on => on) h))
  · exact v _ _ (fun _ on => on) h

theorem callOutcome (b : Shared I) (v : ∀ f s, StaysOn f → I s → I (setSurvey f s)) (h : I s) (c : Call) (a : Option CallAnswer) :
    I (callOutcome c a s) := by
  unfold Machine.callOutcome
  split
  · split_ifs
    · exact b.handleCallAnswer v h ..
    · exact b.callUnanswered v h _
  · exact b.callUnanswered v h _

/-! ## Figures, departure and arrival -/

theorem setOdo (b : Shared I) (h : I s) (f : Odometer → Odometer) : I (setOdo f s) := b.jt _ _ h
theorem setPhase (b : Shared I) (h : I s) (p : Phase) : I (setPhase p s) := b.jt _ _ h
theorem formPositions (b : Shared I) (h : I s) : I (formPositions s) := b.markBlocks (b.jt _ _ h) _
theorem formEta (b : Shared I) (h : I s) : I (formEta s) := by
  unfold Machine.formEta
  dsimp only
  split_ifs
  · exact b.setOdo h _
  · exact b.markHeaders (b.setOdo h _) _
theorem formFigures (b : Shared I) (h : I s) : I (formFigures s) := b.formEta (b.formPositions h)
theorem setNotice (b : Shared I) (h : I s) (n : JourneyNotice) : I (setNotice n s) := by
  unfold Machine.setNotice
  split_ifs
  · exact h
  · exact b.markHeaders (b.withAdvisory (fun t => t.setJt { t.jt with notice := n }) (b.jt _ _ h)) _
theorem purgeBanks (b : Shared I) (h : I s) (indices : List (Nat × Nat)) : I (purgeBanks indices s) :=
  b.markSeatsOf (b.rs _ _ h) _
theorem switchBanks (b : Shared I) (h : I s) (code : Nat) (trigger departure : Option Nat) :
    I (switchBanks code trigger departure s) :=
  b.markSeats (b.checkAgreement (b.raise _ _ _ _ _ (b.rs _ _ h)) _) _
theorem departBanks (b : Shared I) (h : I s) (d : Nat) : I (departBanks d s) := by
  unfold Machine.departBanks
  dsimp only
  refine b.purgeBanks ?_ _
  split
  · split_ifs
    · exact b.switchBanks h ..
    · exact b.switchBanks h ..
    · exact h
  · exact h
theorem departureEvent (b : Shared I) (h : I s) (d : Nat) : I (departureEvent d s) :=
  b.markPhase (b.failSplits (b.departBanks h d))

/-- The stacks of every coach changed, in the list and in the detached set (R134). -/
theorem changeNotices (b : Shared I) (h : I s) (g : Coach → Coach) (key : ∀ k, (g k).key = k.key)
    (stack : ConsistOk s.cm → ∀ k ∈ s.cm.coaches, (g k).notices.length ≤ Config.maxNotices) :
    I (s.setCm { s.cm with list := s.cm.list.map (Entry.mapCoach g), detached := s.cm.detached.map g }) :=
  b.cm _ _ (Cm.keeps_of_coaches _ g rfl (fun _ => rfl) (fun _ => rfl) rfl key stack rfl rfl) h

theorem expireNotices (b : Shared I) (h : I s) (keep : Coach → Notice → Bool) : I (expireNotices keep s) :=
  b.markHeaders (b.changeNotices h (keepNotices keep) (fun _ => rfl) fun o k m =>
    (List.length_filter_le ..).trans (ConsistOk.notices o k m)) _

theorem countNotices (b : Shared I) (h : I s) : I (countNotices s) :=
  b.markHeaders (b.changeNotices h Coach.countDown (fun _ => rfl) fun o k m =>
    (List.length_filterMap_le ..).trans (ConsistOk.notices o k m)) _

theorem arrivalEvent (b : Shared I) (h : I s) (m : Nat) : I (arrivalEvent m s) :=
  foldl_induct (P := I) (fun _ _ k => b.raise _ _ _ _ _ k) _ (b.markPhase (b.expireNotices h _))

theorem goStale (b : Shared I) (h : I s) : I (goStale s) := b.raise _ _ _ _ _ (b.alarms _ _ h)

theorem skip (b : Shared I) (h : I s) : I (skip s) := by
  unfold Machine.skip
  dsimp only
  split_ifs
  · exact b.goStale (b.setOdo h _)
  · exact b.setOdo h _
  · exact h

theorem calibrate (b : Shared I) (h : I s) (leg : Nat) : I (calibrate leg s) := by
  unfold Machine.calibrate
  dsimp only
  split_ifs
  · exact b.jt _ _ h
  · exact b.raise _ _ _ _ _ (b.jt _ _ h)

theorem endLeg (b : Shared I) (h : I s) (atNext : Bool) : I (endLeg atNext s) := by
  unfold Machine.endLeg
  split_ifs
  · exact b.calibrate h _
  · exact b.skip h

end Shared
end Sys2Proof.Machine
end

section
/-! The pair end as a lawful change of the consist: the entries of a new order are those left in the list, each once (R74). -/

namespace Sys2Proof.Machine

variable {s : State} {c : Cm} {l : List Entry}

theorem Cm.numbered_fst (c : Cm) : c.numbered.map Prod.fst = c.list := by
  simp only [Cm.numbered, List.map_map]
  exact List.zipIdx_map_fst 0 c.list

/-- The entries with a proposed hop are the list without the removal set (R74). -/
theorem Cm.proposals_fst (c : Cm) :
    c.proposals.map Prod.fst = c.list.filter fun e => !(c.bypassed.map fun x => x.1.coach.id).contains e.coach.id := by
  conv_rhs => rw [← c.numbered_fst]
  simp only [Cm.proposals, List.map_map, List.filter_map]
  rfl

/-- A new order takes each of its entries from a proposal (R74). -/
theorem Cm.reordered_eq (r : c.reordered = some l) : l.length = c.proposals.length
    ∧ l = (List.range c.proposals.length).filterMap fun i => (c.proposals.find? fun x => x.2 = some (i + 1)).map Prod.fst := by
  unfold Cm.reordered at r
  dsimp only at r
  split_ifs at r with q
  cases r
  exact ⟨by simpa using (Bool.and_eq_true_iff.mp q).1, rfl⟩

/-- The entries of a new order are those left in the list, each once (R74). -/
theorem Cm.reordered_perm (r : c.reordered = some l) (distinct : (c.proposals.map fun x => x.1.coach.id).Nodup) :
    l.Perm (c.proposals.map Prod.fst) := by
  obtain ⟨size, e⟩ := Cm.reordered_eq r
  have from_ {i : Nat} {x : Entry} (m : x ∈ (c.proposals.find? fun x => x.2 = some (i + 1)).map Prod.fst) :
      (x, some (i + 1)) ∈ c.proposals := by
    obtain ⟨p, hp, rfl⟩ := Option.map_eq_some_iff.mp m
    have hop : p.2 = some (i + 1) := by simpa using List.find?_some hp
    exact hop ▸ List.mem_of_find?_eq_some hp
  have once : l.Nodup := by
    rw [e]
    refine List.Nodup.filterMap (fun i j x mi mj => ?_) List.nodup_range
    have same := List.inj_on_of_nodup_map distinct (from_ mi) (from_ mj) rfl
    simpa using congrArg Prod.snd same
  have some : l ⊆ c.proposals.map Prod.fst := fun x m => by
    rw [e] at m
    obtain ⟨i, -, mi⟩ := List.mem_filterMap.mp m
    exact List.mem_map.mpr ⟨_, from_ mi, rfl⟩
  exact (List.subperm_of_subset once some).perm_of_length_le (by simp [size])

/-- A reorder of what the removal set has left is a lawful change (R74). -/
theorem Cm.keeps_reordered {d : Cm} (r : c.reordered = some l)
    (left : d.list = c.list.filter fun e => !(c.bypassed.map fun x => x.1.coach.id).contains e.coach.id) :
    d.Keeps { d with list := l.map Entry.noEvidence, confused := false } := by
  have rest : c.proposals.map Prod.fst = d.list := c.proposals_fst.trans left.symm
  refine ⟨fun h => ?_, fun h => h.of_mem fun e m => ?_, rfl⟩
  · have distinct : (c.proposals.map fun x => x.1.coach.id).Nodup := by
      have ids : (d.list.map fun e => e.coach.id).Nodup := by
        obtain ⟨-, ids, -⟩ := h
        simp only [Cm.coaches, List.map_append, List.map_map] at ids
        exact (List.nodup_append.mp ids).1
      rwa [← rest, List.map_map] at ids
    refine ConsistOk.of_subperm h (List.Perm.subperm ?_) rfl
    have perm := ((Cm.reordered_perm r distinct).map (·.coach)).append_right d.detached
    rw [rest] at perm
    simpa [Cm.coaches, Function.comp_def, Entry.noEvidence] using perm
  · obtain ⟨x, mx, rfl⟩ := List.mem_map.mp m
    obtain ⟨-, e⟩ := Cm.reordered_eq r
    rw [e] at mx
    obtain ⟨i, -, mi⟩ := List.mem_filterMap.mp mx
    obtain ⟨p, hp, rfl⟩ := Option.map_eq_some_iff.mp mi
    exact ⟨p.1, rest ▸ List.mem_map.mpr ⟨p, List.mem_of_find?_eq_some hp, rfl⟩, rfl⟩

/-- What an entry of the removal set leaves of the list (R74). -/
theorem detach_list (id : Nat) (s : State) :
    (detach id s).cm.list = s.cm.list.filter fun e => !(decide (e.coach.id = id)) := by
  cases at_ : s.cm.entryOf id with
  | none =>
    have all : ∀ e ∈ s.cm.list, (!(decide (e.coach.id = id))) = true := fun e m => by
      simpa using List.find?_eq_none.mp at_ e m
    simp only [detach, at_]
    exact (List.filter_eq_self.mpr all).symm
  | some e =>
    obtain ⟨test, q⟩ := detach_eq at_
    rw [q]
    rfl

theorem foldl_bypassEntry_list (l : List (Entry × Nat)) (s : State) :
    (l.foldl (fun t x => bypassEntry x.1.coach.id x.2 t) s).cm.list
      = s.cm.list.filter fun e => !(l.map fun x => x.1.coach.id).contains e.coach.id := by
  induction l generalizing s with
  | nil => simp
  | cons x l ih =>
    rw [List.foldl_cons, ih]
    show ((detach x.1.coach.id s).cm.list).filter _ = _
    rw [detach_list, List.filter_filter]
    refine List.filter_congr fun e _ => ?_
    rw [List.map_cons, List.contains_cons, Bool.not_or, Bool.and_comm]
    rfl

/-- The evidence of an entry is kept apart from its coach and blocks (R73). -/
theorem Entry.evidence_kept (e : Entry) (n : Nat) : (e.evidence n).coach = e.coach ∧ (e.evidence n).blocks = e.blocks := by
  unfold Entry.evidence
  split
  · split_ifs <;> exact ⟨rfl, rfl⟩
  · exact ⟨rfl, rfl⟩

theorem Cm.withEvidence_coaches (c : Cm) : c.withEvidence.list.map (·.coach) = c.list.map (·.coach) := by
  have e : c.withEvidence.list.map (·.coach) = c.numbered.map fun x => x.1.coach := by
    rw [Cm.withEvidence, List.map_map]
    exact List.map_congr_left fun x _ => (x.1.evidence_kept x.2).1
  rw [e]
  conv_rhs => rw [← c.numbered_fst, List.map_map]
  rfl

/-- The evidence taken from the pair hop records is a lawful change (R73). -/
theorem Cm.keeps_withEvidence (c : Cm) : c.Keeps c.withEvidence := by
  refine ⟨fun h => ConsistOk.of_coaches h (congrArg (· ++ c.detached) c.withEvidence_coaches) rfl,
    fun h => h.of_mem fun e m => ?_, rfl⟩
  obtain ⟨x, mx, rfl⟩ := List.mem_map.mp m
  exact ⟨x.1, c.numbered_fst ▸ List.mem_map_of_mem mx, (x.1.evidence_kept x.2).2⟩

variable {I : State → Prop}

namespace Shared

theorem reorder (b : Shared I) (h : I s) : I (reorder s) := by
  have mark (x : Bool) : s.cm.Keeps { s.cm with confused := x } := ⟨id, id, rfl⟩
  unfold Machine.reorder
  split
  · split
    · next l r =>
      exact b.cm _ _ (Cm.keeps_reordered r (foldl_bypassEntry_list s.cm.bypassed s))
        (foldl_induct (P := I) (fun _ (x : Entry × Nat) k => b.bypassEntry k x.1.coach.id x.2) _ h)
    · split
      · exact h
      · exact b.raise _ _ _ _ _ (b.cm _ _ (mark true) h)
  · exact b.cm _ _ (mark false) h

theorem pairStep (b : Shared I) (h : I s) (id : Nat) : I (pairStep id s) := by
  have count (n : Nat) : I (Machine.updateEntry id (fun e => { e with pairCount := n }) s) :=
    b.updateEntry h id _ (fun _ => rfl) fun _ => rfl
  unfold Machine.pairStep
  split
  · exact h
  · dsimp only
    split_ifs
    · exact b.raise _ _ _ _ _ (b.restate h id .active)
    · exact count _
    · exact b.raise _ _ _ _ _ (b.restate h id .active)
    · exact count _
    · exact h

theorem pairEnd (b : Shared I) (h : I s) : I (pairEnd s) := by
  have k : I ((s.cm.list.map (·.coach.id)).foldl (fun t id => Machine.pairStep id t) s) :=
    foldl_induct (P := I) (fun _ id k => b.pairStep k id) _ h
  unfold Machine.pairEnd
  exact b.cm _ _ (Cm.keeps_of_map Entry.noPair rfl (fun _ => rfl) (fun _ => rfl) rfl rfl rfl)
    (b.reorder (b.cm _ _ (Cm.keeps_withEvidence _) k))

end Shared
end Sys2Proof.Machine
end

section
/-! The traversal of the shared operations, continued: the requests. -/

namespace Sys2Proof.Machine

variable {s : State} {I : State → Prop}

/-- A record written, under a code that was not in the table or in the place of its code, keeps codes distinct and at most 8
(R83, R84). -/
theorem Cm.keeps_putType (c : Cm) (r : TypeRecord) (room : c.known r.code = true ∨ c.types.length < Config.maxTypes) :
    c.Keeps (c.putType r) := by
  unfold Cm.putType
  split_ifs with old
  · refine ⟨fun ⟨size, ids, units, notices, known, codes⟩ => ⟨size, ids, units, notices, by simpa using known, ?_⟩, id, rfl⟩
    have same : (c.types.map fun x => if x.code = r.code then r else x).map (·.code) = c.types.map (·.code) := by
      rw [List.map_map]
      refine List.map_congr_left fun x _ => ?_
      show (if x.code = r.code then r else x).code = x.code
      split_ifs with q
      · exact q.symm
      · rfl
    exact same ▸ codes
  · refine ⟨fun ⟨size, ids, units, notices, known, codes⟩ => ⟨size, ids, units, notices, ?_, ?_⟩, id, rfl⟩
    · simpa using room.resolve_left old
    · have new : ∀ x ∈ c.types, x.code ≠ r.code := fun x m q => old (by
        simpa [Cm.known, Cm.typeOf] using ⟨x, m, q⟩)
      rw [List.map_append, List.nodup_append]
      refine ⟨codes, by simp, fun a ma b mb q => ?_⟩
      obtain ⟨x, mx, rfl⟩ := List.mem_map.mp ma
      exact new x mx (q.trans (by simpa using mb))

/-- The requests of the computer link, of the page rotation, of the backbone and of the survey with changes of their own: every
other request is answered by shared operations. -/
def sharedRequest : Instr → Bool
  | .linkReset _ | .setReporting _ _ _ | .summary _ | .configureSurvey _ _ _ | .startBackbone _ | .stopBackbone _ | .survey _
  | .setRotationEntry _ _ _ _ _ | .setRotationStart _ _ | .clearLineFlags _ _ | .lockTable _ _ | .unlockTable _ _
  | .setCapture _ _ => false
  | _ => true

/-- The coach found at the place of an identity is of the consist, and has the identity. -/
theorem Cm.coach_of_place {c : Cm} {id : Nat} {k : Coach} (h : (c.placeOf id).coach = some k) : k ∈ c.coaches ∧ k.id = id := by
  unfold Cm.placeOf at h
  split at h
  · next e at_ =>
    cases h
    exact ⟨List.mem_append_left _ (List.mem_map_of_mem (List.mem_of_find?_eq_some at_)), by simpa using List.find?_some at_⟩
  · split at h
    · next at_ =>
      cases h
      exact ⟨List.mem_append_right _ (List.mem_of_find?_eq_some at_), by simpa using List.find?_some at_⟩
    · cases h

namespace Shared

/-! ## Requests of the Journey Tracker -/

theorem setSlot (b : Shared I) (h : I s) (n : Nat) (v : RouteSlot) : I (setSlot n v s) := b.jt _ _ h

theorem doOpenRoute (b : Shared I) (h : I s) (slot code : Nat) (dest : Text) : I (doOpenRoute slot code dest s).state := by
  unfold Machine.doOpenRoute
  split
  · exact h
  · split
    · exact h
    · exact h
    · exact b.setSlot h ..

theorem doAppendStops (b : Shared I) (h : I s) (slot : Nat) (stops : List StopFields) : I (doAppendStops slot stops s).state := by
  unfold Machine.doAppendStops
  split
  · exact h
  · split
    · exact h
    · split
      · exact h
      · dsimp only
        split
        · exact h
        · exact b.setSlot h ..

theorem doCloseRoute (b : Shared I) (h : I s) (slot : Nat) : I (doCloseRoute slot s).state := by
  unfold Machine.doCloseRoute
  split
  · exact h
  · dsimp only
    split
    · exact h
    · exact b.setSlot h ..

theorem doDropRoute (b : Shared I) (h : I s) (slot : Nat) : I (doDropRoute slot s).state := by
  unfold Machine.doDropRoute
  split
  · exact h
  · split
    · exact h
    · exact h
    · exact b.setSlot h ..

theorem changeMarks (b : Shared I) (h : I s) (routes : List (Nat × Nat)) (v : Bool) : I (changeMarks routes v s) := by
  have k : ∀ t, I t → I (routes.foldl (fun w y => Machine.markRoute y.1 y.2 w) t) := fun t k =>
    foldl_induct (P := I) (fun _ (y : Nat × Nat) k => b.markRoute k y.1 y.2) routes k
  unfold Machine.changeMarks
  dsimp only
  split
  · split
    · exact b.setNotice (k _ (b.jt _ _ h)) _
    · exact k _ (b.jt _ _ h)
  · exact k _ (b.jt _ _ h)

theorem doCancelStop (b : Shared I) (h : I s) (slot index : Nat) : I (doCancelStop slot index s).state := by
  unfold Machine.doCancelStop
  split
  · exact h
  · dsimp only
    split_ifs
    · exact h
    · exact h
    · exact h
    · exact b.changeMarks h ..

theorem doRestoreStop (b : Shared I) (h : I s) (slot index : Nat) : I (doRestoreStop slot index s).state := by
  unfold Machine.doRestoreStop
  split
  · exact h
  · dsimp only
    split_ifs
    · exact h
    · exact h
    · exact b.changeMarks h ..

theorem assignPurge (b : Shared I) (h : I s) (unit slot : Nat) : I (assignPurge unit slot s) :=
  b.checkAgreement (b.purgeBanks h _) _

theorem doAssignUnitHome (b : Shared I) (h : I s) (unit slot index partAt : Nat) :
    I (doAssignUnitHome unit slot index partAt s).state := by
  unfold Machine.doAssignUnitHome
  dsimp only
  split_ifs
  · exact h
  · exact h
  · exact h
  · exact h
  · exact h
  · exact h
  · exact b.assignPurge (b.reviseAll (b.formFigures (b.setNotice (b.jt _ _ h) _)) _) _ _

theorem doAssignUnit (b : Shared I) (h : I s) (unit slot index partAt : Nat) : I (doAssignUnit unit slot index partAt s).state := by
  unfold Machine.doAssignUnit
  split
  · split
    · exact h
    · exact b.assignPurge (b.reviseAll (b.withAdvisory (fun t => t.setJt _) (b.jt _ _ h)) _) _ _
  · exact h

theorem doEndJourney (b : Shared I) (h : I s) : I (doEndJourney s).state := by
  unfold Machine.doEndJourney
  dsimp only
  split_ifs
  · exact h
  · have k {t : State} (k : I t) : I (t.setCm { t.cm with list := t.cm.list.map fun e => { e with agree := .unitUnassigned } }) :=
      b.cm _ _ (Cm.keeps_of_map (fun e => { e with agree := .unitUnassigned }) rfl (fun _ => rfl) (fun _ => rfl) rfl rfl rfl) k
    exact b.reviseAll (b.markSeats (k (b.formFigures (b.jt _ _ h))) _) _

theorem doDeparted (b : Shared I) (h : I s) : I (doDeparted s).state := by
  unfold Machine.doDeparted
  split
  · exact b.departureEvent (b.formFigures (b.setNotice (b.setOdo (b.setPhase h _) _) _)) _
  · exact h
  · exact h

theorem doArrived (b : Shared I) (h : I s) (code : Nat) : I (doArrived code s).state := by
  unfold Machine.doArrived
  split
  · dsimp only
    split
    · exact h
    · refine b.arrivalEvent ?_ _
      have k {p : Phase} {n : JourneyNotice} (x : Bool) : I (Machine.formFigures (Machine.setNotice n (Machine.setPhase p
            (Machine.setOdo (Odometer.newLeg false) (Machine.endLeg x s))))) :=
        b.formFigures (b.setNotice (b.setPhase (b.setOdo (b.endLeg h x) _) _) _)
      split
      · exact k _
      · exact b.raise _ _ _ _ _ (k _)
  · exact h

theorem doSetDirection (b : Shared I) (h : I s) (direction : Nat) : I (doSetDirection direction s).state := by
  unfold Machine.doSetDirection
  split
  · exact h
  · split
    · exact h
    · split_ifs
      · exact h
      · exact b.markBlocks (b.jt _ _ h) _

theorem doSetTime (b : Shared I) (h : I s) (minute : Nat) : I (doSetTime minute s).state := by
  unfold Machine.doSetTime
  split_ifs
  · exact h
  · exact b.formEta (b.jt _ _ h)

theorem doConfigureOdometer (b : Shared I) (h : I s) (p : OdoConfig) : I (doConfigureOdometer p s).state := by
  have k := b.jt s { s.jt with config := p } h
  unfold Machine.doConfigureOdometer
  split
  · exact h
  · dsimp only
    split_ifs
    · exact b.jt _ _ k
    · exact b.goStale (b.setOdo k _)
    · exact b.jt _ _ k
    · exact k

theorem doPositionFix (b : Shared I) (h : I s) (d : Nat) : I (doPositionFix d s).state := by
  unfold Machine.doPositionFix
  split
  · exact b.formPositions (b.setOdo h _)
  · exact h

/-! ## Requests of the Consist Manager -/

theorem doSplit (b : Shared I) (h : I s) (unit : Nat) : I (doSplit unit s).state := by
  unfold Machine.doSplit
  split
  · split
    · exact h
    · split
      · exact h
      · split
        · exact h
        · exact b.checkSplit (b.takeSplit h unit) unit
  · exact h

theorem doRemoveEntry (b : Shared I) (h : I s) (id : Nat) : I (doRemoveEntry id s).state := by
  unfold Machine.doRemoveEntry
  split
  · exact h
  · split
    · exact h
    · split
      · exact h
      · exact b.forget h _ _

theorem doDefineType (b : Shared I) (h : I s) (code seats : Nat) (labels : List Text) :
    I (doDefineType code seats labels s).state := by
  unfold Machine.doDefineType
  split
  · exact h
  · split
    · exact h
    · split
      · exact h
      · split
        · exact h
        · split
          · exact h
          · next full =>
            refine b.evaluateKinds (b.cm _ _ (s.cm.keeps_putType _ ?_) h) _
            cases k : s.cm.known code with
            | true => exact .inl rfl
            | false => exact .inr (by simpa [k] using full)

theorem doDeleteType (b : Shared I) (h : I s) (code : Nat) : I (doDeleteType code s).state := by
  unfold Machine.doDeleteType
  split_ifs
  · exact h
  · exact h
  · exact h
  · exact b.cm _ _ ⟨fun ⟨size, ids, units, notices, known, codes⟩ => ⟨size, ids, units, notices,
      (List.length_filter_le ..).trans known, codes.sublist (List.filter_sublist.map _)⟩, id, rfl⟩ h

/-! ## Requests of the Reservation Store -/

theorem editBank (b : Shared I) (h : I s) (bad : Bool) (target : Nat) (op : BankOp) (told : Told) :
    I (editBank bad target op told s).state := by
  have mirror {t : State} (k : I t) : I (mirrorEdit op t).1 := by
    unfold mirrorEdit
    split
    · split
      · exact b.rs _ _ k
      · exact b.rs _ _ k
    · exact k
  have telling {t : State} (k : I t) : I (tell told t) := by
    cases told with
    | nothing => exact k
    | seat => exact b.markSeatsOf k _
    | record => exact b.checkEntry k _
  unfold Machine.editBank
  split
  · exact h
  · split_ifs
    · exact h
    · exact h
    · dsimp only
      split
      · exact h
      · split
        · exact b.rs _ _ h
        · exact mirror (telling (b.rs _ _ h))

theorem doAddSegment (b : Shared I) (h : I s) (bank id seat fromIx toIx kind : Nat) (label : Text) :
    I (doAddSegment bank id seat fromIx toIx kind label s).state := by
  unfold Machine.doAddSegment
  split
  · exact h
  · exact b.editBank h ..

theorem doOpenStagingEmpty (b : Shared I) (h : I s) : I (doOpenStagingEmpty s).state := by
  unfold Machine.doOpenStagingEmpty
  split_ifs
  · exact b.rs _ _ h
  · exact h

theorem doOpenStagingCopy (b : Shared I) (h : I s) : I (doOpenStagingCopy s).state := by
  unfold Machine.doOpenStagingCopy
  split_ifs
  · exact b.rs _ _ h
  · exact h

theorem doArmStagingImmediate (b : Shared I) (h : I s) : I (doArmStagingImmediate s).state := by
  unfold Machine.doArmStagingImmediate
  split
  · exact h
  · exact b.switchBanks (b.rs _ _ h) ..

theorem doArmStaging (b : Shared I) (h : I s) (trigger : Nat) : I (doArmStaging trigger s).state := by
  unfold Machine.doArmStaging armAt
  split
  · exact b.doArmStagingImmediate h
  · split
    · exact h
    · split
      · exact h
      · split
        · exact h
        · exact b.rs _ _ h

theorem doDisarmStaging (b : Shared I) (h : I s) : I (doDisarmStaging s).state := by
  unfold Machine.doDisarmStaging
  split
  · exact b.rs _ _ h
  · exact b.rs _ _ h
  · exact h

theorem doAbandonStaging (b : Shared I) (h : I s) : I (doAbandonStaging s).state := by
  unfold Machine.doAbandonStaging
  split_ifs
  · exact b.rs _ _ h
  · exact h

/-! ## Requests of the Display Composer -/

theorem doRefreshCoach (b : Shared I) (h : I s) (target id : Nat) : I (doRefreshCoach target id s).state := by
  unfold Machine.doRefreshCoach
  split
  · exact h
  · rw [done_state]; exact b.dirtyBlocks h _
  · split
    · exact h
    · split
      · exact h
      · exact h
      · rw [done_state]; exact b.dirtyBlocks h _

/-- Stacks changed by a function that leaves at most 4 notices on each stack picked (R134). -/
theorem changeStacks (b : Shared I) (h : I s) (pick : Coach → Bool) (f : List Notice → List Notice)
    (before after : State → Entry → Bool)
    (few : ConsistOk s.cm → ∀ k ∈ s.cm.coaches, pick k = true → (f k.notices).length ≤ Config.maxNotices) :
    I (changeStacks pick f before after s) := by
  unfold Machine.changeStacks
  refine b.markHeaders (b.changeNotices h _ (fun k => ?_) fun o k m => ?_) _
  · split <;> rfl
  · split
    · next p => exact few o k m p
    · exact ConsistOk.notices o k m

theorem clearStacks (b : Shared I) (h : I s) (pick : Coach → Bool) : I (clearStacks pick s) :=
  b.changeStacks h _ _ _ _ fun _ _ _ _ => Nat.zero_le _

/-- A notice pushed on stacks that are not full (R135). -/
theorem pushOn (b : Shared I) (h : I s) (pick : Coach → Bool) (n : Notice)
    (free : ConsistOk s.cm → ∀ k ∈ s.cm.coaches, pick k = true → k.full = false) : I (pushOn pick n s) :=
  b.changeStacks h _ _ _ _ fun o k m p => by
    have few := free o k m p
    simp only [Coach.full, decide_eq_false_iff_not, not_le] at few
    exact few

theorem doPushNotice (b : Shared I) (h : I s) (target id : Nat) (t : Text) (priority expiry value : Nat) :
    I (doPushNotice target id t priority expiry value s).state := by
  unfold Machine.doPushNotice
  split
  · rw [done_state]
    refine b.pushOn h _ _ fun _ k _ p => ?_
    simpa using (Bool.and_eq_true_iff.mp p).2
  · split
    · exact h
    · split
      · exact h
      · next c at_ =>
        split_ifs with expired full
        · exact h
        · exact h
        · rw [done_state]
          refine b.pushOn h _ _ fun o k m p => ?_
          obtain ⟨mc, ic⟩ := Cm.coach_of_place at_
          have same : k = c := List.inj_on_of_nodup_map (ConsistOk.ids o) m mc (by simpa [ic] using p)
          exact same ▸ by simpa using full
  · exact h

theorem doPopNotice (b : Shared I) (h : I s) (id : Nat) : I (doPopNotice id s).state := by
  unfold Machine.doPopNotice
  split
  · exact h
  · split
    · exact h
    · split
      · exact h
      · rw [done_state]
        exact b.changeStacks h _ _ _ _ fun o k m _ => (by simp : k.notices.tail.length ≤ _).trans (ConsistOk.notices o k m)

theorem doClearNotices (b : Shared I) (h : I s) (target id : Nat) : I (doClearNotices target id s).state := by
  unfold Machine.doClearNotices
  split
  · exact h
  · rw [done_state]; exact b.clearStacks h _
  · split
    · exact h
    · split
      · exact h
      · rw [done_state]; exact b.clearStacks h _

/-! ## Every shared request -/

theorem doAckAlarms (b : Shared I) (h : I s) (flags : Nat) : I (doAckAlarms flags s).state := by
  unfold Machine.doAckAlarms
  split_ifs
  · exact h
  · exact b.alarms (fun _ => _) s h

/-- A request that is answered by shared operations keeps what these keep. -/
theorem act (b : Shared I) {c : Instr} (shared : sharedRequest c = true) (h : I s) : I (act c s).state := by
  cases c with
  | ackAlarms tag flags => exact b.doAckAlarms h flags
  | openRoute => exact b.doOpenRoute h ..
  | appendStops => exact b.doAppendStops h ..
  | closeRoute => exact b.doCloseRoute h ..
  | dropRoute => exact b.doDropRoute h ..
  | cancelStop => exact b.doCancelStop h ..
  | restoreStop => exact b.doRestoreStop h ..
  | assignUnitHome => exact b.doAssignUnitHome h ..
  | assignUnit => exact b.doAssignUnit h ..
  | endJourney => exact b.doEndJourney h
  | departed => exact b.doDeparted h
  | arrived => exact b.doArrived h _
  | setDirection => exact b.doSetDirection h _
  | setTime => exact b.doSetTime h _
  | configureOdometer => exact b.doConfigureOdometer h _
  | positionFix => exact b.doPositionFix h _
  | readJourney => exact b.jt _ _ h
  | split => exact b.doSplit h _
  | removeEntry => exact b.doRemoveEntry h _
  | defineType => exact b.doDefineType h ..
  | deleteType => exact b.doDeleteType h _
  | declareVehicle => exact b.editBank h ..
  | removeVehicle => exact b.editBank h ..
  | addSegment => exact b.doAddSegment h ..
  | dropSegment => exact b.editBank h ..
  | clearSeat => exact b.editBank h ..
  | openStagingEmpty => exact b.doOpenStagingEmpty h
  | openStagingCopy => exact b.doOpenStagingCopy h
  | armStaging => exact b.doArmStaging h _
  | armStagingImmediate => exact b.doArmStagingImmediate h
  | disarmStaging => exact b.doDisarmStaging h
  | abandonStaging => exact b.doAbandonStaging h
  | refreshCoach => exact b.doRefreshCoach h ..
  | pushNotice => exact b.doPushNotice h ..
  | popNotice => exact b.doPopNotice h _
  | clearNotices => exact b.doClearNotices h ..
  | describePart | readRoute | readType | readSeat | readDisplay | readTable => simpa [Machine.act] using h
  | linkReset | setReporting | summary | configureSurvey | startBackbone | stopBackbone | survey | setRotationEntry
  | setRotationStart | clearLineFlags | lockTable | unlockTable | setCapture => cases shared
  | _ => exact h

end Shared
end Sys2Proof.Machine
end

section
/-! The traversal of the shared operations, concluded: the coach slot, the window, and every event for an invariant that does not
see the backbone. -/

namespace Sys2Proof.Machine

variable {s : State} {I : State → Prop}

/-- Every entry of the list lost (R59). -/
theorem Cm.keeps_emptied (c : Cm) :
    c.Keeps { c with list := [], detached := c.detached ++ c.list.map (·.coach) } := by
  refine Cm.keeps_of_subperm ?_ (fun e m => absurd m List.not_mem_nil) rfl rfl
  rw [Cm.coaches, Cm.coaches, List.map_nil, List.nil_append]
  exact List.perm_append_comm.subperm

/-- The pair record noted leaves the coach and the blocks (R54). -/
theorem Entry.note_kept (e : Entry) (even valid : Bool) :
    (e.note even valid).coach = e.coach ∧ (e.note even valid).blocks = e.blocks := by
  unfold Entry.note
  split_ifs <;> exact ⟨rfl, rfl⟩

namespace Shared

/-! ## The coach slot -/

/-- A field of a coach changed that is not its identity, its unit or its stack. -/
theorem mapCoach (b : Shared I) (h : I s) (id : Nat) (f : Coach → Coach) (key : ∀ k, (f k).key = k.key)
    (notices : ∀ k, (f k).notices = k.notices) : I (Machine.updateEntry id (Entry.mapCoach f) s) :=
  b.updateCoach h id _ fun e => ⟨key e.coach, notices e.coach, rfl⟩

theorem takeOrientation (b : Shared I) (h : I s) (id : Nat) (o : Orientation) : I (takeOrientation id o s) := by
  unfold Machine.takeOrientation
  split
  · exact h
  · split_ifs
    · exact h
    · exact b.markBlocks (b.mapCoach h id (fun c => { c with orient := o }) (fun _ => rfl) fun _ => rfl) _

theorem takeType (b : Shared I) (h : I s) (id type : Nat) : I (takeType id type s) := by
  unfold Machine.takeType
  split
  · exact h
  · split_ifs
    · exact h
    · have k := b.mapCoach h id (fun c => { c with type := type }) (fun _ => rfl) fun _ => rfl
      exact b.reportUnknownType (b.checkEntry (b.markSeats (b.evaluateKinds k _) _) _) _ _

theorem takeNumber (b : Shared I) (h : I s) (id number : Nat) : I (takeNumber id number s) := by
  unfold Machine.takeNumber
  split
  · exact h
  · split_ifs
    · exact h
    · exact b.markHeaders (b.mapCoach h id (fun c => { c with number := number }) (fun _ => rfl) fun _ => rfl) _

theorem takeUnit (b : Shared I) (h : I s) (id unit : Nat) : I (takeUnit id unit s) := by
  unfold Machine.takeUnit
  split
  · exact h
  · split_ifs
    · exact b.mapCoach h id (fun c => { c with unitDiffers := false }) (fun _ => rfl) fun _ => rfl
    · exact h
    · exact b.raise _ _ _ _ _ (b.mapCoach h id (fun c => { c with unitDiffers := true }) (fun _ => rfl) fun _ => rfl)

theorem unmute (b : Shared I) (h : I s) (id : Nat) : I (unmute id s) := by
  unfold Machine.unmute
  split
  · exact h
  · split_ifs
    · exact b.raise _ _ _ _ _ (b.setEntryState h id .active)
    · exact h

theorem slotAnswered (b : Shared I) (h : I s) (id : Nat) (a : NodeAnswer) : I (slotAnswered id a s) := by
  unfold Machine.slotAnswered
  refine b.takeUnit (b.takeNumber (b.takeType (b.takeOrientation (b.unmute (b.updateCoach h id _ fun e => ?_) id) id _)
    id _) id _) id _
  obtain ⟨coach, blocks⟩ := e.note_kept (s.bc.counter % 2 = 0) true
  exact ⟨(congrArg Coach.key coach :), (congrArg Coach.notices coach :), blocks⟩

theorem muteEntry (b : Shared I) (h : I s) (id : Nat) : I (muteEntry id s) :=
  b.raise _ _ _ _ _ (b.alarms _ _ (b.setEntryState h id .mute))

theorem miss (b : Shared I) (h : I s) (id : Nat) (even : Bool) : I (Machine.updateEntry id (Entry.miss even) s) := by
  refine b.updateCoach h id _ fun e => ?_
  obtain ⟨coach, blocks⟩ := e.note_kept even false
  exact ⟨(congrArg Coach.key coach :), (congrArg Coach.notices coach :), blocks⟩

theorem slotMissed (b : Shared I) (h : I s) (id : Nat) : I (slotMissed id s) := by
  have k := b.miss h id (s.bc.counter % 2 = 0)
  unfold Machine.slotMissed
  split
  · exact h
  · dsimp only
    split
    · split_ifs
      · exact b.loseEntry k id
      · exact k
    · split_ifs
      · exact b.muteEntry k id
      · exact k
    · split_ifs
      · exact b.loseEntry k id
      · exact k
    · split_ifs
      · exact b.deleteDeparting k id _
      · exact k

theorem consistOutcome (b : Shared I) (h : I s) (id : Nat) (a : Option NodeAnswer) : I (consistOutcome id a s) := by
  unfold Machine.consistOutcome
  split
  · exact h
  · exact b.slotAnswered h ..
  · exact b.slotMissed h _

theorem composerOutcome (b : Shared I) (h : I s) (f : ContentFrame) (a : Option NodeAnswer) : I (composerOutcome f a s).1 := by
  have k {t : State} (g : I t) (n : NodeAnswer) : I (acknowledge f n t) := by
    unfold acknowledge
    split
    · exact g
    · split_ifs
      · exact b.cm _ _ (t.cm.keeps_clean f.dest f.kind) g
      · exact g
  unfold Machine.composerOutcome
  split
  · exact h
  · exact h
  · dsimp only
    split
    · exact k (b.dirtyBlocks h _) _
    · exact k h _

/-! ## The odometer window and the quiet gap -/

/-- One of two states that are kept. -/
theorem ite (_ : Shared I) {p : Prop} [Decidable p] {t u : State} (h : I t) (k : I u) : I (if p then t else u) := by
  split
  · exact h
  · exact k

theorem windowDistance (b : Shared I) (h : I s) (p : Nat) : I (windowDistance p s) := by
  unfold Machine.windowDistance
  dsimp only
  exact b.ite (b.raise _ _ _ _ _ (b.setOdo h _)) (b.setOdo h _)

theorem windowDeparture (b : Shared I) (h : I s) : I (windowDeparture s) := by
  unfold Machine.windowDeparture
  split
  · split
    · exact b.raise _ _ _ _ _ (b.departureEvent (b.formEta (b.setNotice (b.setOdo (b.setPhase h _) _) _)) _)
    · exact h
  · exact h

theorem windowNotice (b : Shared I) (h : I s) : I (windowNotice s) := by
  unfold Machine.windowNotice
  dsimp only
  split_ifs
  · exact h
  · exact b.raise _ _ _ _ _ (b.setNotice h _)

theorem windowExpiry (b : Shared I) (h : I s) : I (windowExpiry s) :=
  b.formPositions (b.windowNotice (b.formEta (b.jt _ _ (b.windowDeparture (b.setOdo (b.windowDistance h _) _)))))

theorem tellLine (b : Shared I) (h : I s) (line : Line) (old new : LineState) : I (tellLine line old new s) := by
  unfold Machine.tellLine
  dsimp only
  split_ifs
  · exact h
  · exact b.raise _ _ _ _ _ (b.alarms _ _ h)
  · exact b.raise _ _ _ _ _ h

/-! ## The stop of the backbone -/

theorem stopConsist (b : Shared I) (v : ∀ f s, I s → I (setSurvey f s)) (h : I s) : I (stopConsist s) := by
  obtain ⟨test, q⟩ := leaveList_eq (fun _ => true) (Machine.failSplits s)
  have moved := v (fun w => { w with state := .off, attempts := 0, cause := .none }) _
    (b.cm _ _ (by rw [abortIf_cm]; exact (Machine.failSplits s).cm.keeps_emptied) (b.abort test _ (b.failSplits h)))
  unfold Machine.stopConsist
  dsimp only
  rw [q]
  simp only [Bool.not_true, List.filter_false]
  exact b.raise _ _ _ _ _ (b.ite moved (b.alarms _ _ moved))

end Shared

/-! ## Lawful supervision -/

section Supervision

variable {u v : Sup} {k : NodeTable}

/-- The same tables and run counts (R182, R186). -/
theorem SupervisionOk.of_runs (h : SupervisionOk u) (even : v.even = u.even) (odd : v.odd = u.odd)
    (a : v.a.runs = u.a.runs) (b : v.b.runs = u.b.runs) : SupervisionOk v := by
  rwa [SupervisionOk, even, odd, a, b]

theorem SupervisionOk.slot (h : SupervisionOk u) (a b : Heard) (okA okB : Bool) : SupervisionOk (u.slot a b okA okB) :=
  h.of_runs rfl rfl rfl rfl

theorem SupervisionOk.call (h : SupervisionOk u) (a b : Heard) (okA okB : Bool) : SupervisionOk (u.call a b okA okB) :=
  h.of_runs rfl rfl rfl rfl

theorem SupervisionOk.table (h : SupervisionOk u) (n : Nat) : TableOk (u.table n) := by
  obtain ⟨even, odd, -, -⟩ := h
  unfold Sup.table
  split_ifs
  · exact even
  · exact odd

theorem SupervisionOk.setTable (h : SupervisionOk u) (n : Nat) (l : TableOk k) : SupervisionOk (u.setTable n k) := by
  obtain ⟨even, odd, runs⟩ := h
  unfold Sup.setTable
  split_ifs
  · exact ⟨l, odd, runs⟩
  · exact ⟨even, l, runs⟩

theorem SupervisionOk.setLock (h : SupervisionOk u) (n : Nat) (l : LockState) :
    SupervisionOk (u.setTable n { u.table n with lock := l }) := h.setTable n (h.table n)

/-- The table of a cycle that updates it is opened (R187). -/
theorem SupervisionOk.beacon (h : SupervisionOk u) (n : Nat) : SupervisionOk (u.beacon n) := by
  have cleared : SupervisionOk { u with
      a := { u.a with obs := .clear }, b := { u.b with obs := .clear }, capture := (u.decide n).2 } :=
    h.of_runs rfl rfl rfl rfl
  unfold Sup.beacon
  dsimp only
  split_ifs
  · exact cleared.setTable n ⟨List.length_replicate, nofun, fun _ => rfl⟩
  · exact cleared

/-- A row written changes neither the number of rows nor the table's marks (R188). -/
theorem SupervisionOk.writeRow (h : SupervisionOk u) (n hop : Nat) (r : Row) : SupervisionOk (u.writeRow n hop r) := by
  obtain ⟨rows, valid, open_⟩ := h.table n
  unfold Sup.writeRow
  dsimp only
  split_ifs
  · exact h.setTable n ⟨by simpa using rows, valid, open_⟩
  · exact h

/-- The table of the cycle completed is valid, with its cycle (R189). -/
theorem SupervisionOk.complete (h : SupervisionOk u) (n : Nat) : SupervisionOk (u.complete n) := by
  obtain ⟨rows, -, -⟩ := h.table n
  have done : SupervisionOk (u.setTable n ((u.table n).completed n)) :=
    h.setTable n ⟨rows, fun _ => ⟨rfl, rfl⟩, nofun⟩
  unfold Sup.complete
  dsimp only
  split_ifs
  · exact done.of_runs rfl rfl rfl rfl
  · exact done
  · exact h

theorem runNext_le {limit n : Nat} (p : Bool) : runNext limit p n ≤ limit := by
  unfold runNext
  split_ifs
  · exact Nat.min_le_left ..
  · exact Nat.zero_le _

/-- The run counts stay in range at the quiet gap (R182). -/
theorem LineSup.runsNext_ok {l : LineSup} (h : RunsOk l.runs) : RunsOk l.runsNext := by
  unfold LineSup.runsNext
  split_ifs
  · exact h
  · exact ⟨runNext_le _, runNext_le _, runNext_le _⟩

theorem SupervisionOk.gap (h : SupervisionOk u) : SupervisionOk { u with a := u.a.gap, b := u.b.gap } := by
  obtain ⟨even, odd, a, b⟩ := h
  exact ⟨even, odd, LineSup.runsNext_ok a, LineSup.runsNext_ok b⟩

end Supervision

/-! ## Every event and every request -/

/-- What an invariant must bear besides to be kept by every event and request: it sees of the backbone and of the survey nothing,
of supervision and the page rotation whether they are lawful, and it bears the head answered and the link's own requests. -/
structure Steady (I : State → Prop) : Prop extends Shared I where
  survey : ∀ f s, I s → I (setSurvey f s)
  bc : ∀ s v, I s → I (s.setBc v)
  sup : ∀ s v, (SupervisionOk s.sup → SupervisionOk v) → I s → I (s.setSup v)
  rotation : ∀ s v, (RotationOk s.dc → RotationOk v) → I s → I (s.setDc v)
  finish : ∀ r data s, I s → I (finishHead r data s)
  linkReset : ∀ s, I s → I (doLinkReset s).state
  setReporting : ∀ classes order s, I s → I (doSetReporting classes order s).state
  summary : ∀ s, I s → I (doSummary s).state

/-- The rotation advanced stays lawful (R141, R144). -/
theorem RotationOk.rotate {d : Dc} (h : RotationOk d) (n : Bool) : RotationOk (d.rotate n) := by
  have entry (d : Dc) (h : RotationOk d) (i : Nat) (l : i < Config.rotationSize) : d.entryAt i ∈ d.table := by
    have l' : i < d.table.length := h.1 ▸ l
    simp only [Dc.entryAt, List.getElem?_eq_getElem l', Option.getD_some]
    exact List.getElem_mem l'
  have search (left : Nat) : ∀ (d : Dc) (i : Nat), RotationOk d → i < Config.rotationSize → RotationOk (d.search n left i) := by
    induction left with
    | zero =>
      rintro d i ⟨size, entries, start, -, -, -⟩ -
      exact ⟨size, entries, start, nofun, Nat.le_add_left 1 254, nofun⟩
    | succ left ih =>
      intro d i h l
      have e := entry d h i l
      obtain ⟨size, entries, start, current, dwell, page⟩ := h
      obtain ⟨next, one, byte⟩ := entries _ e
      unfold Dc.search
      dsimp only
      split_ifs with empty silent
      · exact ih d _ ⟨size, entries, start, current, dwell, page⟩ start
      · exact ih d _ ⟨size, entries, start, current, dwell, page⟩ next
      · exact ⟨size, entries, start, fun j m => by simpa using (Option.mem_some_iff.mp m) ▸ l, byte, empty⟩
  have first : d.first < Config.rotationSize := by
    unfold Dc.first
    split
    · next i c =>
      obtain ⟨next, -⟩ := h.2.1 _ (entry d h i (h.2.2.2.1 i c))
      exact next
    · exact h.2.2.1
  obtain ⟨size, entries, start, current, dwell, page⟩ := h
  unfold Dc.rotate
  split_ifs
  · exact search _ _ _ ⟨size, entries, start, current, Nat.zero_le _, page⟩ first
  · exact ⟨size, entries, start, current, by dsimp only; omega, page⟩

namespace Steady

theorem runTo (b : Steady I) (h : I s) (t : Nat) : I (runTo t s) := b.bc _ _ h
theorem beaconStart (b : Steady I) (h : I s) : I (beaconStart s) :=
  b.bc _ _ (b.sup _ _ (fun k => SupervisionOk.beacon k _) h)

theorem cycleClose (b : Steady I) (h : I s) : I (cycleClose s) := by
  unfold Machine.cycleClose
  split
  · exact b.beaconStart (b.bc _ _ h)
  · exact b.finish _ _ _ (b.stopConsist b.survey (b.bc _ _ h))
  · exact h

theorem completeCopy (b : Steady I) (h : I s) : I (completeCopy s) := by
  unfold Machine.completeCopy
  dsimp only
  split_ifs
  · exact b.finish _ _ _ (b.rs _ _ h)
  · exact h

theorem beaconEnd (b : Steady I) (h : I s) : I (beaconEnd s) := by
  unfold Machine.beaconEnd composerCycle
  split
  · exact b.rotation _ _ (fun r => RotationOk.rotate r _) (b.countNotices (b.bc _ _ (b.runTo h 60)))
  · exact h

theorem slotStart (b : Steady I) (h : I s) : I (slotStart s) := by
  unfold Machine.slotStart beginContent
  split
  · exact h
  · split
    · exact b.bc _ _ (b.updateEntry h _ _ (fun _ => rfl) fun _ => rfl)
    · exact b.bc _ _ h

theorem contentComplete (b : Steady I) (h : I s) : I (contentComplete s) := by
  unfold Machine.contentComplete
  split
  · split_ifs
    · exact b.runTo h _
    · exact h
  · exact h

theorem takeSymbols (b : Steady I) (h : I s) (line : Line) (t : Nat) (symbols : List Symbol) :
    I (takeSymbols line t symbols s) := by
  unfold Machine.takeSymbols
  dsimp only
  split
  · split <;> exact b.bc _ _ (b.runTo h _)
  · exact h

theorem slotEnd (b : Steady I) (h : I s) : I (slotEnd s) := by
  unfold Machine.slotEnd
  split
  · dsimp only
    split
    · exact b.bc _ _ (b.sup _ _ (fun k => (SupervisionOk.slot k _ _ _ _).writeRow _ _ _)
        (b.composerOutcome (b.consistOutcome (b.runTo h 2000) _ _) _ _))
    · exact b.bc _ _ (b.runTo h 2000)
  · exact h

theorem callStart (b : Steady I) (h : I s) : I (callStart s) := by
  have k : I (callOfCycle s).1 := by
    unfold callOfCycle
    dsimp only
    split
    · exact h
    · split_ifs
      · exact b.raise _ _ _ _ _ (b.survey _ _ h)
      · exact h
    · split_ifs <;> exact h
  unfold Machine.callStart
  split
  · exact b.bc _ _ k
  · exact h

theorem callEnd (b : Steady I) (h : I s) : I (callEnd s) := by
  unfold Machine.callEnd
  split
  · dsimp only
    split
    · exact b.bc _ _ (b.callOutcome (fun f s _ => b.survey f s)
        (b.sup _ _ (fun k => SupervisionOk.call k _ _ _ _) (b.bc _ _ (b.runTo h 3000))) _ _)
    · exact b.bc _ _ (b.runTo h 3000)
  · exact h

theorem gapStart (b : Steady I) (h : I s) : I (gapStart s) := by
  have k : I (s.setBc (s.bc.enter .gap)) := b.bc _ _ h
  unfold Machine.gapStart
  split
  · refine b.sup _ _ (fun k => SupervisionOk.complete k _) (b.tellLine (b.tellLine (b.sup _ _ SupervisionOk.gap ?_) _ _ _) _ _ _)
    split
    · exact b.pairEnd k
    · exact k
  · exact h

/-- An event keeps what shared operations and changes of the backbone keep. -/
theorem blockEvent (b : Steady I) (h : I s) (c : Instr) : I (blockEvent c s) := by
  cases c with
  | copyCompletion => exact b.completeCopy h
  | odoPulse => exact b.jt _ _ h
  | odometerWindowExpiry => exact b.windowExpiry h
  | minuteTimerExpiry => exact b.formEta (b.jt _ _ h)
  | cycleEnd => exact b.cycleClose h
  | cycleStart => exact b.beaconEnd h
  | coachSlotStart => exact b.slotStart h
  | contentFrameComplete => exact b.contentComplete h
  | backboneFrameReceived => exact b.takeSymbols h ..
  | coachSlotEnd => exact b.slotEnd h
  | callWindowStart => exact b.callStart h
  | callWindowEnd => exact b.callEnd h
  | quietGapStart => exact b.gapStart h
  | _ => exact h

theorem doConfigureSurvey (b : Steady I) (h : I s) (attempts pairs : Nat) : I (doConfigureSurvey attempts pairs s).state := by
  unfold Machine.doConfigureSurvey
  split_ifs
  · exact h
  · exact h
  · exact b.survey (fun v => { v with cfgAttempts := attempts, cfgPairs := pairs }) s h

theorem doStartBackbone (b : Steady I) (h : I s) : I (doStartBackbone s).state := by
  unfold Machine.doStartBackbone
  dsimp only
  split_ifs
  · exact h
  · have unconfused : s.cm.Keeps { s.cm with confused := false } := ⟨id, id, rfl⟩
    exact b.beaconStart (b.sup _ _ (fun _ => supervisionOk_reset) (b.bc _ _ (b.survey (fun v => { v with
      state := .surveying, attempts := v.cfgAttempts, cause := CloseCause.none }) _ (b.cm _ _ unconfused h))))

theorem doStopBackbone (b : Steady I) (h : I s) : I (doStopBackbone s).state := by
  unfold Machine.doStopBackbone
  split_ifs
  · exact h
  · exact b.bc _ _ h

theorem doSurvey (b : Steady I) (h : I s) : I (doSurvey s).state := by
  unfold Machine.doSurvey
  split
  · exact h
  · exact h
  · exact b.survey (fun v => { v with state := .surveying, cause := CloseCause.none, attempts := v.cfgAttempts }) s h

theorem doSetRotationEntry (b : Steady I) (h : I s) (index page dwell next : Nat) :
    I (doSetRotationEntry index page dwell next s).state := by
  unfold Machine.doSetRotationEntry
  split
  · exact h
  · split_ifs with bad
    · exact h
    · simp only [Bool.or_eq_true, decide_eq_true_eq, not_or, not_lt] at bad
      obtain ⟨⟨⟨-, next_⟩, one⟩, byte⟩ := bad
      refine b.rotation _ _ (fun ⟨size, entries, start, current, rest⟩ => ⟨by simpa using size, fun e m => ?_, start, current, rest⟩) h
      obtain m | rfl := List.mem_or_eq_of_mem_set m
      · exact entries e m
      · exact ⟨Nat.lt_succ_of_le next_, one, byte⟩

theorem doSetRotationStart (b : Steady I) (h : I s) (index : Nat) : I (doSetRotationStart index s).state := by
  unfold Machine.doSetRotationStart
  split_ifs with bad
  · exact h
  · exact b.rotation _ _ (fun ⟨size, entries, _, rest⟩ => ⟨size, entries, Nat.lt_succ_of_le (not_lt.mp bad), rest⟩) h

theorem doClearLineFlags (b : Steady I) (h : I s) (mask : Nat) : I (doClearLineFlags mask s).state := by
  unfold Machine.doClearLineFlags
  split_ifs
  · exact h
  · exact b.sup _ _ (fun k => SupervisionOk.of_runs k rfl rfl rfl rfl) h

theorem doLockTable (b : Steady I) (h : I s) (table : Nat) : I (doLockTable table s).state := by
  unfold Machine.doLockTable
  split
  · exact h
  · exact b.sup _ _ (fun k => SupervisionOk.setLock k _ _) h

theorem doUnlockTable (b : Steady I) (h : I s) (table : Nat) : I (doUnlockTable table s).state := by
  unfold Machine.doUnlockTable
  split
  · exact h
  · exact b.sup _ _ (fun k => SupervisionOk.setLock k _ _) h

theorem doSetCapture (b : Steady I) (h : I s) (mode : Nat) : I (doSetCapture mode s).state := by
  unfold Machine.doSetCapture
  split
  · exact b.sup _ _ (fun k => SupervisionOk.of_runs k rfl rfl rfl rfl) h
  · exact b.sup _ _ (fun k => SupervisionOk.of_runs k rfl rfl rfl rfl) h
  · exact h

/-- A request keeps what shared operations, changes of the backbone and the link's own requests keep. -/
theorem act (b : Steady I) (c : Instr) (h : I s) : I (act c s).state := by
  cases q : sharedRequest c with
  | true => exact b.toShared.act q h
  | false =>
    cases c with
    | linkReset => exact b.linkReset _ h
    | setReporting => exact b.setReporting _ _ _ h
    | summary => exact b.summary _ h
    | configureSurvey => exact b.doConfigureSurvey h ..
    | startBackbone => exact b.doStartBackbone h
    | stopBackbone => exact b.doStopBackbone h
    | survey => exact b.doSurvey h
    | setRotationEntry => exact b.doSetRotationEntry h ..
    | setRotationStart => exact b.doSetRotationStart h _
    | clearLineFlags => exact b.doClearLineFlags h _
    | lockTable => exact b.doLockTable h _
    | unlockTable => exact b.doUnlockTable h _
    | setCapture => exact b.doSetCapture h _
    | _ => cases q

end Steady
end Sys2Proof.Machine
end

section
/-! The consist, the content block sets and the page rotation, kept by every step. -/

namespace Sys2Proof.Machine

variable {s t : State}

/-- An invariant of the consist alone that lawful changes keep and that does not see the survey is steady. -/
theorem steady_cm {P : Cm → Prop} (keeps : ∀ c d, c.Keeps d → P c → P d)
    (survey : ∀ c v, P c → P { c with survey := v }) : Steady fun s => P s.cm where
  jt _ _ h := h
  rs _ _ h := h
  cm s v k h := keeps s.cm v k h
  advanced _ _ h := h
  abort test s h := by rwa [abortIf_cm]
  alarms _ _ h := h
  raise _ _ _ _ _ h := h
  survey _ _ h := survey _ _ h
  bc _ _ h := h
  sup _ _ _ h := h
  rotation _ _ _ h := h
  finish r data s h := by rwa [finishHead_cm]
  linkReset _ h := h
  setReporting classes order s h := by
    unfold doSetReporting
    split
    · exact h
    · split_ifs <;> exact h
  summary _ h := h

theorem unlinked_cm (P : Cm → Prop) : Unlinked fun s => P s.cm :=
  ⟨fun _ _ _ _ h => h, fun _ _ h => h, fun _ _ h => h, fun _ _ h => h⟩

/-- A step keeps a steady invariant that does not see the link, when the resets keep it. -/
theorem Steady.step {I : State → Prop} (b : Steady I) (u : Unlinked I) (r : ∀ s, I s → I (partReset s))
    (p : ∀ rate l, I (State.powerOn rate l)) (h : I s) (x : step s = .next t) : I t :=
  u.step (fun c _ => b.act c) (fun c _ h => b.blockEvent h c) r p (fun _ h => b.bc _ _ h) h x

/-- A reset empties the consist and keeps a lawful type table, or empties it (R53, R83, R210). -/
theorem consistOk_cm_reset {l : List TypeRecord} (known : l.length ≤ Config.maxTypes) (codes : (l.map (·.code)).Nodup) :
    ConsistOk (.reset l) := ⟨Nat.zero_le _, List.nodup_nil, Nat.zero_le _, nofun, known, codes⟩

theorem step_keeps_consistOk (h : ConsistOk s.cm) (x : step s = .next t) : ConsistOk t.cm :=
  (steady_cm (fun _ _ k => k.consist) fun _ _ h => h).step (unlinked_cm _)
    (fun _ ⟨_, _, _, _, known, codes⟩ => consistOk_cm_reset known codes)
    (fun _ _ => consistOk_cm_reset (Nat.zero_le _) List.nodup_nil) h x

theorem step_keeps_blocksOk (h : BlocksOk s.cm) (x : step s = .next t) : BlocksOk t.cm :=
  (steady_cm (fun _ _ k => k.blocks) fun _ _ h => h).step (unlinked_cm _) (fun _ _ _ m => absurd m List.not_mem_nil)
    (fun _ _ _ m => absurd m List.not_mem_nil) h x

/-! ## A step and the link -/

/-- What an invariant that sees the link must bear at each of the link's own moments. -/
structure Linked (I : State → Prop) : Prop where
  emptied : ∀ s, I s → I (s.setDc { s.dc with advanced := [] })
  waiting : ∀ s l, I s → I (s.setPending l)
  receiver : ∀ s rx e, I s → I (s.setClc { s.clc with rx := rx, linkError := e })
  arrive : ∀ q s, q.state = .waiting → I s → I (arrive q s)
  frameEnd : ∀ s, I s → I (frameEnd s)
  ready : ∀ s, I s → I (becomeReady s)
  released : ∀ rate l, I (State.powerOn rate l)
  held : ∀ s, I (holdReset s)

namespace Linked

variable {I : State → Prop}

theorem event (b : Linked I) {f : State → State} (a : ∀ s, I s → I (f s)) (h : I s) : I (event f s) := by
  unfold Machine.event
  split_ifs
  · exact h
  · exact b.emptied _ (a _ (b.emptied _ h))

theorem linkByte (b : Linked I) (x : Byte) (h : I s) : I (linkByte x s) := by
  have rx (r : LinkRx) : I (setRx r s) := b.receiver s r s.clc.linkError h
  have discarded : I (discard s) := b.receiver s .hunt true h
  unfold Machine.linkByte
  split
  · split_ifs
    · exact rx _
    · exact h
  · exact rx _
  · dsimp only
    split_ifs
    · exact rx _
    · exact discarded
  · exact rx _
  · exact rx _
  · unfold frameDone
    split
    · split_ifs
      · exact b.arrive _ _ rfl (rx _)
      · exact discarded
    · exact discarded

theorem linkChar (b : Linked I) (x : LinkChar) (h : I s) : I (linkChar x s) := by
  unfold Machine.linkChar
  split
  · exact h
  · split
    · exact b.linkByte _ h
    · split_ifs
      · exact h
      · exact b.receiver s .hunt true h

theorem gapExpiry (b : Linked I) (h : I s) : I (gapExpiry s) := by
  unfold Machine.gapExpiry
  split_ifs
  · exact h
  · exact b.receiver s .hunt true h

/-- A command keeps an invariant that the moments of the link and the other events keep. -/
theorem exec (b : Linked I) (e : ∀ c s, I s → I (blockEvent c s)) {c : Instr} (h : I s) (x : exec c s = .next t) : I t := by
  cases q : c.request with
  | some y =>
    rw [exec_of_request q] at x
    cases x
    exact b.event (fun _ k => b.arrive _ _ rfl k) h
  | none =>
    have block (g : Machine.exec c s = .next (Machine.event (blockEvent c) s)) : I t := by
      rw [g] at x
      cases x
      exact b.event (e c) h
    cases c with
    | copyCompletion | odoPulse | odometerWindowExpiry | minuteTimerExpiry | cycleEnd | cycleStart | coachSlotStart
    | contentFrameComplete | backboneFrameReceived | coachSlotEnd | callWindowStart | callWindowEnd | quietGapStart =>
      exact block rfl
    | unknownRequestKind kind tag => cases x; exact b.event (fun _ k => b.arrive _ _ rfl k) h
    | linkCharacterReceived char => cases x; exact b.event (fun _ k => b.linkChar _ k) h
    | linkGapTimerExpiry => cases x; exact b.event (fun _ k => b.gapExpiry k) h
    | transmitterFrameEnd => cases x; exact b.event b.frameEnd h
    | ready => cases x; exact b.event b.ready h
    | resetnHigh => cases x; exact b.released _ _
    | resetnLow => cases x; exact b.held s
    | _ => cases q

/-- A step keeps an invariant that the moments of the link, the other events and a symbol time keep. -/
theorem step (b : Linked I) (e : ∀ c s, I s → I (blockEvent c s)) (y : ∀ s, I s → I (symbolTime s)) (h : I s)
    (x : step s = .next t) : I t := by
  unfold Machine.step at x
  split at x
  · cases x
    exact y s h
  · exact b.exec e (b.waiting s _ h) x

end Linked

/-- A request is answered: the owning block has done its part, and the head is finished (R202). -/
theorem settle_keeps {I : State → Prop} (b : Steady I) (q : Queued) (h : I s) : I (settle (answerOf q s)) := by
  have k : I (answerOf q s).state := by
    unfold answerOf
    split
    · exact h
    · split
      · exact h
      · exact b.act _ h
  cases e : answerOf q s with
  | now u r data => rw [e] at k; exact b.finish r data u k
  | later u => rw [e] at k; exact k

/-! ## What the transmitter takes -/

/-- Another request queue, reply list or transmitter, and reports, overflow mark and drop count as they were or less (R206,
R216). -/
structure Clc.Sends (c d : Clc) : Prop where
  reports : d.reports.Sublist c.reports
  enabled : d.enabled = c.enabled
  mark : d.overflow = c.overflow ∧ d.drops = c.drops ∨ d.overflow = false ∧ d.drops = 0

theorem Clc.Sends.refl (c : Clc) : c.Sends c := ⟨.refl _, rfl, .inl ⟨rfl, rfl⟩⟩

theorem Clc.sends_transmit (c : Clc) : c.Sends c.transmit := by
  unfold Clc.transmit
  split_ifs
  · unfold Clc.takeNext
    split
    · exact ⟨.refl _, rfl, .inl ⟨rfl, rfl⟩⟩
    · split
      · exact ⟨List.erase_sublist, rfl, .inr ⟨rfl, rfl⟩⟩
      · exact .refl c
  · exact .refl c

/-- What the transmitter takes from the same reports with another queue and reply list. -/
theorem Clc.sends_transmit_of {c d : Clc} (h : c.Sends d) : c.Sends d.transmit := by
  obtain ⟨reports, enabled, mark⟩ := h
  obtain ⟨r, e, m⟩ := d.sends_transmit
  refine ⟨r.trans reports, e.trans enabled, ?_⟩
  obtain ⟨o, n⟩ | m := m
  · exact mark.imp (fun ⟨a, b⟩ => ⟨o.trans a, n.trans b⟩) fun ⟨a, b⟩ => ⟨o.trans a, n.trans b⟩
  · exact .inr m

/-- A steady invariant that sees of the link its reports, and bears their being sent, bears the moments of the link. -/
theorem Steady.linked {I : State → Prop} (b : Steady I) (sends : ∀ s c, s.clc.Sends c → I s → I (s.setClc c))
    (waiting : ∀ s l, I s → I (s.setPending l)) (reset : ∀ s, I s → I (partReset s))
    (released : ∀ rate l, I (State.powerOn rate l)) (held : ∀ s, I (holdReset s)) : Linked I := by
  have queue (s : State) (l : List Queued) (h : I s) : I (s.setClc { s.clc with queue := l }) :=
    sends s _ ⟨.refl _, rfl, .inl ⟨rfl, rfl⟩⟩ h
  have begin_ (s : State) (h : I s) : I (beginHead s) := by
    unfold beginHead
    split
    · split_ifs
      · exact settle_keeps b _ (queue s _ h)
      · exact h
    · exact h
  have free (s : State) (h : I s) : I (freeTx s) := sends s _ (Clc.sends_transmit_of ⟨.refl _, rfl, .inl ⟨rfl, rfl⟩⟩) h
  refine ⟨fun s => b.advanced s [], waiting, fun s _ _ => sends s _ ⟨.refl _, rfl, .inl ⟨rfl, rfl⟩⟩, fun q s _ h => ?_,
    fun s h => ?_, fun s h => ?_, released, held⟩
  · unfold arrive
    dsimp only
    split_ifs
    · exact h
    · exact begin_ _ (queue s _ h)
    · exact queue s _ h
    · exact sends s _ (Clc.sends_transmit_of ⟨.refl _, rfl, .inl ⟨rfl, rfl⟩⟩) h
    · exact sends s _ ⟨.refl _, rfl, .inl ⟨rfl, rfl⟩⟩ h
  · have sent (s : State) (r : Reply) (h : I s) : I (s.setClc { s.clc with replies := s.clc.replies.erase r }) :=
      sends s _ ⟨.refl _, rfl, .inl ⟨rfl, rfl⟩⟩ h
    unfold frameEnd
    split
    · exact h
    · exact begin_ _ (free _ h)
    · dsimp only
      split_ifs
      · exact reset s h
      · exact begin_ _ (free _ (queue _ _ (sent s _ h)))
      · exact begin_ _ (free _ (sent s _ h))
  · unfold becomeReady
    split
    · exact b.raise _ _ _ _ _ (sends s _ ⟨.refl _, rfl, .inl ⟨rfl, rfl⟩⟩ h)
    · exact h

/-! ## The page rotation -/

theorem steady_rotation : Steady fun s => RotationOk s.dc where
  jt _ _ h := h
  rs _ _ h := h
  cm _ _ _ h := h
  advanced _ _ h := h
  abort test s h := by rwa [abortIf_dc]
  alarms _ _ h := h
  raise _ _ _ _ _ h := h
  survey _ _ h := h
  bc _ _ h := h
  sup _ _ _ h := h
  rotation _ _ k h := k h
  finish r data s h := by rwa [finishHead_dc]
  linkReset _ h := h
  setReporting classes order s h := by
    unfold doSetReporting
    split
    · exact h
    · split_ifs <;> exact h
  summary _ h := h

theorem step_keeps_rotationOk (h : RotationOk s.dc) (x : step s = .next t) : RotationOk t.dc :=
  (steady_rotation.linked (fun _ _ _ h => h) (fun _ _ h => h) (fun _ _ => rotationOk_reset) (fun _ _ => rotationOk_reset)
    fun _ => rotationOk_reset).step (fun c _ h => steady_rotation.blockEvent h c) (fun _ h => h) h x

/-- Settles O58: each invariant is kept by the shared operations, the events and the resets, and so by every step. -/
theorem everyStepKeepsTheConsistAndBlockInvariants : Obligations.EveryStepKeepsTheConsistAndBlockInvariants := by
  unfold Obligations.EveryStepKeepsTheConsistAndBlockInvariants
  exact ⟨fun _ _ => step_keeps_consistOk, fun _ _ => step_keeps_blocksOk, fun _ _ => step_keeps_rotationOk⟩

end Sys2Proof.Machine
end

section
/-! The report queue and the request queue, kept by every step. -/

namespace Sys2Proof.Machine

variable {s t : State} {c d : Clc}

/-! ## The report queue -/

theorem Report.sameKey_eq_false_comm {r q : Report} (h : r.sameKey q = false) : q.sameKey r = false := by
  rw [← h]
  simp only [Report.sameKey, eq_comm]

/-- Fewer reports, of classes that are enabled, with the drop count as it was or cleared (R214, R216). -/
theorem ReportsOk.sends (h : ReportsOk c) (k : c.Sends d) : ReportsOk d := by
  obtain ⟨size, keys, classes, drops, mark⟩ := h
  obtain ⟨reports, enabled, m⟩ := k
  refine ⟨reports.length_le.trans size, keys.sublist reports, fun r m => by rw [enabled]; exact classes r (reports.subset m), ?_⟩
  obtain ⟨o, n⟩ | ⟨-, n⟩ := m
  · rw [o, n]
    exact ⟨drops, mark⟩
  · rw [n]
    exact ⟨Nat.zero_le _, fun _ => rfl⟩

/-- A report replaces that of its key, joins the queue with a new key, or is dropped (R215). -/
theorem ReportsOk.enqueue (h : ReportsOk c) (r : Report) : ReportsOk (c.enqueue r) := by
  obtain ⟨size, keys, classes, drops, mark⟩ := h
  unfold Clc.enqueue
  split_ifs with off same room
  · exact ⟨size, keys, classes, drops, mark⟩
  · have key (a b : Report) : (if r.sameKey a then { a with data := r.data } else a).sameKey
        (if r.sameKey b then { b with data := r.data } else b) = a.sameKey b := by
      split_ifs <;> rfl
    have cls (a : Report) : (if r.sameKey a then { a with data := r.data } else a).cls = a.cls := by
      split_ifs <;> rfl
    refine ⟨by simpa using size, ?_, fun q m => ?_, drops, mark⟩
    · simpa only [List.pairwise_map, key] using keys
    · obtain ⟨a, here, rfl⟩ := List.mem_map.mp m
      rw [cls]
      exact classes a here
  · have fresh (q : Report) (m : q ∈ c.reports) : q.sameKey r = false :=
      Report.sameKey_eq_false_comm (by simpa using fun e => same (List.any_eq_true.mpr ⟨q, m, e⟩))
    refine ⟨by simpa using Nat.succ_le_of_lt room, ?_, fun q m => ?_, drops, mark⟩
    · exact List.pairwise_append.mpr ⟨keys, List.pairwise_singleton .., fun q m x n => by
        rw [List.mem_singleton.mp n]
        exact fresh q m⟩
    · obtain m | m := List.mem_append.mp m
      · exact classes q m
      · rw [List.mem_singleton.mp m]
        simpa using off
  · exact ⟨size, keys, classes, Nat.min_le_left .., nofun⟩

/-- The head finished changes of the link the queue, the replies and what the transmitter takes (R202, R206). -/
theorem sends_finishHead (r : ResultCode) (data : List Byte) (s : State) : s.clc.Sends (finishHead r data s).clc := by
  unfold finishHead
  split
  · split_ifs
    · exact Clc.sends_transmit_of ⟨.refl _, rfl, .inl ⟨rfl, rfl⟩⟩
    · exact .refl _
  · exact .refl _

theorem steady_reports : Steady fun s => ReportsOk s.clc where
  jt _ _ h := h
  rs _ _ h := h
  cm _ _ _ h := h
  advanced _ _ h := h
  abort test s h := by rwa [abortIf_clc]
  alarms _ _ h := h
  raise _ _ _ _ _ h := (ReportsOk.enqueue h _).sends (Clc.sends_transmit _)
  survey _ _ h := h
  bc _ _ h := h
  sup _ _ _ h := h
  rotation _ _ _ h := h
  finish r data s h := h.sends (sends_finishHead r data s)
  linkReset _ _ := ⟨Nat.zero_le _, .nil, fun _ m => absurd m List.not_mem_nil, Nat.zero_le _, fun _ => rfl⟩
  setReporting classes order s h := by
    obtain ⟨size, keys, enabled, rest⟩ := h
    unfold doSetReporting
    split
    · exact ⟨size, keys, enabled, rest⟩
    · split_ifs
      · exact ⟨size, keys, enabled, rest⟩
      · exact ⟨(List.length_filter_le ..).trans size, keys.filter _, fun r m => (List.mem_filter.mp m).2, rest⟩
  summary _ h := h

theorem reportsOk_clc_reset (rate : Nat) (cause : ReadyCause) : ReportsOk (.reset rate cause) := reportsOk_reset

theorem step_keeps_reportsOk (h : ReportsOk s.clc) (x : step s = .next t) : ReportsOk t.clc :=
  (steady_reports.linked (fun _ _ k h => ReportsOk.sends h k) (fun _ _ h => h) (fun s _ => reportsOk_clc_reset s.clc.rate _)
    (fun rate _ => reportsOk_clc_reset rate _) fun _ => reportsOk_reset).step (fun c _ h => steady_reports.blockEvent h c) (fun _ h => h) h x

/-! ## The request queue -/

/-- The same queue and reply list, the transmitter as it was or not sending a reply (R206). -/
theorem QueueOk.of_same (h : QueueOk c) (queue : d.queue = c.queue) (replies : d.replies = c.replies)
    (tx : d.tx = c.tx ∨ d.tx.replying = false) : QueueOk d := by
  obtain ⟨size, behind, refused, head, sent⟩ := h
  refine ⟨by rwa [queue], by rwa [queue], ?_, ?_, fun r e => ?_⟩
  · unfold Clc.refusals at refused ⊢
    rwa [replies]
  · unfold Clc.headReplying at head ⊢
    rwa [replies, queue]
  · obtain tx | tx := tx
    · rw [replies]
      exact sent r (tx ▸ e)
    · rw [e] at tx
      cases tx

/-- An IDLE transmitter takes the oldest reply, or a report (R206). -/
theorem QueueOk.transmit (h : QueueOk c) : QueueOk c.transmit := by
  unfold Clc.transmit
  split_ifs with free
  · unfold Clc.takeNext
    split
    · next r rest q =>
      obtain ⟨size, behind, refused, head, -⟩ := h
      exact ⟨size, behind, refused, head, fun x e => by cases e; exact congrArg List.head? q⟩
    · split
      · exact h.of_same rfl rfl (.inr rfl)
      · exact h
  · exact h

/-- The head's reply is missing exactly while the head is not REPLYING. -/
theorem QueueOk.no_reply (h : QueueOk c) (k : c.headReplying = false) : (c.replies.filter (·.forHead)).length = 0 := by
  obtain ⟨-, -, -, head, -⟩ := h
  rw [head, k]
  rfl

/-- A QUEUE_FULL reply joins fewer than 4 (R201). -/
theorem QueueOk.refused (h : QueueOk c) (room : c.refusals < Config.maxRefusals) {r : Reply} (k : r.forHead = false) :
    QueueOk { c with replies := c.replies ++ [r] } := by
  obtain ⟨size, behind, -, head, sent⟩ := h
  refine ⟨size, behind, ?_, ?_, fun x e => by simp [sent x e]⟩
  · unfold Clc.refusals at room ⊢
    simpa [k] using Nat.succ_le_of_lt room
  · exact Eq.trans (by simp [k]) head

/-- The head gets its reply and becomes REPLYING (R202, R204). -/
theorem QueueOk.finished (h : QueueOk c) {q p : Queued} {rest : List Queued} (at_ : c.queue = q :: rest)
    (before : q.state ≠ .replying) (after : p.state = .replying) {r : Reply} (k : r.forHead = true) :
    QueueOk { c with queue := p :: rest, replies := c.replies ++ [r] } := by
  have none := h.no_reply (by simp [Clc.headReplying, at_, before])
  obtain ⟨size, behind, refused, -, sent⟩ := h
  rw [at_] at size behind
  refine ⟨size, behind, ?_, ?_, fun x e => by simp [sent x e]⟩
  · unfold Clc.refusals at refused ⊢
    simpa [k] using refused
  · simpa [Clc.headReplying, after, k] using none

/-- Another queue with the same head state (R202, R208). -/
theorem QueueOk.requeued (h : QueueOk c) {l : List Queued} (size : l.length ≤ Config.maxRequests)
    (behind : ∀ q ∈ l.tail, q.state = .waiting)
    (head : (l.head?.any fun q => q.state = .replying) = c.headReplying) : QueueOk { c with queue := l } := by
  obtain ⟨-, -, refused, reply, sent⟩ := h
  exact ⟨size, behind, refused, reply.trans (congrArg (fun b : Bool => if b = true then 1 else 0) head.symm), sent⟩

theorem QueueOk.finishHead (h : QueueOk s.clc) (r : ResultCode) (data : List Byte) : QueueOk (finishHead r data s).clc := by
  unfold Machine.finishHead
  split
  · next q rest at_ =>
    split_ifs with now
    · exact (h.finished at_ (by simp [now]) rfl rfl).transmit
    · exact h
  · exact h

theorem steady_queue : Steady fun s => QueueOk s.clc where
  jt _ _ h := h
  rs _ _ h := h
  cm _ _ _ h := h
  advanced _ _ h := h
  abort test s h := by rwa [abortIf_clc]
  alarms _ _ h := h
  raise _ _ _ _ _ h := (QueueOk.of_same h (by simp) (by simp) (.inl (by simp))).transmit
  survey _ _ h := h
  bc _ _ h := h
  sup _ _ _ h := h
  rotation _ _ _ h := h
  finish r data s h := QueueOk.finishHead h r data
  linkReset s h := by
    have taken : QueueOk { s.clc with queue := s.clc.queue.take 1 } := by
      refine QueueOk.requeued h ((List.length_take_le ..).trans (by decide)) (fun p m => ?_) ?_
      · cases q : s.clc.queue <;> simp [q] at m
      · cases q : s.clc.queue <;> simp [Clc.headReplying, q]
    exact taken.of_same rfl rfl (.inl rfl)
  setReporting classes order s h := by
    unfold doSetReporting
    split
    · exact h
    · split_ifs <;> exact h
  summary _ h := h

theorem QueueOk.beginHead (h : QueueOk s.clc) : QueueOk (beginHead s).clc := by
  unfold Machine.beginHead
  split
  · next q rest at_ =>
    split_ifs with waits
    · refine settle_keeps steady_queue q ?_
      have size : (q :: rest).length ≤ Config.maxRequests := at_ ▸ h.1
      have behind : ∀ p ∈ (q :: rest).tail, p.state = .waiting := at_ ▸ h.2.1
      exact h.requeued (l := { q with state := .handling } :: rest) size behind (by simp [Clc.headReplying, at_, waits])
    · exact h
  · exact h

theorem QueueOk.arrive (h : QueueOk s.clc) {q : Queued} (k : q.state = .waiting) : QueueOk (arrive q s).clc := by
  have joined (room : s.clc.queue.length < Config.maxRequests) : QueueOk { s.clc with queue := s.clc.queue ++ [q] } := by
    refine h.requeued (by simpa using Nat.succ_le_of_lt room) (fun p m => ?_) ?_
    · cases e : s.clc.queue with
      | nil => simp [e] at m
      | cons x rest =>
        rw [e, List.cons_append, List.tail_cons] at m
        obtain m | m := List.mem_append.mp m
        · exact h.2.1 p (by rwa [e])
        · rwa [List.mem_singleton.mp m]
    · cases e : s.clc.queue <;> simp [Clc.headReplying, e, k]
  unfold Machine.arrive
  dsimp only
  split_ifs with up room first full
  · exact h
  · exact QueueOk.beginHead (joined room)
  · exact joined room
  · exact (h.refused full rfl).transmit
  · exact h.of_same rfl rfl (.inl rfl)

/-- A reply sent leaves the reply list, and the head the queue if it was its own (R206). -/
theorem QueueOk.replySent (h : QueueOk c) {r : Reply} (x : c.tx = .reply r) : QueueOk { c with
    tx := .idle, replies := c.replies.erase r, queue := if r.forHead then c.queue.tail else c.queue } := by
  obtain ⟨size, behind, refused, head, sent⟩ := h
  obtain ⟨rest, list⟩ : ∃ rest, c.replies = r :: rest := by
    cases e : c.replies with
    | nil => have := sent r x; simp [e] at this
    | cons p rest => have := sent r x; exact ⟨rest, by simpa [e] using this⟩
  rw [list, List.erase_cons_head]
  unfold Clc.refusals at refused
  rw [list] at refused head
  cases own : r.forHead with
  | true =>
    have reply : (rest.filter (·.forHead)).length = 0 := by
      rw [List.filter_cons_of_pos (by simpa using own), List.length_cons] at head
      split at head <;> omega
    refine ⟨(List.tail_sublist _).length_le.trans size, fun p m => behind p (List.mem_of_mem_tail m), ?_, ?_, nofun⟩
    · simpa [Clc.refusals, own] using refused
    · have waits : ∀ p ∈ c.queue.tail.head?, p.state = .waiting := fun p m => behind p (List.mem_of_mem_head? m)
      simp only [Clc.headReplying, if_true, reply]
      cases e : c.queue.tail.head? with
      | none => rfl
      | some p => simp [waits p e]
  | false =>
    refine ⟨size, behind, ?_, ?_, nofun⟩
    · refine le_trans ?_ refused
      simp [Clc.refusals, own]
    · exact Eq.trans (by simp [own]) head

theorem QueueOk.frameEnd (h : QueueOk s.clc) : QueueOk (frameEnd s).clc := by
  unfold Machine.frameEnd
  split
  · exact h
  · have free : QueueOk { s.clc with tx := .idle } := h.of_same rfl rfl (.inr rfl)
    exact QueueOk.beginHead free.transmit
  · next r x =>
    have k := h.replySent x
    dsimp only
    split_ifs with resets own
    · exact queueOk_reset
    · rw [own, if_pos rfl] at k
      exact QueueOk.beginHead k.transmit
    · rw [if_neg own] at k
      exact QueueOk.beginHead k.transmit

theorem linked_queue : Linked fun s => QueueOk s.clc where
  emptied _ h := h
  waiting _ _ h := h
  receiver _ _ _ h := QueueOk.of_same h rfl rfl (.inl rfl)
  arrive _ _ k h := QueueOk.arrive h k
  frameEnd _ h := QueueOk.frameEnd h
  ready s h := by
    unfold becomeReady
    split
    · exact steady_queue.raise _ _ _ _ _ (QueueOk.of_same h rfl rfl (.inl rfl))
    · exact h
  released _ _ := queueOk_reset
  held _ := queueOk_reset

theorem step_keeps_queueOk (h : QueueOk s.clc) (x : step s = .next t) : QueueOk t.clc :=
  linked_queue.step (fun c _ h => steady_queue.blockEvent h c) (fun _ h => h) h x

end Sys2Proof.Machine
end

section
/-! Supervision and the backbone, kept by every step. -/

namespace Sys2Proof.Machine

variable {s t : State}

/-! ## Supervision -/

/-- An abort changes of supervision two flags (R159, R177). -/
theorem supervisionOk_abortIf (test : Nat → BlockKind → Bool) (h : SupervisionOk s.sup) : SupervisionOk (abortIf test s).sup := by
  unfold abortIf abortFrame
  split
  · dsimp only
    split_ifs
    · exact h.of_runs rfl rfl rfl rfl
    · exact h
  · exact h

theorem steady_supervision : Steady fun s => SupervisionOk s.sup where
  jt _ _ h := h
  rs _ _ h := h
  cm _ _ _ h := h
  advanced _ _ h := h
  abort test s h := supervisionOk_abortIf test h
  alarms _ _ h := h
  raise _ _ _ _ _ h := h
  survey _ _ h := h
  bc _ _ h := h
  sup _ _ k h := k h
  rotation _ _ _ h := h
  finish r data s h := by rwa [finishHead_sup]
  linkReset _ h := h
  setReporting classes order s h := by
    unfold doSetReporting
    split
    · exact h
    · split_ifs <;> exact h
  summary _ h := h

theorem step_keeps_supervisionOk (h : SupervisionOk s.sup) (x : step s = .next t) : SupervisionOk t.sup :=
  steady_supervision.step ⟨fun _ _ _ _ h => h, fun _ _ h => h, fun _ _ h => h, fun _ _ h => h⟩
    (fun _ _ => supervisionOk_reset) (fun _ _ => supervisionOk_reset) h x

/-! ## The backbone -/

/-- Another Backbone Controller in the same state, with a segment running exactly if one ran. -/
theorem BackboneOk.setBc (h : BackboneOk s) {v : Bc} (state : v.state = s.bc.state)
    (segment : v.segment = .none ↔ s.bc.segment = .none) (counter : v.counter < 32) (sent : v.sent ≤ 65535)
    (aborted : v.aborted ≤ 65535) (clock : v.clock ≤ v.segment.length) : BackboneOk (s.setBc v) := by
  obtain ⟨survey, runs, -, -, -, -⟩ := h
  refine ⟨?_, ?_, counter, sent, aborted, clock⟩
  · rw [State.setBc_bc, State.setBc_cm, state]
    exact survey
  · rw [State.setBc_bc, state, segment]
    exact runs

/-- What the backbone shows in a segment is kept by the shared operations. -/
theorem shared_backbone (g : CycleSegment) : Shared fun s => BackboneOk s ∧ s.bc.segment = g where
  jt _ _ h := h
  rs _ _ h := h
  cm s v k h := by
    obtain ⟨⟨survey, rest⟩, seg⟩ := h
    exact ⟨⟨by rw [State.setCm_cm, k.survey]; exact survey, rest⟩, seg⟩
  advanced _ _ h := h
  abort test s h := by
    obtain ⟨⟨survey, runs, counter, sent, aborted, clock⟩, seg⟩ := h
    unfold abortIf abortFrame
    split
    · dsimp only
      split_ifs
      · exact ⟨⟨survey, runs, counter, sent, Nat.min_le_left .., clock⟩, seg⟩
      · exact ⟨⟨survey, runs, counter, sent, aborted, clock⟩, seg⟩
    · exact ⟨⟨survey, runs, counter, sent, aborted, clock⟩, seg⟩
  alarms _ _ h := h
  raise _ _ _ _ _ h := h

/-- While a segment runs, a change of the survey that does not take it OFF is kept. -/
theorem backbone_setSurvey {g : CycleSegment} (runs : g ≠ .none) (f : Survey → Survey) (s : State) (on : StaysOn f)
    (h : BackboneOk s ∧ s.bc.segment = g) : BackboneOk (setSurvey f s) ∧ (setSurvey f s).bc.segment = g := by
  obtain ⟨⟨survey, segment, rest⟩, seg⟩ := h
  have up : s.bc.state ≠ .off := fun e => runs (seg ▸ segment.mp e)
  exact ⟨⟨iff_of_false (on _ fun e => up (survey.mp e)) up, segment, rest⟩, seg⟩

namespace BackboneOk

theorem finishHead (h : BackboneOk s) (r : ResultCode) (data : List Byte) : BackboneOk (finishHead r data s) := by
  unfold BackboneOk
  rwa [finishHead_bc, finishHead_cm]

/-- Time runs at most to the end of the segment (R152). -/
theorem runTo (h : BackboneOk s) (n : Nat) : BackboneOk (runTo n s) := by
  obtain ⟨-, -, counter, sent, aborted, clock⟩ := id h
  exact h.setBc rfl .rfl counter sent aborted (Nat.max_le.mpr ⟨clock, Nat.min_le_right ..⟩)

/-- Another segment begins in the place of one that runs (R152). -/
theorem enter (h : BackboneOk s) {g : CycleSegment} (runs : s.bc.segment ≠ .none) (next : g ≠ .none) {v : Bc}
    (state : v.state = s.bc.state) (segment : v.segment = g) (counter : v.counter = s.bc.counter) (sent : v.sent ≤ 65535)
    (aborted : v.aborted = s.bc.aborted) (clock : v.clock ≤ g.length) : BackboneOk (s.setBc v) := by
  obtain ⟨-, -, counts, -, aborts, -⟩ := id h
  exact h.setBc state (iff_of_false (segment ▸ next) runs) (counter ▸ counts) sent (aborted ▸ aborts) (segment ▸ clock)

theorem beaconStart (h : BackboneOk s) (runs : s.bc.segment ≠ .none) : BackboneOk (beaconStart s) := by
  have sent : s.bc.sent ≤ 65535 := h.2.2.2.1
  exact enter (s := s.setSup (s.sup.beacon s.bc.counter)) h runs (g := .beacon) nofun rfl rfl rfl sent rfl (Nat.zero_le _)

/-- With the survey and the Backbone Controller both OFF (R59, R173). -/
theorem stopped (h : BackboneOk s) {t : State} (survey : t.cm.survey.state = .off) (state : t.bc.state = .off)
    (segment : t.bc.segment = .none) (counter : t.bc.counter = s.bc.counter) (sent : t.bc.sent = s.bc.sent)
    (aborted : t.bc.aborted = s.bc.aborted) (clock : t.bc.clock = 0) : BackboneOk t := by
  obtain ⟨-, -, counts, sends, aborts, -⟩ := h
  exact ⟨iff_of_true survey state, iff_of_true state segment, counter ▸ counts, sent ▸ sends, aborted ▸ aborts, clock ▸ Nat.zero_le _⟩

end BackboneOk

/-- Without a CONTENT frame the Backbone Controller and supervision are untouched (R159). -/
theorem AbortAtMost.eq_of_no_frame (h : AbortAtMost s t) (none : s.bc.frame = none) : t.bc = s.bc ∧ t.sup = s.sup := by
  obtain same | ⟨f, at_, -⟩ := h
  · exact same
  · rw [none] at at_
    cases at_

theorem stopConsist_survey_off (s : State) : (stopConsist s).cm.survey.state = .off := by
  unfold stopConsist
  dsimp only
  split_ifs <;> rfl

theorem BackboneOk.backboneOff (h : BackboneOk s) : BackboneOk (backboneOff s) := by
  have bc := ((kept_stopConsist (s.setBc { s.bc.enter .none with state := .off, rxA := .hunt, rxB := .hunt })).abort.eq_of_no_frame
    rfl).1
  refine BackboneOk.finishHead (h.stopped (stopConsist_survey_off _) ?_ ?_ ?_ ?_ ?_ ?_) _ _ <;> rw [bc] <;> rfl

theorem BackboneOk.cycleClose (h : BackboneOk s) : BackboneOk (cycleClose s) := by
  obtain ⟨-, -, -, sent, aborted, clock⟩ := id h
  unfold Machine.cycleClose
  split
  · next gap _ =>
    exact BackboneOk.beaconStart (h.setBc rfl .rfl (Nat.mod_lt _ (by decide)) sent aborted clock) (by simp [gap])
  · exact h.backboneOff
  · exact h

theorem BackboneOk.beaconEnd (h : BackboneOk s) : BackboneOk (beaconEnd s) := by
  unfold Machine.beaconEnd composerCycle
  split
  · next seg =>
    have run := h.runTo 60
    obtain ⟨-, -, -, sent, -, clock⟩ := id run
    have runs : (Machine.runTo 60 s).bc.segment = .beacon := seg
    have length : (Machine.runTo 60 s).bc.clock ≤ 2000 := by rwa [runs] at clock
    have next : BackboneOk ((Machine.runTo 60 s).setBc { (Machine.runTo 60 s).bc with segment := .beaconSent }) :=
      run.enter (g := .beaconSent) (by simp [runs]) nofun rfl rfl rfl sent rfl length
    exact ((shared_backbone .beaconSent).countNotices ⟨next, rfl⟩).1
  · exact h

theorem BackboneOk.slotStart (h : BackboneOk s) : BackboneOk (slotStart s) := by
  have sent : s.bc.sent ≤ 65535 := h.2.2.2.1
  unfold Machine.slotStart
  split
  · exact h
  · next n next_ =>
    have runs : s.bc.segment ≠ .none := fun e => by simp [e, CycleSegment.nextSlot] at next_
    split
    · next e _ =>
      exact enter (s := Machine.updateEntry e.coach.id (fun x => { x with refresh := (choose e).2 }) s) h runs
        (g := .slot n) nofun rfl rfl rfl (Nat.min_le_left ..) rfl (Nat.zero_le _)
    · exact h.enter runs (g := .slot n) nofun rfl rfl rfl sent rfl (Nat.zero_le _)

theorem BackboneOk.contentComplete (h : BackboneOk s) : BackboneOk (contentComplete s) := by
  unfold Machine.contentComplete
  split
  · split_ifs
    · exact h.runTo _
    · exact h
  · exact h

theorem BackboneOk.takeSymbols (h : BackboneOk s) (line : Line) (n : Nat) (symbols : List Symbol) :
    BackboneOk (takeSymbols line n symbols s) := by
  have run := h.runTo (n + 4 * symbols.length)
  obtain ⟨-, -, counter, sent, aborted, clock⟩ := id run
  unfold Machine.takeSymbols
  dsimp only
  split
  · split <;> exact run.setBc rfl .rfl counter sent aborted clock
  · exact h

theorem BackboneOk.slotEnd (h : BackboneOk s) : BackboneOk (slotEnd s) := by
  unfold Machine.slotEnd
  split
  · next n seg =>
    have after {t : State} (k : BackboneOk t ∧ t.bc.segment = .slot n) : BackboneOk
        (t.setBc { t.bc with segment := .slotDone n, frame := none }) := by
      obtain ⟨⟨survey, segment, counter, sent, aborted, clock⟩, seg⟩ := k
      rw [seg] at clock
      exact enter ⟨survey, segment, counter, sent, aborted, seg ▸ clock⟩ (g := .slotDone n) (by simp [seg]) nofun rfl rfl rfl
        sent rfl clock
    have b := shared_backbone (.slot n)
    have run : BackboneOk (Machine.runTo 2000 s) ∧ (Machine.runTo 2000 s).bc.segment = .slot n := ⟨h.runTo 2000, seg⟩
    dsimp only
    split
    · exact after (b.composerOutcome (b.consistOutcome run _ _) _ _)
    · exact after run
  · exact h

theorem BackboneOk.callStart (h : BackboneOk s) : BackboneOk (callStart s) := by
  unfold Machine.callStart
  split
  · next seg =>
    have call : BackboneOk (callOfCycle s).1 ∧ (callOfCycle s).1.bc.segment = .slotDone 16 := by
      unfold callOfCycle
      dsimp only
      split
      · exact ⟨h, seg⟩
      · split_ifs
        · exact (shared_backbone (.slotDone 16)).raise _ _ _ _ _ (backbone_setSurvey (g := .slotDone 16) nofun _ s (fun _ _ => nofun) ⟨h, seg⟩)
        · exact ⟨h, seg⟩
      · split_ifs <;> exact ⟨h, seg⟩
    obtain ⟨k, seg⟩ := call
    obtain ⟨-, -, -, sent, -, -⟩ := id k
    exact k.enter (g := .call) (by simp [seg]) nofun rfl rfl rfl sent rfl (Nat.zero_le _)
  · exact h

theorem backbone_callClose (c : Call) (h : BackboneOk s ∧ s.bc.segment = .call) :
    BackboneOk (callClose c s) ∧ (callClose c s).bc.segment = .call := by
  have taken (r : CallRecord) (u : Sup) : BackboneOk ((s.setBc { s.bc with lastCall := r }).setSup u)
      ∧ ((s.setBc { s.bc with lastCall := r }).setSup u).bc.segment = .call := h
  exact (shared_backbone .call).callOutcome (backbone_setSurvey nofun) (taken _ _) _ _

theorem BackboneOk.callEnd (h : BackboneOk s) : BackboneOk (callEnd s) := by
  unfold Machine.callEnd
  split
  · next seg =>
    have after {t : State} (k : BackboneOk t ∧ t.bc.segment = .call) : BackboneOk
        (t.setBc { t.bc with segment := .callDone, call := none }) := by
      obtain ⟨⟨survey, segment, counter, sent, aborted, clock⟩, seg⟩ := k
      rw [seg] at clock
      exact enter ⟨survey, segment, counter, sent, aborted, seg ▸ clock⟩ (g := .callDone) (by simp [seg]) nofun rfl rfl rfl
        sent rfl clock
    have run : BackboneOk (Machine.runTo 3000 s) ∧ (Machine.runTo 3000 s).bc.segment = .call := ⟨h.runTo 3000, seg⟩
    dsimp only
    split
    · exact after (backbone_callClose _ run)
    · exact after run
  · exact h

theorem BackboneOk.gapStart (h : BackboneOk s) : BackboneOk (gapStart s) := by
  unfold Machine.gapStart
  split
  · next seg =>
    have sent : s.bc.sent ≤ 65535 := h.2.2.2.1
    have gap : BackboneOk (s.setBc (s.bc.enter .gap)) ∧ (s.setBc (s.bc.enter .gap)).bc.segment = .gap :=
      ⟨h.enter (g := .gap) (by simp [seg]) nofun rfl rfl rfl sent rfl (Nat.zero_le _), rfl⟩
    have b := shared_backbone .gap
    have told {t : State} (k : BackboneOk t ∧ t.bc.segment = .gap) : BackboneOk (supervisionGap t) :=
      (b.tellLine (b.tellLine (s := t.setSup { t.sup with a := t.sup.a.gap, b := t.sup.b.gap }) k _ _ _) _ _ _).1
    dsimp only
    split
    · exact told (b.pairEnd gap)
    · exact told gap
  · exact h

theorem BackboneOk.blockEvent (h : BackboneOk s) (c : Instr) : BackboneOk (blockEvent c s) := by
  have b := shared_backbone s.bc.segment
  cases c with
  | copyCompletion =>
    show BackboneOk (completeCopy s)
    unfold completeCopy
    dsimp only
    split_ifs
    · exact BackboneOk.finishHead (s := s.setRs _) (b.rs s _ ⟨h, rfl⟩).1 _ _
    · exact h
  | odoPulse => exact h
  | odometerWindowExpiry => exact (b.windowExpiry ⟨h, rfl⟩).1
  | minuteTimerExpiry => exact (b.formEta (b.jt _ _ ⟨h, rfl⟩)).1
  | cycleEnd => exact h.cycleClose
  | cycleStart => exact h.beaconEnd
  | coachSlotStart => exact h.slotStart
  | contentFrameComplete => exact h.contentComplete
  | backboneFrameReceived => exact h.takeSymbols ..
  | coachSlotEnd => exact h.slotEnd
  | callWindowStart => exact h.callStart
  | callWindowEnd => exact h.callEnd
  | quietGapStart => exact h.gapStart
  | _ => exact h

/-! ## Requests -/

theorem BackboneOk.act (h : BackboneOk s) (c : Instr) : BackboneOk (act c s).state := by
  cases q : sharedRequest c with
  | true => exact ((shared_backbone s.bc.segment).act q ⟨h, rfl⟩).1
  | false =>
    obtain ⟨survey, segment, counter, sent, aborted, clock⟩ := id h
    cases c with
    | linkReset => exact h
    | setReporting =>
      show BackboneOk (doSetReporting ..).state
      unfold doSetReporting
      split
      · exact h
      · split_ifs <;> exact h
    | summary => exact h
    | configureSurvey =>
      show BackboneOk (doConfigureSurvey ..).state
      unfold doConfigureSurvey
      split_ifs <;> exact h
    | startBackbone =>
      show BackboneOk (doStartBackbone s).state
      unfold doStartBackbone
      dsimp only
      split_ifs
      · exact h
      · exact ⟨iff_of_false nofun nofun, iff_of_false nofun nofun, Nat.succ_pos 31, Nat.zero_le _, Nat.zero_le _, Nat.zero_le _⟩
    | stopBackbone =>
      show BackboneOk (doStopBackbone s).state
      unfold doStopBackbone
      split_ifs with off
      · exact h
      · have on : s.bc.state ≠ .off := fun e => off (survey.mpr e)
        exact ⟨iff_of_false off nofun, iff_of_false nofun (fun e => on (segment.mpr e)), counter, sent, aborted, clock⟩
    | survey =>
      show BackboneOk (doSurvey s).state
      unfold doSurvey
      split
      · exact h
      · exact h
      · next closed =>
        have on : s.bc.state ≠ .off := fun e => by simp [survey.mpr e] at closed
        exact ⟨iff_of_false nofun on, segment, counter, sent, aborted, clock⟩
    | setRotationEntry =>
      show BackboneOk (doSetRotationEntry ..).state
      unfold doSetRotationEntry
      split
      · exact h
      · split_ifs <;> exact h
    | setRotationStart =>
      show BackboneOk (doSetRotationStart ..).state
      unfold doSetRotationStart
      split_ifs <;> exact h
    | clearLineFlags =>
      show BackboneOk (doClearLineFlags ..).state
      unfold doClearLineFlags
      split_ifs <;> exact h
    | lockTable =>
      show BackboneOk (doLockTable ..).state
      unfold doLockTable
      split <;> exact h
    | unlockTable =>
      show BackboneOk (doUnlockTable ..).state
      unfold doUnlockTable
      split <;> exact h
    | setCapture =>
      show BackboneOk (doSetCapture ..).state
      unfold doSetCapture
      split <;> exact h
    | _ => cases q

theorem unlinked_backbone : Unlinked BackboneOk :=
  ⟨fun _ _ _ _ h => h, fun _ _ h => h, fun _ _ h => h, fun _ _ h => h⟩

theorem step_keeps_backboneOk (h : BackboneOk s) (x : step s = .next t) : BackboneOk t :=
  unlinked_backbone.step (fun c _ h => BackboneOk.act h c) (fun c _ h => BackboneOk.blockEvent h c)
    (fun _ _ => backboneOk_reset) (fun _ _ => backboneOk_reset) (fun _ h => BackboneOk.runTo h _) h x

/-- Settles O60: each invariant is kept by the answers, the events, a symbol time and the resets, and so by every step. -/
theorem everyStepKeepsTheBackboneAndLinkInvariants : Obligations.EveryStepKeepsTheBackboneAndLinkInvariants := by
  unfold Obligations.EveryStepKeepsTheBackboneAndLinkInvariants
  exact ⟨fun _ _ => step_keeps_backboneOk, fun _ _ => step_keeps_supervisionOk, fun _ _ => step_keeps_queueOk,
    fun _ _ => step_keeps_reportsOk⟩

end Sys2Proof.Machine
end

section
/-! CONFIGURE SURVEY, SURVEY and START BACKBONE. -/

namespace Sys2Proof.Machine

variable {tag : Nat} {s : State}

theorem exec_configureSurvey {attempts pairs : Nat} (h : Free s) :
    exec (.configureSurvey tag attempts pairs) s = .next (
      let reply := answered 0x20 tag (some (.configureSurvey tag attempts pairs))
      if attempts < 1 ∨ 31 < attempts then reply .badField [1] s
      else if pairs < 1 ∨ 15 < pairs then reply .badField [2] s
      else reply .done [] (s.setCm { s.cm with
        survey := { s.cm.survey with cfgAttempts := attempts, cfgPairs := pairs } })) := by
  have act_eq (q : List Queued) : act (.configureSurvey tag attempts pairs) (s.withQueue q) =
      if attempts < 1 ∨ 31 < attempts then refuse (s.withQueue q) .badField [1]
      else if pairs < 1 ∨ 15 < pairs then refuse (s.withQueue q) .badField [2]
      else done ((s.setCm { s.cm with
        survey := { s.cm.survey with cfgAttempts := attempts, cfgPairs := pairs } }).withQueue q) [] := by
    show doConfigureSurvey attempts pairs (s.withQueue q) = _
    simp only [doConfigureSurvey, Bool.or_eq_true, decide_eq_true_eq]
    rfl
  dsimp only
  split
  · exact exec_refused h rfl rfl fun q => (act_eq q).trans (if_pos ‹_›)
  · have good (q : List Queued) := (act_eq q).trans (if_neg ‹_›)
    split
    · exact exec_refused h rfl rfl fun q => (good q).trans (if_pos ‹_›)
    · exact exec_now h rfl rfl (t := s.setCm _) (fun q => (good q).trans (if_neg ‹_›)) h.1 h.2.2.1

theorem exec_survey (h : Free s) :
    exec (.survey tag) s = .next (
      let reply := answered 0x23 tag (some (.survey tag))
      match s.cm.survey.state with
      | .off => reply .wrongState [] s
      | .surveying => reply .done [] s
      | .closed => reply .done [] (s.setCm { s.cm with
          survey := { s.cm.survey with state := .surveying, cause := .none, attempts := s.cm.survey.cfgAttempts } })) := by
  have act_eq (q : List Queued) : act (.survey tag) (s.withQueue q) = match s.cm.survey.state with
      | .off => refuse (s.withQueue q) .wrongState
      | .surveying => done (s.withQueue q) []
      | .closed => done (surveyOn (s.withQueue q)) [] := rfl
  dsimp only
  cases e : s.cm.survey.state <;> rw [e] at act_eq
  · exact exec_refused h rfl rfl act_eq
  · exact exec_now h rfl rfl act_eq h.1 h.2.2.1
  · exact exec_now h rfl rfl (t := s.setCm _) act_eq h.1 h.2.2.1

/-- The state that START BACKBONE leaves in OFF: the beacon of cycle 0 has begun an update of the EVEN table (R172, R187). -/
theorem startBackbone_eq (s : State) : startBackbone s =
    (s.setBc { Bc.reset with
        state := .running, segment := .beacon
        beacon := u8 0 ++ u8 s.dc.page.code ++ u8 s.jt.direction.code ++ u8 s.jt.phase.code
          ++ u8 (s.jt.phase.index.getD 0) ++ u16 s.jt.minute ++ flag s.jt.timeValid }).setSup
      { Sup.reset with even := { NodeTable.reset with updating := true } } := rfl

theorem exec_startBackbone_on (h : Free s) (on : s.cm.survey.state ≠ .off) : exec (.startBackbone tag) s
    = .next (answered 0x21 tag (some (.startBackbone tag)) .wrongState [] s) :=
  exec_refused h rfl rfl fun q => (show act (.startBackbone tag) (s.withQueue q) = doStartBackbone (s.withQueue q) from rfl).trans
    (if_pos on)

theorem exec_startBackbone_off (h : Free s) (off : s.cm.survey.state = .off) : exec (.startBackbone tag) s
    = .next (answered 0x21 tag (some (.startBackbone tag)) .done [] (startBackbone (s.setCm { s.cm with
      survey := { s.cm.survey with state := .surveying, attempts := s.cm.survey.cfgAttempts, cause := .none }
      confused := false }))) :=
  exec_now h rfl rfl (t := startBackbone _) (fun q => (show act (.startBackbone tag) (s.withQueue q) = doStartBackbone (s.withQueue q)
    from rfl).trans (if_neg (not_not.mpr off))) h.1 h.2.2.1

/-- Settles O36, request by request. -/
theorem surveyIsConfiguredAndBackboneStarts : Obligations.SurveyIsConfiguredAndBackboneStarts := by
  unfold Obligations.SurveyIsConfiguredAndBackboneStarts
  refine ⟨fun tag attempts pairs s h => exec_configureSurvey h, fun tag s h => exec_survey h, fun tag s h =>
    ⟨exec_startBackbone_on h, fun off => ?_⟩⟩
  rw [exec_startBackbone_off h off, startBackbone_eq]
  rfl

end Sys2Proof.Machine
end

section
/-! The requests that read the consist, the banks, the displays and the backbone. -/

namespace Sys2Proof.Machine

variable {c : Instr} {kind tag : Nat} {s : State}

/-- A request that only reads: the reply is all that changes. -/
theorem exec_read (h : Free s) (k : c.request = some (kind, tag)) (l : requestKinds.contains kind = true) {data : List Byte}
    (a : ∀ q, act c (s.withQueue q) = done (s.withQueue q) data) : exec c s = .next (answered kind tag (some c) .done data s) :=
  exec_now h k l a h.1 h.2.2.1

/-- The list with each entry's hop is the list numbered from 1. -/
theorem Cm.numbered_eq (c : Cm) : c.numbered = c.list.zipIdx 1 := by
  rw [Cm.numbered, List.zipIdx_succ]

theorem exec_readConsist (h : Free s) : exec (.readConsist tag) s = .next (answered 0x26 tag (some (.readConsist tag)) .done
    ((u8 s.cm.list.length ++ (s.cm.list.zipIdx 1).flatMap fun x => entryBytes s.cm x.1 x.2)
      ++ (u8 s.cm.detachedSorted.length ++ s.cm.detachedSorted.flatMap (coachBytes s.cm))
      ++ u8 s.cm.survey.state.code ++ u8 s.cm.survey.attempts ++ u8 s.cm.survey.cause.code
      ++ identity? s.cm.survey.cause.identity ++ flag s.cm.confused ++ u8 s.cm.survey.cfgAttempts ++ u8 s.cm.survey.cfgPairs
      ++ (u8 s.cm.partings.length
        ++ s.cm.partings.flatMap fun p => u16 p.unit ++ (u8 p.ids.length ++ p.ids.flatMap u32))) s) := by
  refine exec_read h rfl rfl fun q => ?_
  have list : counted (fun x => entryBytes s.cm x.1 x.2) s.cm.numbered
      = u8 s.cm.list.length ++ (s.cm.list.zipIdx 1).flatMap fun x => entryBytes s.cm x.1 x.2 := by
    rw [counted, Cm.numbered_eq, List.length_zipIdx]
  rw [← list]
  rfl

/-! ## READ SEAT -/

theorem exec_readSeat_bad {target id seat : Nat} (h : Free s) (bad : 1 < target ∨ id = 0) : exec (.readSeat tag target id seat) s
    = .next (answered 0x35 tag (some (.readSeat tag target id seat)) .badField [] s) := by
  refine exec_refused h rfl rfl fun q => ?_
  show doReadSeat target id seat (s.withQueue q) = _
  match target, bad with
  | 0, .inr i => exact if_pos i
  | 1, .inr i => exact if_pos i
  | n + 2, _ => rfl

/-- The agreement and the seat state by the list entry of the identity (R107, R116, log entry 24). -/
theorem agreementByte_seatOf (s : State) (B : List Vehicle) (id seat : Nat) : agreementByte s B id ++ (seatOf s B id seat).bytes =
    match s.cm.list.find? fun e => e.coach.id = id with
    | some e => u8 (agreement s B e).code ++ (seatState s B e seat).bytes
    | none => [Config.noEntryAgreement] ++ SeatState.unknown.bytes := by
  have at_ : s.cm.entryOf id = s.cm.list.find? fun e => e.coach.id = id := rfl
  rw [agreementByte, seatOf, at_]
  cases s.cm.list.find? fun e => e.coach.id = id <;> rfl

/-- READ SEAT of a bank that may be read: the record, the seat, then the reply (R107). -/
theorem exec_readSeat {target id seat : Nat} {t : Target} {B : List Vehicle} (h : Free s) (named : Target.ofCode target = some t)
    (bank : s.rs.bank (s.rs.targetNo t) = B) (i : id ≠ 0) (open_ : t.reads s.rs.staging = true) :
    let reply (r : ResultCode) (data : List Byte) : Prop := exec (.readSeat tag target id seat) s
      = .next (answered 0x35 tag (some (.readSeat tag target id seat)) r data s)
    match B.find? fun v => v.id = id with
    | none => reply .notFound []
    | some v =>
      match v.seats[seat]? with
      | none => reply .outOfRange []
      | some l => reply .done (u8 v.type ++ u8 v.slot ++ counted Segment.bytes l
          ++ (match s.cm.list.find? fun e => e.coach.id = id with
            | some e => u8 (agreement s B e).code ++ (seatState s B e seat).bytes
            | none => [Config.noEntryAgreement] ++ SeatState.unknown.bytes)) := by
  have taken (q : List Queued) : act (.readSeat tag target id seat) (s.withQueue q) =
      match B.find? fun v => v.id = id with
      | none => refuse (s.withQueue q) .notFound
      | some v =>
        match v.seats[seat]? with
        | none => refuse (s.withQueue q) .outOfRange
        | some l => done (s.withQueue q) (u8 v.type ++ u8 v.slot ++ counted Segment.bytes l
            ++ agreementByte s B id ++ (seatOf s B id seat).bytes) := by
    subst bank
    show doReadSeat target id seat (s.withQueue q) = _
    rw [doReadSeat, named]
    exact (if_neg i).trans (if_neg (by simpa using open_))
  dsimp only
  cases found : B.find? fun v => v.id = id with
  | none =>
    simp only [found] at taken ⊢
    exact exec_refused h rfl rfl taken
  | some v =>
    simp only [found] at taken ⊢
    cases seats : v.seats[seat]? with
    | none =>
      simp only [seats] at taken ⊢
      exact exec_refused h rfl rfl taken
    | some l =>
      simp only [seats, List.append_assoc, agreementByte_seatOf] at taken ⊢
      exact exec_read h rfl rfl taken

/-! ## READ DISPLAY and READ TABLE -/

/-- READ DISPLAY by the place of the identity (R146). -/
theorem exec_readDisplay {id : Nat} (h : Free s) (i : id ≠ 0) :
    let reply (r : ResultCode) (data : List Byte) : Prop := exec (.readDisplay tag id) s
      = .next (answered 0x47 tag (some (.readDisplay tag id)) r data s)
    match s.cm.list.find? fun e => e.coach.id = id with
    | some e => reply .done (u8 e.state.code ++ s.cm.hopByte id ++ BlockKind.all.flatMap (fun k => (e.blocks.get k).bytes)
        ++ u8 e.refresh.code ++ (chosen s e).bytes ++ counted Notice.bytes e.coach.notices)
    | none =>
      match s.cm.detached.find? fun k => k.id = id with
      | some k => reply .done (u8 4 ++ counted Notice.bytes k.notices)
      | none => reply .notFound [] := by
  have taken (q : List Queued) : act (.readDisplay tag id) (s.withQueue q) =
      match s.cm.placeOf id with
      | .nowhere => refuse (s.withQueue q) .notFound
      | .detached c => done (s.withQueue q) (u8 4 ++ counted Notice.bytes c.notices)
      | .list e => done (s.withQueue q) (u8 e.state.code ++ s.cm.hopByte id
          ++ BlockKind.all.flatMap (fun k => (e.blocks.get k).bytes)
          ++ u8 e.refresh.code ++ (chosen s e).bytes ++ counted Notice.bytes e.coach.notices) := if_neg i
  have place : s.cm.placeOf id = match s.cm.list.find? fun e => e.coach.id = id with
      | some e => .list e
      | none => match s.cm.detached.find? fun k => k.id = id with
        | some k => .detached k
        | none => .nowhere := rfl
  rw [place] at taken
  dsimp only
  cases list : s.cm.list.find? fun e => e.coach.id = id with
  | some e =>
    simp only [list] at taken ⊢
    exact exec_read h rfl rfl taken
  | none =>
    simp only [list] at taken ⊢
    cases detached : s.cm.detached.find? fun k => k.id = id with
    | some k =>
      simp only [detached] at taken ⊢
      exact exec_read h rfl rfl taken
    | none =>
      simp only [detached] at taken ⊢
      exact exec_refused h rfl rfl taken

/-- READ TABLE of the table with an even or odd number (R194). -/
theorem exec_readTable {table n : Nat} (h : Free s) (named : tableNamed table = some n) : exec (.readTable tag table) s
    = .next (answered 0x56 tag (some (.readTable tag table)) .done (flag (s.sup.table n).valid ++ cycle? (s.sup.table n).cycle
        ++ flag (s.sup.table n).updating ++ u8 (s.sup.table n).lock.code ++ u8 s.sup.capture.code ++ s.sup.capture.progress
        ++ (s.sup.table n).rows.flatMap Row.bytes) s) := by
  refine exec_read h rfl rfl fun q => ?_
  show doReadTable table (s.withQueue q) = _
  rw [doReadTable, named]
  rfl

/-- Settles O48, request by request. -/
theorem readsOfTheBlocksChangeNothing : Obligations.ReadsOfTheBlocksChangeNothing := by
  unfold Obligations.ReadsOfTheBlocksChangeNothing
  intro tag s h
  refine ⟨exec_readConsist h, exec_read h rfl rfl fun _ => rfl, exec_read h rfl rfl fun _ => rfl,
    exec_read h rfl rfl fun _ => rfl, exec_read h rfl rfl fun _ => rfl, fun target id seat => ?_, fun id => ?_, fun table => ?_⟩
  · dsimp only
    split
    · exact exec_readSeat_bad h ‹_›
    · next good =>
      obtain ⟨named, i⟩ := not_or.mp good
      split
      · next shut =>
        obtain ⟨rfl, shut⟩ := shut
        have closed : s.rs.staging.open? = false := by obtain e | e := shut <;> rw [e] <;> rfl
        refine exec_refused h rfl rfl fun q => ?_
        show doReadSeat 1 id seat (s.withQueue q) = _
        exact (if_neg i).trans (if_pos (by simp [Target.reads, closed]))
      · next readable =>
        have open_ (one : target = 1) : s.rs.staging.open? = true := by
          cases e : s.rs.staging with
          | closed => exact absurd ⟨one, .inl e⟩ readable
          | copying => exact absurd ⟨one, .inr e⟩ readable
          | openEmpty | openCopy | armedEmpty | armedCopy => rfl
        match target, named, open_ with
        | 0, _, _ => exact exec_readSeat (t := .live) h rfl rfl i rfl
        | 1, _, open_ => exact exec_readSeat (t := .staging) h rfl rfl i (open_ rfl)
        | n + 2, far, _ => exact absurd (by omega) far
  · dsimp only
    split_ifs with zero
    · exact exec_refused h rfl rfl fun q => if_pos zero
    · exact exec_readDisplay h zero
  · dsimp only
    match table with
    | 0 => exact exec_readTable (n := 0) h rfl
    | 1 => exact exec_readTable (n := 1) h rfl
    | n + 2 => exact exec_refused h rfl rfl fun q => rfl

end Sys2Proof.Machine
end

section
/-! DEFINE TYPE, DELETE TYPE and READ TYPE. -/

namespace Sys2Proof.Machine

variable {tag code : Nat} {s : State}

/-! ## The coach type table -/

theorem Cm.known_iff (c : Cm) (code : Nat) : c.known code = true ↔ ∃ r ∈ c.types, r.code = code := by
  simp [Cm.known, Cm.typeOf, List.find?_isSome]

theorem typeInUse_iff (s : State) (code : Nat) : typeInUse s code = true ↔ (∃ e ∈ s.cm.list, e.coach.type = code)
    ∨ (∃ k ∈ s.cm.detached, k.type = code) ∨ ∃ v ∈ s.rs.bank0 ++ s.rs.bank1, v.type = code := by
  simp only [typeInUse, Bool.or_eq_true, List.any_eq_true, decide_eq_true_eq, or_assoc]

/-- The index of the first label that is too short, too long or not printable (R84). -/
theorem badLabel_eq (labels : List Text) : badLabel labels = labels.findIdx? fun l =>
    l.length = 0 || 4 < l.length || !l.all fun b => 0x20 ≤ b.toNat && b.toNat ≤ 0x7E := by
  have bad (l : Text) : (!textIn 1 4 l) = (l.length = 0 || 4 < l.length || !l.all fun b => 0x20 ≤ b.toNat && b.toNat ≤ 0x7E) := by
    rw [show (fun b : Byte => decide (0x20 ≤ b.toNat) && decide (b.toNat ≤ 0x7E)) = printable from rfl, textIn,
      Bool.not_and, Bool.not_and]
    simp only [← decide_not, not_le, Nat.lt_one_iff]
  simp only [badLabel, bad]

theorem Cm.putType_known {c : Cm} {r : TypeRecord} (known : c.known r.code = true) :
    c.putType r = { c with types := c.types.map fun x => if x.code = r.code then r else x } := if_pos known

theorem Cm.putType_new {c : Cm} {r : TypeRecord} (new : c.known r.code = false) :
    c.putType r = { c with types := c.types ++ [r] } := if_neg (by simp [new])

/-- A code that no record had names the record added. -/
theorem Cm.typeOf_added {c : Cm} {r : TypeRecord} (new : c.known r.code = false) :
    Cm.typeOf { c with types := c.types ++ [r] } r.code = some r := by
  have none : c.types.find? (·.code = r.code) = none := Option.not_isSome_iff_eq_none.mp (by simpa [Cm.known, Cm.typeOf] using new)
  simp only [Cm.typeOf, List.find?_append, none, Option.none_or]
  simp

/-! ## Valid kinds evaluated afresh -/

/-- An event that keeps every block of the list changes nothing (R126). -/
theorem revise_of_keep {f : Entry → BlockKind → BlockEffect} (h : ∀ e ∈ s.cm.list, ∀ k, f e k = .keep) : revise f s = s := by
  refine Eq.trans ?_ (revise_keep s)
  have list : revisedList f s = revisedList (fun _ _ => .keep) s :=
    List.map_congr_left fun e m => by simp only [h e m]
  have fresh : (s.cm.list.flatMap fun e => (BlockKind.all.filter fun k =>
        (f e k).advances && !s.dc.advanced.contains (e.coach.id, k)).map fun k => (e.coach.id, k))
      = s.cm.list.flatMap fun e => (BlockKind.all.filter fun k =>
        BlockEffect.keep.advances && !s.dc.advanced.contains (e.coach.id, k)).map fun k => (e.coach.id, k) :=
    List.flatMap_congr fun e m => by simp only [h e m]
  unfold revise
  rw [fresh, ← revisedList, ← revisedList, list]

/-- Evaluating the kinds of no entry changes nothing (R121). -/
theorem evaluateKinds_of_none {pick : Entry → Bool} (h : ∀ e ∈ s.cm.list, pick e = false) : evaluateKinds pick s = s :=
  revise_of_keep fun e m k => by simp [h e m]

/-- The blocks of an entry of the list after an event (R126). -/
theorem mem_revise {f : Entry → BlockKind → BlockEffect} {e : Entry} (m : e ∈ (revise f s).cm.list) :
    ∃ x ∈ s.cm.list, e.coach = x.coach ∧ e.state = x.state ∧ ∀ k, e.blocks.get k =
      (x.blocks.get k).after (s.dc.advanced.contains (x.coach.id, k)) (f x k) := by
  have list : (revise f s).cm.list = revisedList f s := by simp [revise, revisedList]
  rw [list] at m
  obtain ⟨x, mx, rfl⟩ := List.mem_map.mp m
  exact ⟨x, mx, rfl, rfl, fun k => BlockSet.get_ofKinds ..⟩

/-- A kind valid as things stand is valid once the kinds have been evaluated, and dirty if it was not valid before (R121). -/
theorem evaluateKinds_valid {pick : Entry → Bool} {e : Entry} (m : e ∈ (evaluateKinds pick s).cm.list) : ∃ x ∈ s.cm.list,
    e.coach = x.coach ∧ e.state = x.state ∧ ∀ k, pick x = true → validNow s x k = true → (e.blocks.get k).valid = true
      ∧ ((x.blocks.get k).valid = false → (e.blocks.get k).dirty = true) := by
  obtain ⟨x, mx, coach, state, blocks⟩ := mem_revise m
  refine ⟨x, mx, coach, state, fun k picked valid => ?_⟩
  rw [blocks k, if_pos picked, valid]
  cases v : (x.blocks.get k).valid <;> simp [Block.after, v]

/-- SEATk is valid for an ACTIVE or MUTE entry while its type has seats for it (R120). -/
theorem validFor_seat {st : EntryState} {unit type k : Nat} {r : TypeRecord} (full : st = .active ∨ st = .mute)
    (type_ : s.cm.typeOf type = some r) (room : k < ceilDiv r.seats 16) (six : k < 6) : validFor s st unit type (.seat k) = true := by
  have on : (decide (st = .active) || decide (st = .mute)) = true := by simpa using full
  have no : (BlockKind.seat k).namesNo = none ∧ (BlockKind.seat k).seatNo = some k := by
    match k, six with
    | 0, _ | 1, _ | 2, _ | 3, _ | 4, _ | 5, _ => exact ⟨rfl, rfl⟩
  have kinds : BlockKind.seat k ≠ .header ∧ BlockKind.seat k ≠ .map := by
    constructor <;> intro e <;> rw [e] at no <;> cases no.2
  unfold validFor
  split
  · exact absurd ‹_› kinds.1
  · exact absurd ‹_› kinds.2
  · rw [no.1, no.2, type_]
    simp [on, room]

/-! ## DEFINE TYPE -/

/-- DEFINE TYPE once its fields have been found good (R84). -/
theorem doDefineType_good {seats : Nat} {labels : List Text} (fields : ¬ (code = 0 ∨ seats < 1 ∨ 96 < seats))
    (count : labels.length = seats) (good : badLabel labels = none) : doDefineType code seats labels s =
      if s.cm.known code && typeInUse s code then refuse s .inUse
      else if !s.cm.known code && Config.maxTypes ≤ s.cm.types.length then refuse s .noSpace
      else done (evaluateKinds (fun e => e.coach.type = code)
        (s.setCm (s.cm.putType { code := code, seats := seats, labels := labels }))) [] := by
  unfold doDefineType
  rw [if_neg (by simpa [or_assoc] using fields), if_neg (not_not.mpr count), good]

/-- A known code that nothing reports or names: its record is replaced, and no block changes (R84). -/
theorem exec_defineType_known {seats : Nat} {labels : List Text} (h : Free s) (fields : ¬ (code = 0 ∨ seats < 1 ∨ 96 < seats))
    (count : labels.length = seats) (good : badLabel labels = none) (known : s.cm.known code = true)
    (idle : typeInUse s code = false) : exec (.defineType tag code seats labels) s
      = .next (answered 0x27 tag (some (.defineType tag code seats labels)) .done [] (s.setCm { s.cm with
          types := s.cm.types.map fun r => if r.code = code then { code := code, seats := seats, labels := labels } else r })) := by
  refine exec_now h rfl rfl (t := s.setCm _) (fun q => ?_) h.1 h.2.2.1
  have unreported : ∀ e ∈ s.cm.list, decide (e.coach.type = code) = false := fun e m => by
    by_contra reports
    have used := (typeInUse_iff s code).mpr (.inl ⟨e, m, by simpa using reports⟩)
    rw [idle] at used
    cases used
  have act_eq := doDefineType_good (s := s.withQueue q) fields count good
  have used : typeInUse (s.withQueue q) code = false := idle
  have here : (s.withQueue q).cm.known code = true := known
  rw [used, here, Cm.putType_known here, evaluateKinds_of_none] at act_eq
  · exact act_eq
  · exact unreported

/-- A new code, with room for its record: the record is added and the kinds of the entries that report it are evaluated (R84). -/
theorem exec_defineType_new {seats : Nat} {labels : List Text} (h : Free s) (fields : ¬ (code = 0 ∨ seats < 1 ∨ 96 < seats))
    (count : labels.length = seats) (good : badLabel labels = none) (new : s.cm.known code = false) (room : s.cm.types.length < 8) :
    let c : Instr := .defineType tag code seats labels
    let record : TypeRecord := { code := code, seats := seats, labels := labels }
    ∃ t, exec c s = .next t
      ∧ t.cm.unmarked = Cm.unmarked { s.cm with types := s.cm.types ++ [record] }
      ∧ t.jt = s.jt ∧ t.rs = s.rs ∧ t.dc = s.dc ∧ t.clc = (answered 0x27 tag (some c) .done [] s).clc ∧ AbortAtMost s t
      ∧ ∀ e ∈ t.cm.list, e.coach.type = code → e.state = .active ∨ e.state = .mute →
        ∀ k < ceilDiv seats 16, (e.blocks.get (.seat k)).valid = true
          ∧ ((∀ x ∈ s.cm.list, x.coach.type = code → (x.blocks.get (.seat k)).valid = false) →
            (e.blocks.get (.seat k)).dirty = true) := by
  intro c record
  have act_eq := doDefineType_good (s := handling 0x27 tag (some c) s) fields count good
  have space : ¬ Config.maxTypes ≤ s.cm.types.length := not_le.mpr room
  rw [handling_cm, new, Cm.putType_new new, if_neg (by simp), if_neg (by simpa using space)] at act_eq
  have k : Kept (handling 0x27 tag (some c) s) (evaluateKinds (fun e => e.coach.type = code)
      ((handling 0x27 tag (some c) s).setCm { s.cm with types := s.cm.types ++ [record] })) :=
    (kept_setCm _ _).trans (kept_evaluateKinds _ _)
  refine ⟨_, exec_of_act h rfl rfl act_eq, ?_, ?_, ?_, replied_dc_kept h k, replied_clc h (by simp), abortAtMost_replied k, ?_⟩
  · rw [replied_cm, evaluateKinds_unmarked, State.setCm_cm]
  · rw [replied_jt, evaluateKinds_jt, State.setCm_jt, handling_jt]
  · rw [replied_rs, evaluateKinds_rs, State.setCm_rs, handling_rs]
  · intro e m type_ full k room
    rw [replied_cm] at m
    obtain ⟨x, mx, coach, state, blocks⟩ := evaluateKinds_valid m
    rw [coach] at type_
    obtain ⟨valid, dirty⟩ := blocks (.seat k) (by simpa using type_) <| by
      refine validFor_seat (r := record) (state ▸ full) ?_ room ?_
      · rw [type_]
        exact Cm.typeOf_added new
      · have : seats ≤ 96 := not_lt.mp fun l => fields (.inr (.inr l))
        unfold ceilDiv at room
        omega
    exact ⟨valid, fun all => dirty (all x mx type_)⟩

/-! ## DELETE TYPE and READ TYPE -/

/-- Settles O39, request by request. -/
theorem typesAreDefinedReadAndDeleted : Obligations.TypesAreDefinedReadAndDeleted := by
  unfold Obligations.TypesAreDefinedReadAndDeleted
  intro tag code s h
  have known := Cm.known_iff s.cm code
  have used := typeInUse_iff s code
  dsimp only
  rw [← known, ← used]
  refine ⟨fun seats labels => ?_, ⟨?_, ?_, ?_, ?_⟩, fun length => ⟨?_, ?_, ?_⟩⟩
  · have fault (q : List Queued) : act (.defineType tag code seats labels) (s.withQueue q)
        = doDefineType code seats labels (s.withQueue q) := rfl
    split
    · next fields => exact exec_refused h rfl rfl fun q => if_pos (by simpa [or_assoc] using fields)
    · next fields =>
      have good_fields (q : List Queued) := (fault q).trans (if_neg (by simpa [or_assoc] using fields))
      split
      · exact exec_refused h rfl rfl fun q => (good_fields q).trans (if_pos ‹_›)
      · next count =>
        have counted (q : List Queued) := (good_fields q).trans (if_neg count)
        rw [← badLabel_eq]
        cases labels_ : badLabel labels with
        | some i =>
          simp only [labels_] at counted ⊢
          exact exec_refused h rfl rfl counted
        | none =>
          have good (q : List Queued) := doDefineType_good (s := s.withQueue q) fields (not_not.mp count) labels_
          refine ⟨fun here busy => ?_, fun here idle => ?_, fun new full => ?_, fun new room => ?_⟩
          · exact exec_refused h rfl rfl fun q => (good q).trans (if_pos (Bool.and_eq_true_iff.mpr ⟨here, busy⟩))
          · exact exec_defineType_known h fields (not_not.mp count) labels_ here (Bool.eq_false_iff.mpr idle)
          · refine exec_refused h rfl rfl fun q => (good q).trans ?_
            have unknown : (s.withQueue q).cm.known code = false := Bool.eq_false_iff.mpr new
            exact (if_neg (by rw [unknown]; exact Bool.false_ne_true)).trans
              (if_pos (by rw [unknown]; exact decide_eq_true full))
          · exact exec_defineType_new h fields (not_not.mp count) labels_ (Bool.eq_false_iff.mpr new) room
  · exact fun z => exec_refused h rfl rfl fun q => if_pos z
  · exact fun z new => exec_refused h rfl rfl fun q => (if_neg z).trans (if_pos (by simpa using new))
  · exact fun z here busy => exec_refused h rfl rfl fun q => (if_neg z).trans ((if_neg (by simpa using here)).trans (if_pos busy))
  · exact fun z here idle => exec_now h rfl rfl (t := s.setCm _)
      (fun q => (if_neg z).trans ((if_neg (by simpa using here)).trans (if_neg idle))) h.1 h.2.2.1
  · exact fun bad => exec_refused h rfl rfl fun q => if_pos (by simpa using bad)
  · intro z l new
    have none : s.cm.typeOf code = none := Option.not_isSome_iff_eq_none.mp new
    refine exec_refused h rfl rfl fun q => (show _ = doReadType code length (s.withQueue q) from rfl).trans ?_
    rw [doReadType, if_neg (by simp [z, l]), State.withQueue_cm, none]
  · intro r found z l b same
    have at_ : s.cm.typeOf code = some r := found
    have flag_ : typeInUse s code = b := Bool.eq_iff_iff.mpr same.symm
    refine exec_read h rfl rfl fun q => (show _ = doReadType code length (s.withQueue q) from rfl).trans ?_
    rw [doReadType, if_neg (by simp [z, l]), State.withQueue_cm, at_, ← flag_]
    rfl

end Sys2Proof.Machine
end

section
/-! The end of the cycle: STOP BACKBONE, the next beacon, and the stop (R59, R153, R173, R187, R193). -/

namespace Sys2Proof.Machine

variable {tag unit id : Nat} {s t : State} {m : Cm}

/-! ## STOP BACKBONE -/

/-- A request to a free controller whose result comes back later: it stays the HANDLING head (R202). -/
theorem exec_later {c : Instr} {kind : Nat} (h : Free s) (k : c.request = some (kind, tag)) (l : requestKinds.contains kind = true)
    (a : act c (handling kind tag (some c) s) = .later t) : exec c s = .next (t.setDc { t.dc with advanced := [] }) := by
  rw [exec_of_request k]
  unfold submit
  rw [event_arrive_free h]
  simp only [answerOf, l, Bool.not_true, Bool.false_eq_true, if_false, a, settle]

theorem exec_stopBackbone (h : Free s) : exec (.stopBackbone tag) s = .next (
    if s.cm.survey.state = .off then answered 0x22 tag (some (.stopBackbone tag)) .wrongState [] s
    else (s.setBc { s.bc with state := .stopping }).withQueue
      [{ kind := 0x22, tag := tag, command := some (.stopBackbone tag), state := .handling }]) := by
  split
  · next off => exact exec_refused h rfl rfl fun q => if_pos off
  · next on =>
    have act_eq : act (.stopBackbone tag) (handling 0x22 tag (some (.stopBackbone tag)) s)
        = .later ((handling 0x22 tag (some (.stopBackbone tag)) s).setBc { s.bc with state := .stopping }) := if_neg on
    rw [exec_later h rfl rfl act_eq]
    exact congrArg Host.Outcome.next (State.setDc_advanced h.2.2.2.2)

/-! ## The next beacon -/

/-- Whether the capture setting lets the cycle of a counter update its table (R193). -/
def Sup.permits (u : Sup) (n : Nat) : Prop :=
  u.capture = .continuous ∨ (u.capture = .waiting ∧ n % 2 = 0 ∧ (u.table (n + 1)).lock = .unlocked)
    ∨ (u.capture = .evenTaken ∧ n % 2 = 1)

/-- The table is updated exactly when it is UNLOCKED and the capture permits (R187, R193). -/
theorem Sup.decide_iff (u : Sup) (n : Nat) : (u.decide n).1 = true ↔ (u.table n).lock = .unlocked ∧ u.permits n := by
  unfold Sup.decide Sup.permits Sup.table
  obtain even | odd := Nat.mod_two_eq_zero_or_one n
  · have next : ¬ (n + 1) % 2 = 0 := by omega
    cases u.capture <;> simp [even, next, apply_ite Prod.fst]
  · have next : (n + 1) % 2 = 0 := by omega
    cases u.capture <;> simp [odd, next, apply_ite Prod.fst]

/-- The capture setting after the decision (R193). -/
theorem Sup.decide_capture (u : Sup) (n : Nat) : (u.decide n).2 =
    if u.capture = .waiting ∧ (u.decide n).1 = true then .evenTaken
    else if u.capture = .evenTaken ∧ n % 2 = 1 ∧ (u.decide n).1 = false then .waiting
    else u.capture := by
  unfold Sup.decide
  obtain even | odd := Nat.mod_two_eq_zero_or_one n
  · cases u.capture with
    | waiting => by_cases free : u.even.lock = .unlocked ∧ u.odd.lock = .unlocked <;> simp [even, free]
    | _ => simp [even]
  · cases u.capture with
    | evenTaken => by_cases free : (u.table n).lock = .unlocked <;> simp [odd, free]
    | _ => simp [odd]

theorem Sup.beacon_table_same (u : Sup) (n : Nat) : (u.beacon n).table n =
    if (u.decide n).1 then (u.table n).opened else u.table n := by
  have lines (a b : LineSup) (c : Capture) : Sup.table { u with a := a, b := b, capture := c } n = u.table n := rfl
  unfold Sup.beacon
  dsimp only
  split
  · rw [Sup.table_setTable_same, lines]
  · exact lines ..

theorem Sup.beacon_table_next (u : Sup) (n : Nat) : (u.beacon n).table (n + 1) = u.table (n + 1) := by
  unfold Sup.beacon
  dsimp only
  split
  · rw [Sup.table_setTable_next]
    rfl
  · rfl

/-- A beacon of supervision touches the observations, the capture setting and one table (R181, R187, R193). -/
theorem Sup.beacon_rest (u : Sup) (n : Nat) : (u.beacon n).capture = (u.decide n).2
    ∧ (u.beacon n).a = { u.a with obs := .clear } ∧ (u.beacon n).b = { u.b with obs := .clear }
    ∧ (u.beacon n).mismatch = u.mismatch := by
  have set (v : Sup) (k : NodeTable) : (v.setTable n k).capture = v.capture ∧ (v.setTable n k).a = v.a
      ∧ (v.setTable n k).b = v.b ∧ (v.setTable n k).mismatch = v.mismatch := by
    unfold Sup.setTable
    split <;> exact ⟨rfl, rfl, rfl, rfl⟩
  unfold Sup.beacon
  dsimp only
  split
  · exact set ..
  · exact ⟨rfl, rfl, rfl, rfl⟩

/-- The cycle end of a RUNNING controller begins the beacon of the next counter (R153, R154, R187). -/
theorem cycleClose_running (gap : s.bc.segment = .gap) (runs : s.bc.state = .running) :
    cycleClose s = beaconStart (s.setBc { s.bc with counter := (s.bc.counter + 1) % 32 }) := by
  unfold cycleClose
  rw [gap, runs]

/-! ## The stop: the splits that fail -/

/-- An entry of a split that has failed (R80). -/
def Entry.returned (e : Entry) : Entry := { e with state := .active, pairCount := 0 }

/-- The consist with the entries of some identities returned (R80). -/
def Cm.returned (m : Cm) (ids : List Nat) : Cm :=
  { m with list := m.list.map fun e => if ids.contains e.coach.id then e.returned else e }

theorem Entry.ite_returned_coach (p : Prop) [Decidable p] (e : Entry) : (if p then e.returned else e).coach = e.coach := by
  split <;> rfl

theorem Cm.returned_unmarked (m : Cm) (ids : List Nat) : (m.returned ids).unmarked = m.unmarked.returned ids := by
  refine congrArg (fun l => ({ m with list := l } : Cm)) ?_
  simp only [Cm.returned, Cm.unmarked, List.map_map]
  refine List.map_congr_left fun e _ => ?_
  by_cases h : e.coach.id ∈ ids <;> simp [h, Entry.returned]

theorem Cm.returned_cons (m : Cm) (id : Nat) (ids : List Nat) : (m.returned [id]).returned ids = m.returned (id :: ids) := by
  refine congrArg (fun l => ({ m with list := l } : Cm)) ?_
  simp only [Cm.returned, List.map_map]
  refine List.map_congr_left fun e _ => ?_
  by_cases a : e.coach.id = id <;> by_cases b : e.coach.id ∈ ids <;> simp [a, b, Entry.returned]

/-- An entry becomes ACTIVE with pair count 0 (R80). -/
def returnEntry (id : Nat) (s : State) : State :=
  setEntryState id .active (updateEntry id (fun e => { e with pairCount := 0 }) s)

theorem returnEntry_unmarked (id : Nat) (s : State) : (returnEntry id s).cm.unmarked = (s.cm.returned [id]).unmarked := by
  rw [returnEntry, setEntryState_unmarked]
  simp only [updateEntry, Cm.update, State.setCm_cm, List.map_map]
  refine congrArg (fun l => Cm.unmarked { s.cm with list := l }) (List.map_congr_left fun e _ => ?_)
  by_cases h : e.coach.id = id <;> simp [h, Entry.returned]

theorem foldl_returnEntry_unmarked (ids : List Nat) (s : State) :
    (ids.foldl (fun t id => returnEntry id t) s).cm.unmarked = (s.cm.returned ids).unmarked := by
  induction ids generalizing s with
  | nil => exact congrArg Cm.unmarked (congrArg (fun l => ({ s.cm with list := l } : Cm)) (List.map_id _).symm)
  | cons id ids ih =>
    rw [List.foldl_cons, ih, Cm.returned_unmarked, returnEntry_unmarked, ← Cm.returned_unmarked, Cm.returned_cons]

/-- The consist after the split of a unit has failed (R80). -/
def Cm.splitFailed (m : Cm) (unit : Nat) : Cm :=
  { m.returned ((m.departing unit).map (·.coach.id)) with partings := m.partings.filter fun p => p.unit ≠ unit }

/-- The parting sets change whatever the blocks. -/
theorem unmarked_partings {a b : Cm} (h : a.unmarked = b.unmarked) (g : List PartingSet → List PartingSet) :
    Cm.unmarked { a with partings := g a.partings } = Cm.unmarked { b with partings := g b.partings } := by
  have out (c : Cm) : Cm.unmarked { c with partings := g c.partings }
      = { c.unmarked with partings := g c.unmarked.partings } := rfl
  rw [out, out, h]

theorem failSplit_unmarked (some_ : m.departing unit ≠ []) (e : s.cm = m) :
    (failSplit unit s).cm.unmarked = (m.splitFailed unit).unmarked := by
  subst e
  have all := foldl_returnEntry_unmarked ((s.cm.departing unit).map (·.coach.id)) s
  unfold failSplit
  dsimp only
  rw [if_neg (by simpa using some_)]
  have back : (withAdvisory (fun t => t.setJt (t.jt.setPortionState unit .attached))
      (dirtyBlocks (fun e => ((s.cm.departing unit).map (·.coach.id)).contains e.coach.id)
        (((s.cm.departing unit).map (·.coach.id)).foldl (fun t id => returnEntry id t) s))).cm.unmarked
      = (s.cm.returned ((s.cm.departing unit).map (·.coach.id))).unmarked := by
    rw [withAdvisory_unmarked, State.setJt_cm, dirtyBlocks_unmarked, all]
  exact unmarked_partings back (·.filter fun p => p.unit ≠ unit)

theorem failSplit_reattached (some_ : s.cm.departing unit ≠ []) :
    (failSplit unit s).jt = s.jt.reattached fun u => u = unit := by
  unfold failSplit
  dsimp only
  rw [if_neg (by simpa using some_)]
  simp only [raise_jt, State.setCm_jt, withAdvisory_jt, State.setJt_jt, dirtyBlocks_jt]
  rw [foldl_keeps State.jt (by simp)]
  simp [Jt.reattached, Jt.setPortionState]

/-- An entry that departs with another unit still does (R80). -/
theorem Cm.Distinct.departing_splitFailed (h : m.Distinct) {other : Nat} (o : other ≠ unit) (some_ : m.departing other ≠ []) :
    (m.splitFailed unit).departing other ≠ [] := by
  obtain ⟨e, me⟩ := List.exists_mem_of_ne_nil _ some_
  obtain ⟨here, departs⟩ := List.mem_filter.mp me
  have apart : e.coach.id ∉ (m.departing unit).map (·.coach.id) := fun i => by
    have mine := (h.mem_map_filter here).mp i
    simp only [Bool.and_eq_true, decide_eq_true_eq] at mine departs
    exact o (departs.1.symm.trans mine.1)
  refine List.ne_nil_of_mem (List.mem_filter.mpr ⟨List.mem_map.mpr ⟨e, here, if_neg ?_⟩, departs⟩)
  simpa using apart

/-- What the failed splits leave of the consist and the journey (R80). -/
structure Returned (s t : State) (units : List Nat) : Prop where
  coaches : t.cm.list.map (·.coach) = s.cm.list.map (·.coach)
  detached : t.cm.detached = s.cm.detached
  survey : t.cm.survey = s.cm.survey
  types : t.cm.types = s.cm.types
  partings : t.cm.partings = s.cm.partings.filter fun p => !units.contains p.unit
  jt : t.jt = s.jt.reattached units.contains

theorem returned_failSplit (some_ : s.cm.departing unit ≠ []) : Returned s (failSplit unit s) [unit] := by
  have h := failSplit_unmarked some_ rfl
  refine ⟨(coaches_of_unmarked h).trans ?_, (congrArg Cm.detached h :), (congrArg Cm.survey h :), (congrArg Cm.types h :),
    Eq.trans (congrArg Cm.partings h :) ?_, ?_⟩
  · simp [Cm.splitFailed, Cm.returned, Function.comp_def, Entry.ite_returned_coach]
  · exact List.filter_congr fun p _ => by simp
  · rw [failSplit_reattached some_]
    exact congrArg s.jt.reattached (by funext u; simp)

theorem Returned.trans {u : State} {units : List Nat} (h : Returned s t [unit]) (k : Returned t u units) :
    Returned s u (unit :: units) := by
  refine ⟨k.coaches.trans h.coaches, k.detached.trans h.detached, k.survey.trans h.survey, k.types.trans h.types, ?_, ?_⟩
  · rw [k.partings, h.partings, List.filter_filter]
    refine List.filter_congr fun p _ => ?_
    simp [Bool.and_comm]
  · rw [k.jt, h.jt, Jt.reattached_reattached]
    exact congrArg s.jt.reattached (by funext u; simp)

/-- The splits of units that each have a DEPARTING entry all fail (R80). -/
theorem returned_foldl {units : List Nat} (nodup : units.Nodup) (distinct : s.cm.Distinct)
    (each : ∀ u ∈ units, s.cm.departing u ≠ []) : Returned s (units.foldl (fun t u => failSplit u t) s) units := by
  induction units generalizing s with
  | nil => exact ⟨rfl, rfl, rfl, rfl, by simp, s.jt.reattached_none.symm⟩
  | cons u units ih =>
    obtain ⟨new, nodup⟩ := List.nodup_cons.mp nodup
    have h := failSplit_unmarked (each u List.mem_cons_self) (rfl : s.cm = s.cm)
    have first := returned_failSplit (each u List.mem_cons_self)
    refine first.trans (ih nodup ?_ fun v mv => ?_)
    · have same := congrArg (List.map (·.id)) first.coaches
      simp only [List.map_map, Function.comp_def] at same
      exact (congrArg List.Nodup same).mpr distinct
    · have left := distinct.departing_splitFailed (unit := u) (fun e => new (e ▸ mv)) (each v (List.mem_cons_of_mem _ mv))
      simpa using (Bool.eq_iff_iff.mp (departing_isEmpty_of_unmarked (unit := v) h)).not.mpr (by simpa using left)

theorem Cm.mem_departingUnits {u : Nat} : u ∈ m.departingUnits ↔ (m.list.any fun e => e.coach.unit = u && e.state = .departing) := by
  simp only [Cm.departingUnits, List.mem_eraseDups, List.mem_map, List.mem_filter, decide_eq_true_eq, List.any_eq_true,
    Bool.and_eq_true]
  exact ⟨fun ⟨e, ⟨h, d⟩, q⟩ => ⟨e, h, q, d⟩, fun ⟨e, h, q, d⟩ => ⟨e, ⟨h, d⟩, q⟩⟩

theorem returned_failSplits (distinct : s.cm.Distinct) : Returned s (failSplits s) s.cm.departingUnits := by
  refine returned_foldl (nodup_eraseDups _) distinct fun u mu => ?_
  obtain ⟨e, h, d⟩ := List.any_eq_true.mp (Cm.mem_departingUnits.mp mu)
  exact List.ne_nil_of_mem (List.mem_filter.mpr ⟨h, d⟩)

/-! ## The stop -/

/-- A report leaves COACH_LOST as it is (R215). -/
theorem raise_coachLost (cls : ReportClass) (code subject : Nat) (data : List Byte) (s : State) :
    (raise cls code subject data s).clc.alarms.coachLost = s.clc.alarms.coachLost := by
  simp only [raise, State.setClc_clc, Clc.transmit_alarms, Clc.enqueue]
  split_ifs <;> rfl

@[simp] theorem finishHead_alarms (r : ResultCode) (data : List Byte) (s : State) :
    (finishHead r data s).clc.alarms = s.clc.alarms := by
  unfold finishHead
  split
  · split <;> simp [addReply]
  · rfl

/-- The only report waiting once a block has raised it (R215). -/
theorem raise_only (busy : s.clc.tx ≠ .idle) (none : s.clc.reports = []) {cls : ReportClass} (on : s.clc.enabled.has cls = true)
    (code subject : Nat) (data : List Byte) : (raise cls code subject data s).clc.reports
      = [{ cls := cls, code := code, subject := subject, data := data }] := by
  rw [raise_reports busy]
  simp [Clc.enqueue, on, none, Config.maxReports]

/-- The handled head gets its reply, the last of the list (R204). -/
theorem finishHead_of_handling {q : Queued} {rest : List Queued} (at_ : s.clc.queue = q :: rest) (h : q.state = .handling)
    (r : ResultCode) (data : List Byte) : (finishHead r data s).clc.queue = { q with state := .replying } :: rest
      ∧ (finishHead r data s).clc.replies = s.clc.replies ++ [replyTo q.kind q.tag r data] := by
  unfold finishHead
  rw [at_]
  simp only [h, if_true]
  simp [addReply, replyTo]

/-- A busy transmitter leaves the reports waiting when the head is answered (R206). -/
theorem finishHead_reports (busy : s.clc.tx ≠ .idle) (r : ResultCode) (data : List Byte) :
    (finishHead r data s).clc.reports = s.clc.reports := by
  unfold finishHead
  split
  · split
    · show (Clc.transmit _).reports = _
      rw [Clc.transmit_of_busy (by exact busy)]
      rfl
    · rfl
  · rfl

/-- The consist, the store and the journey that the stop leaves (R59, R71, R80). -/
theorem stopConsist_cm (distinct : s.cm.Distinct) :
    let t := stopConsist s
    t.cm.list = [] ∧ t.cm.detached = s.cm.detached ++ s.cm.list.map (·.coach)
      ∧ t.cm.survey = { s.cm.survey with state := .off, attempts := 0, cause := .none } ∧ t.cm.types = s.cm.types
      ∧ t.cm.partings = s.cm.partings.filter (fun p => !s.cm.departingUnits.contains p.unit)
      ∧ t.jt = s.jt.reattached s.cm.departingUnits.contains ∧ t.rs = s.rs := by
  have h := returned_failSplits distinct
  have rs := failSplits_rs s
  intro t
  have cm : t.cm = { failSplits s |>.cm with
      list := [], detached := (failSplits s).cm.detached ++ (failSplits s).cm.list.map (·.coach)
      survey := { (failSplits s).cm.survey with state := .off, attempts := 0, cause := .none } } := by
    simp only [t, stopConsist, leaveList_cm, raise_cm]
    split_ifs <;> simp
  have jt : t.jt = (failSplits s).jt := by
    simp only [t, stopConsist, raise_jt]
    split_ifs <;> simp
  have rs' : t.rs = (failSplits s).rs := by
    simp only [t, stopConsist, raise_rs]
    split_ifs <;> simp
  refine ⟨by rw [cm], by rw [cm, h.detached, h.coaches], by rw [cm, h.survey], by rw [cm, h.types], by rw [cm, h.partings],
    jt.trans h.jt, rs'.trans rs⟩

theorem stopConsist_lost (distinct : s.cm.Distinct) (held : s.cm.list ≠ []) : (stopConsist s).clc.alarms.coachLost = true := by
  have h := (returned_failSplits distinct).coaches
  unfold stopConsist
  dsimp only
  rw [raise_coachLost, h, if_neg (by simpa using held)]
  rfl

/-- With no split to fail the stop tells of itself alone (R59). -/
theorem stopConsist_reports (none_departs : ∀ e ∈ s.cm.list, e.state ≠ .departing) (busy : s.clc.tx ≠ .idle)
    (none_waits : s.clc.reports = []) (on : s.clc.enabled.consist = true) :
    (stopConsist s).clc.tx ≠ .idle ∧ (stopConsist s).clc.reports
      = [{ cls := .consist, code := 14, subject := 0, data := u8 s.cm.list.length }] := by
  have told : ∃ u : State, stopConsist s = raise .consist 14 0 (u8 s.cm.list.length) u ∧ u.clc.tx = s.clc.tx
      ∧ u.clc.reports = s.clc.reports ∧ u.clc.enabled = s.clc.enabled := by
    unfold stopConsist
    dsimp only
    rw [failSplits_of_none none_departs, List.length_map]
    refine ⟨_, rfl, ?_, ?_, ?_⟩ <;> split_ifs <;> simp [setAlarms, leaveList]
  obtain ⟨u, e, tx, reports, enabled⟩ := told
  have busy' : u.clc.tx ≠ .idle := tx ▸ busy
  rw [e]
  refine ⟨?_, raise_only busy' (reports.trans none_waits) (by rw [enabled]; exact on) ..⟩
  rw [raise_reports busy', Clc.enqueue_tx]
  exact busy'

/-- The journey with the portions of some units ATTACHED again, entry by entry (R80). -/
theorem Jt.reattached_eq (j : Jt) (back : Nat → Bool) : j.reattached back = { j with
    portions := j.portions.map fun p => { p with state := if back p.unit then .attached else p.state } } := by
  refine congrArg (fun l => ({ j with portions := l } : Jt)) (List.map_congr_left fun p _ => ?_)
  split <;> rfl

/-- The cycle end of a STOPPING controller (R173). -/
theorem cycleClose_stopping (gap : s.bc.segment = .gap) (stopping : s.bc.state = .stopping) :
    cycleClose s = backboneOff s := by
  unfold cycleClose
  rw [gap, stopping]

/-- Settles O37: the stop of a running backbone, the next beacon, and what the end of the last cycle leaves. -/
theorem cycleEndRunsOnOrStops : Obligations.CycleEndRunsOnOrStops := by
  unfold Obligations.CycleEndRunsOnOrStops
  refine ⟨fun tag s h => exec_stopBackbone h, fun s r d gap runs => ?_, fun s r d ok gap stopping => ?_⟩
  · intro n table updates
    have decided : (s.sup.decide n).1 = true ↔ updates := s.sup.decide_iff n
    obtain ⟨capture, a, b, mismatch⟩ := s.sup.beacon_rest n
    have undecided : (s.sup.decide n).1 = false ↔ ¬ updates := (Bool.not_eq_true _).symm.to_iff.trans decided.not
    rw [s.sup.decide_capture n] at capture
    refine ⟨_, congrArg Host.Outcome.next (event_running (f := cycleClose) r d), ?_⟩
    rw [cycleClose_running gap runs]
    refine ⟨rfl, fun u => ?_, fun u => ?_, s.sup.beacon_table_next n, fun w u => ?_, fun e odd u => ?_, fun w e => ?_, a, b, mismatch,
      rfl, rfl, rfl, (congrArg State.dc (State.setDc_advanced d) :), rfl⟩
    · exact (s.sup.beacon_table_same n).trans (if_pos (decided.mpr u))
    · exact (s.sup.beacon_table_same n).trans (if_neg (decided.not.mpr u))
    · exact capture.trans (if_pos ⟨w, decided.mpr u⟩)
    · exact capture.trans ((if_neg fun w => u (decided.mp w.2)).trans (if_pos ⟨e, odd, undecided.mpr u⟩))
    · exact capture.trans ((if_neg fun x => w ⟨x.1, decided.mp x.2⟩).trans
        (if_neg fun x => e ⟨x.1, x.2.1, undecided.mp x.2.2⟩))
  · intro departs
    let off := s.setBc { s.bc.enter .none with state := .off, rxA := .hunt, rxB := .hunt }
    have distinct : off.cm.Distinct := Cm.Distinct.of_consistOk ok
    have units (u : Nat) : s.cm.departingUnits.contains u = departs u := by
      rw [Bool.eq_iff_iff, List.contains_iff_mem, Cm.mem_departingUnits]
    obtain ⟨list, detached, survey, types, partings, jt, rs⟩ := stopConsist_cm distinct
    have kept := kept_stopConsist off
    obtain ⟨bc, sup⟩ := kept.abort.eq_of_no_frame rfl
    refine ⟨_, congrArg Host.Outcome.next (event_running (f := cycleClose) r d), ?_⟩
    rw [cycleClose_stopping gap stopping, backboneOff]
    simp only [State.setDc_bc, State.setDc_sup, State.setDc_rs, State.setDc_cm, State.setDc_jt, State.setDc_clc, finishHead_bc,
      finishHead_sup, finishHead_rs, finishHead_cm, finishHead_jt, finishHead_alarms]
    refine ⟨bc, sup, rs, types, list, detached, survey, ?_, ?_, stopConsist_lost distinct, fun q rest at_ h => ?_,
      fun on busy none_waits none_departs => ?_⟩
    · exact partings.trans (List.filter_congr fun p _ => congrArg (!·) (units p.unit))
    · exact jt.trans ((congrArg s.jt.reattached (funext units)).trans (Jt.reattached_eq ..))
    · obtain ⟨queue, replies⟩ := finishHead_of_handling (kept.queue.trans at_) h .done []
      exact ⟨queue, replies.trans (congrArg (· ++ _) kept.replies)⟩
    · obtain ⟨tx, reports⟩ := stopConsist_reports (s := off) none_departs busy none_waits on
      exact (finishHead_reports tx ..).trans reports

end Sys2Proof.Machine
end

section
/-! Changes of one list entry, up to the content blocks and the agreement statuses. -/

namespace Sys2Proof.Machine

variable {s t u : State} {id : Nat} {c : Cm} {g h : Entry → Entry} {e : Entry}

/-! ## Entries and consists up to blocks and agreement -/

/-- An entry without its content blocks and its agreement status. -/
def Entry.bare (e : Entry) : Entry := { e with blocks := .ofKinds fun _ => ⟨false, 0, false⟩, agree := .unitUnassigned }

theorem Cm.outline_eq (c : Cm) : c.outline = { c with list := c.list.map Entry.bare } := by
  simp only [Cm.outline, Cm.unmarked, List.map_map]
  rfl

/-- A change of entries that does not see blocks and agreement statuses. -/
def Plain (h : Entry → Entry) : Prop := ∀ e, (h e.bare).bare = (h e).bare

theorem Cm.update_outline (plain : Plain h) (c : Cm) (id : Nat) : (c.update id h).outline =
    { c.outline with list := c.outline.list.map fun e => if e.coach.id = id then (h e).bare else e } := by
  simp only [Cm.outline_eq, Cm.update, List.map_map]
  refine congrArg (fun l => ({ c with list := l } : Cm)) (List.map_congr_left fun e _ => ?_)
  show (if e.coach.id = id then h e else e).bare = if e.coach.id = id then (h e.bare).bare else e.bare
  rw [plain e]
  split <;> rfl

theorem Cm.Distinct.mem_unique (d : c.Distinct) {x : Entry} (m : e ∈ c.list) (n : x ∈ c.list) (i : x.coach.id = e.coach.id) :
    x = e := List.inj_on_of_nodup_map d n m i

/-- Two changes that agree on the entry of the identity are one (R53). -/
theorem Cm.Distinct.update_congr (d : c.Distinct) (at_ : c.entryOf id = some e) (same : g e = h e) :
    c.update id g = c.update id h := by
  refine congrArg (fun l => ({ c with list := l } : Cm)) (List.map_congr_left fun x m => ?_)
  by_cases i : x.coach.id = id
  · have e_id : e.coach.id = id := by simpa using List.find?_some at_
    rw [if_pos i, if_pos i, d.mem_unique (List.mem_of_find?_eq_some at_) m (i.trans e_id.symm), same]
  · rw [if_neg i, if_neg i]

/-- An entry that a change leaves alone leaves the consist alone. -/
theorem Cm.Distinct.update_eq_self (d : c.Distinct) (at_ : c.entryOf id = some e) (same : h e = e) : c.update id h = c :=
  (d.update_congr at_ (h := fun e => e) same).trans
    (congrArg (fun l => ({ c with list := l } : Cm)) ((List.map_congr_left fun _ _ => ite_self _).trans (List.map_id _)))

theorem Cm.update_of_none (at_ : c.entryOf id = none) (h : Entry → Entry) : c.update id h = c := by
  refine congrArg (fun l => ({ c with list := l } : Cm)) ((List.map_congr_left fun x m => if_neg ?_).trans (List.map_id _))
  simpa using List.find?_eq_none.mp at_ x m

/-! ## One entry changed -/

/-- Of the consist one entry is changed, up to blocks and agreement statuses, and the journey and the store are as they were. -/
structure Changed (s t : State) (id : Nat) (g : Entry → Entry) : Prop where
  outline : t.cm.outline = (s.cm.update id g).outline
  jt : t.jt = s.jt
  rs : t.rs = s.rs

namespace Changed

theorem updateEntry (s : State) (id : Nat) (g : Entry → Entry) : Changed s (updateEntry id g s) id g := ⟨rfl, rfl, rfl⟩

theorem trans (a : Changed s t id g) (b : Changed t u id h) (keeps : ∀ e, (g e).coach.id = e.coach.id) (plain : Plain h) :
    Changed s u id fun e => h (g e) := by
  refine ⟨?_, b.jt.trans a.jt, b.rs.trans a.rs⟩
  rw [b.outline, Cm.update_outline plain, a.outline, ← Cm.update_outline plain]
  refine congrArg Cm.outline (congrArg (fun l => ({ s.cm with list := l } : Cm)) ?_)
  simp only [Cm.update, List.map_map]
  refine List.map_congr_left fun e _ => ?_
  by_cases i : e.coach.id = id <;> simp [i, keeps]

theorem list (a : Changed s t id g) : t.cm.list.map Entry.bare
    = (s.cm.list.map fun e => if e.coach.id = id then g e else e).map Entry.bare := by
  have q := congrArg Cm.list a.outline
  rwa [Cm.outline_eq, Cm.outline_eq] at q

/-- The identities stay, each in its place. -/
theorem ids (a : Changed s t id g) (keeps : ∀ e, (g e).coach.id = e.coach.id) :
    t.cm.list.map (·.coach.id) = s.cm.list.map (·.coach.id) := by
  have q := congrArg (List.map (·.coach.id)) a.list
  simp only [List.map_map] at q
  refine Eq.trans q (List.map_congr_left fun e _ => ?_)
  by_cases i : e.coach.id = id <;> simp [i, Entry.bare, keeps]

theorem distinct (a : Changed s t id g) (keeps : ∀ e, (g e).coach.id = e.coach.id) (d : s.cm.Distinct) : t.cm.Distinct :=
  (congrArg List.Nodup (a.ids keeps)).mpr d

theorem detached (a : Changed s t id g) : t.cm.detached = s.cm.detached := by have q := congrArg Cm.detached a.outline; exact q
theorem survey (a : Changed s t id g) : t.cm.survey = s.cm.survey := by have q := congrArg Cm.survey a.outline; exact q

/-- The changed entry stands in the list. -/
theorem exists_mem (a : Changed s t id g) (m : e ∈ s.cm.list) (i : e.coach.id = id) : ∃ x ∈ t.cm.list, x.bare = (g e).bare := by
  have here : (g e).bare ∈ t.cm.list.map Entry.bare := by
    rw [a.list]
    exact List.mem_map_of_mem (List.mem_map.mpr ⟨e, m, if_pos i⟩)
  exact List.mem_map.mp here

end Changed

/-! ## What a valid answer changes (R69, R76) -/

section Answer

variable (d : s.cm.Distinct) (id : Nat)
include d

/-- An operation that finds the entry, and does nothing or as the change says. -/
theorem changed_of_found {f : State → State} {g : Entry → Entry} (none : s.cm.entryOf id = none → f s = s)
    (found : ∀ e, s.cm.entryOf id = some e → (g e = e ∧ f s = s)
      ∨ ∃ h, h e = g e ∧ (f s).cm.outline = (s.cm.update id h).outline ∧ (f s).jt = s.jt ∧ (f s).rs = s.rs) :
    Changed s (f s) id g := by
  cases at_ : s.cm.entryOf id with
  | none => rw [none at_]; exact ⟨by rw [Cm.update_of_none at_], rfl, rfl⟩
  | some e =>
    obtain ⟨same, eq⟩ | ⟨h, same, outline, jt, rs⟩ := found e at_
    · rw [eq]; exact ⟨by rw [d.update_eq_self at_ same], rfl, rfl⟩
    · exact ⟨outline.trans (by rw [d.update_congr at_ same]), jt, rs⟩

/-- A MUTE entry that answers is ACTIVE (R69). -/
def Entry.unmuted (e : Entry) : Entry := { e with state := if e.state = .mute then .active else e.state }

theorem unmute_changed : Changed s (unmute id s) id Entry.unmuted := by
  refine changed_of_found d id (f := unmute id) (fun none => by rw [unmute, none]) fun e at_ => ?_
  simp only [unmute, at_]
  by_cases mute : e.state = .mute
  · refine .inr ⟨fun e => { e with state := .active }, by simp [Entry.unmuted, mute], ?_⟩
    rw [if_pos mute]
    exact ⟨Cm.outline_of_unmarked (setEntryState_unmarked ..), by simp, by simp⟩
  · exact .inl ⟨by simp [Entry.unmuted, mute], if_neg mute⟩

theorem takeOrientation_changed (o : Orientation) :
    Changed s (takeOrientation id o s) id (Entry.mapCoach fun c => { c with orient := o }) := by
  refine changed_of_found d id (f := takeOrientation id o) (fun none => by rw [takeOrientation, none]) fun e at_ => ?_
  simp only [takeOrientation, at_]
  by_cases same : e.coach.orient = o
  · exact .inl ⟨by subst same; rfl, if_pos same⟩
  · refine .inr ⟨_, rfl, ?_⟩
    rw [if_neg same]
    exact ⟨Cm.outline_of_unmarked (markBlocks_unmarked ..), by simp, by simp⟩

theorem takeType_changed (type : Nat) : Changed s (takeType id type s) id (Entry.mapCoach fun c => { c with type := type }) := by
  refine changed_of_found d id (f := takeType id type) (fun none => by rw [takeType, none]) fun e at_ => ?_
  simp only [takeType, at_]
  by_cases same : e.coach.type = type
  · exact .inl ⟨by subst same; rfl, if_pos same⟩
  · refine .inr ⟨_, rfl, ?_⟩
    rw [if_neg same]
    have told (t : State) : (reportUnknownType id type t).cm = t.cm ∧ (reportUnknownType id type t).rs = t.rs := by
      unfold reportUnknownType
      split_ifs <;> exact ⟨rfl, rfl⟩
    refine ⟨?_, by simp, (told _).2.trans (by simp)⟩
    rw [(told _).1, checkEntry_outline, Cm.outline_of_unmarked (markSeats_unmarked ..),
      Cm.outline_of_unmarked (evaluateKinds_unmarked ..)]
    rfl

/-- A printed number above 999 is not taken (R69). -/
def Coach.numbered (number : Nat) (c : Coach) : Coach := { c with number := if number ≤ 999 then number else c.number }

theorem takeNumber_changed (number : Nat) : Changed s (takeNumber id number s) id (Entry.mapCoach (Coach.numbered number)) := by
  refine changed_of_found d id (f := takeNumber id number) (fun none => by rw [takeNumber, none]) fun e at_ => ?_
  simp only [takeNumber, at_, Bool.or_eq_true, decide_eq_true_eq]
  by_cases same : e.coach.number = number ∨ 999 < number
  · refine .inl ⟨?_, if_pos same⟩
    have kept : (if number ≤ 999 then number else e.coach.number) = e.coach.number := by
      obtain same | high := same
      · rw [same, ite_self]
      · exact if_neg (not_le.mpr high)
    simp only [Entry.mapCoach, Coach.numbered, kept]
  · obtain ⟨-, low⟩ := not_or.mp same
    refine .inr ⟨Entry.mapCoach fun c => { c with number := number }, ?_, ?_⟩
    · simp [Entry.mapCoach, Coach.numbered, not_lt.mp low]
    · rw [if_neg same]
      exact ⟨Cm.outline_of_unmarked (markHeaders_unmarked ..), by simp, by simp⟩

/-- Whether the unit an answer carries differs from the entry's (R69). -/
def Coach.compared (unit : Nat) (c : Coach) : Coach := { c with unitDiffers := decide (unit ≠ c.unit) }

theorem takeUnit_cm (unit : Nat) : (takeUnit id unit s).cm = s.cm.update id (Entry.mapCoach (Coach.compared unit)) := by
  unfold takeUnit
  split
  · next none => exact (Cm.update_of_none none _).symm
  · next e at_ =>
    have differs (q : e.coach.unit ≠ unit) : decide (unit ≠ e.coach.unit) = true := by simpa using fun r => q r.symm
    split_ifs with same told
    · exact d.update_congr at_ (by simp [Entry.mapCoach, Coach.compared, same])
    · exact (d.update_eq_self at_ (by simp only [Entry.mapCoach, Coach.compared, differs same, ← told])).symm
    · exact d.update_congr at_ (by simp only [Entry.mapCoach, Coach.compared, differs same])

theorem takeUnit_changed (unit : Nat) : Changed s (takeUnit id unit s) id (Entry.mapCoach (Coach.compared unit)) := by
  refine ⟨by rw [takeUnit_cm d], by simp, ?_⟩
  unfold takeUnit
  split
  · rfl
  · split_ifs <;> rfl

/-- The slot noted with its hop, and the missed count 0 (R68, R69). -/
def Entry.heard (even : Bool) (hop : Nat) (e : Entry) : Entry :=
  { (e.note even true).mapCoach (fun c => { c with missed := 0 }) with pairHop := e.pairHop.add hop }

/-- An entry after a valid answer (R69, R76). -/
def Entry.answered (even : Bool) (a : NodeAnswer) (e : Entry) : Entry :=
  ((((((e.heard even a.hop).unmuted).mapCoach fun c => { c with orient := a.orient }).mapCoach
    fun c => { c with type := a.type }).mapCoach (Coach.numbered a.number)).mapCoach (Coach.compared a.unit))

theorem slotAnswered_changed (a : NodeAnswer) :
    Changed s (slotAnswered id a s) id (Entry.answered (decide (s.bc.counter % 2 = 0)) a) := by
  have heard_id (e : Entry) : (e.heard (decide (s.bc.counter % 2 = 0)) a.hop).coach.id = e.coach.id := by
    unfold Entry.heard Entry.note
    split <;> rfl
  have h0 := Changed.updateEntry s id (Entry.heard (decide (s.bc.counter % 2 = 0)) a.hop)
  have h1 := h0.trans (unmute_changed (h0.distinct heard_id d) id) heard_id fun _ => rfl
  have h2 := h1.trans (takeOrientation_changed (h1.distinct heard_id d) id a.orient) heard_id fun _ => rfl
  have h3 := h2.trans (takeType_changed (h2.distinct heard_id d) id a.type) heard_id fun _ => rfl
  have h4 := h3.trans (takeNumber_changed (h3.distinct heard_id d) id a.number) heard_id fun _ => rfl
  exact h4.trans (takeUnit_changed (h4.distinct heard_id d) id a.unit) heard_id fun _ => rfl

/-- An answer that changes no field leaves every block (R69). -/
theorem slotAnswered_unchanged {a : NodeAnswer} (at_ : s.cm.entryOf id = some e) (state : e.state ≠ .mute)
    (orient : a.orient = e.coach.orient) (type : a.type = e.coach.type) (number : a.number = e.coach.number) :
    (slotAnswered id a s).cm = s.cm.update id fun e =>
      (e.heard (decide (s.bc.counter % 2 = 0)) a.hop).mapCoach (Coach.compared a.unit) := by
  have heard_eq (e : Entry) : (e.heard (decide (s.bc.counter % 2 = 0)) a.hop).coach = { e.coach with missed := 0 }
      ∧ (e.heard (decide (s.bc.counter % 2 = 0)) a.hop).state = e.state := by
    unfold Entry.heard Entry.note
    split <;> exact ⟨rfl, rfl⟩
  have i : e.coach.id = id := by simpa using List.find?_some at_
  have m := List.mem_of_find?_eq_some at_
  obtain ⟨coach, state_⟩ := heard_eq e
  let s0 := updateEntry id (Entry.heard (decide (s.bc.counter % 2 = 0)) a.hop) s
  have d0 : s0.cm.Distinct := (Changed.updateEntry s id _).distinct (fun e => by rw [(heard_eq e).1]) d
  have at0 : s0.cm.entryOf id = some (e.heard (decide (s.bc.counter % 2 = 0)) a.hop) := by
    have here : e.heard (decide (s.bc.counter % 2 = 0)) a.hop ∈ s0.cm.list := List.mem_map.mpr ⟨e, m, if_pos i⟩
    have q := d0.entryOf_eq here
    rwa [coach, i] at q
  have mute : unmute id s0 = s0 := by simp [unmute, at0, state_, state]
  have orient : takeOrientation id a.orient s0 = s0 := by simp [takeOrientation, at0, coach, orient]
  have type : takeType id a.type s0 = s0 := by simp [takeType, at0, coach, type]
  have number : takeNumber id a.number s0 = s0 := by simp [takeNumber, at0, coach, number]
  show (takeUnit id a.unit (takeNumber id a.number (takeType id a.type (takeOrientation id a.orient (unmute id s0))))).cm = _
  rw [mute, orient, type, number, takeUnit_cm d0]
  refine congrArg (fun l => ({ s.cm with list := l } : Cm)) ?_
  simp only [s0, updateEntry, Cm.update, State.setCm_cm, List.map_map]
  refine List.map_congr_left fun e _ => ?_
  by_cases i : e.coach.id = id <;> simp [i, (heard_eq e).1]

end Answer

end Sys2Proof.Machine
end

section
/-! The end of a coach slot: what it hands to the Consist Manager, the composer and supervision (R163 to R166, R188). -/

namespace Sys2Proof.Machine

variable {s t u : State} {id n : Nat} {f : ContentFrame} {e : Entry}

/-! ## What the slot leaves alone -/

/-- The shared operations leave the link, the rotation and, but for an abort, the backbone. -/
theorem shared_kept (s : State) : Shared (Kept s) where
  jt _ v h := h.trans (kept_setJt _ v)
  rs _ v h := h.trans (kept_setRs _ v)
  cm _ v _ h := h.trans (kept_setCm _ v)
  advanced _ _ h := h.trans ⟨rfl, rfl, rfl, rfl, rfl, rfl, .inl ⟨rfl, rfl⟩, rfl, rfl, rfl, rfl, rfl, rfl, rfl, rfl⟩
  abort test _ h := h.trans (kept_abortIf test _)
  alarms f _ h := h.trans (kept_setAlarms f _)
  raise cls code subject data _ h := h.trans (kept_raise cls code subject data _)

/-- A frame that is not being sent cannot be aborted (R159). -/
theorem AbortAtMost.eq_of_ended (h : AbortAtMost s t) (at_ : s.bc.frame = some f) (ended : f.state ≠ .sending) :
    t.bc = s.bc ∧ t.sup = s.sup := by
  obtain same | ⟨x, here, flight, -⟩ := h
  · exact same
  · rw [at_] at here
    cases here
    simp [ContentFrame.inFlight, ended] at flight

/-- A frame that has ended sends nothing more as time runs on (R158). -/
theorem runTo_of_ended (at_ : s.bc.frame = some f) (ended : f.state ≠ .sending) (k : Nat) :
    runTo k s = s.setBc { s.bc with clock := max s.bc.clock (min k s.bc.segment.length) } := by
  have sent (p : List Byte) (c : Nat) : f.sendTo p c = f := by
    simp [ContentFrame.sendTo, ended]
  simp only [runTo, at_, Option.map_some, sent]

/-! ## Supervision at a slot end -/

theorem heardInSlot_result (endAt : Nat) (g : Takings) : (heardInSlot endAt g).result = resultOf (endAt + 40) 1900 0x81 17 g :=
  Takings.classify_eq g (endAt + 40) 1900 0x81#8 17

theorem Heard.validFor_eq (h : Heard) (id : Nat) : h.validFor id = (decide (h.result = .valid) && decide (field32 h.payload 0 = id)) := rfl

theorem heardInSlot_validFor (endAt : Nat) (g : Takings) (id : Nat) : (heardInSlot endAt g).validFor id =
    (decide (resultOf (endAt + 40) 1900 0x81 17 g = .valid) && decide (field32 g.payload 0 = id)) := by
  rw [Heard.validFor_eq, heardInSlot_result]
  rfl

/-- A line's part of the row of a slot (R188). -/
theorem heardInSlot_part (endAt : Nat) (g : Takings) :
    (heardInSlot endAt g).part = partWith (resultOf (endAt + 40) 1900 0x81 17 g) g.payload := by
  rw [Heard.part_eq, heardInSlot_result]
  rfl

/-- A line after a slot that belonged to an entry (R177, R181). -/
theorem LineSup.after_slot (l : LineSup) (h : Heard) (id : Nat) (other : Bool) :
    (l.result h.result (h.validFor id)).observe (h.validFor id) other = lineAfterSlot l h.result (h.validFor id) other := by
  have flags := l.flags.after_eq h.result (h.validFor id) fun ok => by
    exact of_decide_eq_true (Bool.and_eq_true_iff.mp (h.validFor_eq id ▸ ok)).1
  unfold LineSup.observe LineSup.result lineAfterSlot
  rw [flags]

theorem Sup.writeRow_lines (v : Sup) (k hop : Nat) (r : Row) : (v.writeRow k hop r).a = v.a ∧ (v.writeRow k hop r).b = v.b
    ∧ (v.writeRow k hop r).mismatch = v.mismatch := by
  unfold Sup.writeRow Sup.setTable
  dsimp only
  split_ifs <;> exact ⟨rfl, rfl, rfl⟩

/-- A row is written exactly in a cycle that updates its table (R188). -/
theorem Sup.writeRow_table (v : Sup) (k hop : Nat) (r : Row) : (v.writeRow k hop r).table k =
    if (v.table k).updating then { v.table k with rows := (v.table k).rows.set (hop - 1) r } else v.table k := by
  unfold Sup.writeRow
  dsimp only
  split
  · rw [Sup.table_setTable_same]
  · rfl

/-- The row of a slot (R188). -/
def slotRow (id : Nat) (a b : Heard) (ack : Ack) : Row :=
  { addressed := some id, partA := a.part, partB := b.part, used := usedLine (a.validFor id) (b.validFor id), ack := ack }

/-- Supervision after a slot (R177, R178, R181, R188). -/
def supAfter (v : Sup) (id k hop : Nat) (a b : Heard) (ack : Ack) : Sup :=
  (v.slot a b (a.validFor id) (b.validFor id)).writeRow k hop (slotRow id a b ack)

theorem supAfter_lines (v : Sup) (id k hop : Nat) (a b : Heard) (ack : Ack) :
    (supAfter v id k hop a b ack).a = lineAfterSlot v.a a.result (a.validFor id) (b.validFor id)
      ∧ (supAfter v id k hop a b ack).b = lineAfterSlot v.b b.result (b.validFor id) (a.validFor id)
      ∧ (supAfter v id k hop a b ack).mismatch = (v.mismatch || (a.validFor id && b.validFor id && a.payload ≠ b.payload)) := by
  obtain ⟨la, lb, mismatch⟩ := Sup.writeRow_lines (v.slot a b (a.validFor id) (b.validFor id)) k hop (slotRow id a b ack)
  exact ⟨la.trans (v.a.after_slot a id _), lb.trans (v.b.after_slot b id _), mismatch⟩

theorem supAfter_table (v : Sup) (id k hop : Nat) (a b : Heard) (ack : Ack) : (supAfter v id k hop a b ack).table k =
    if (v.table k).updating then { v.table k with rows := (v.table k).rows.set (hop - 1) (slotRow id a b ack) } else v.table k :=
  Sup.writeRow_table ..

/-! ## The slot end as a whole -/

/-- The answer used at a slot end (R164). -/
def slotAnswer (f : ContentFrame) (b : Bc) : Option NodeAnswer :=
  (usedPayload (heardInSlot f.endAt b.gotA) (heardInSlot f.endAt b.gotB)
    (usedLine ((heardInSlot f.endAt b.gotA).validFor f.dest) ((heardInSlot f.endAt b.gotB).validFor f.dest))).map nodeAnswer

/-- The state at the end of a slot, before its outcome is handed on. -/
def slotOver (s : State) : State := s.setBc { s.bc with clock := max s.bc.clock 2000 }

/-- The outcome of a slot at the Consist Manager and at the composer (R163). -/
def slotHanded (f : ContentFrame) (a : Option NodeAnswer) (s : State) : State × Ack :=
  composerOutcome f a (consistOutcome f.dest a (slotOver s))

theorem kept_slotHanded (f : ContentFrame) (a : Option NodeAnswer) (s : State) : Kept (slotOver s) (slotHanded f a s).1 :=
  (shared_kept _).composerOutcome ((shared_kept _).consistOutcome (.refl _) _ _) _ _

/-- The end of a slot whose frame has ended: the outcome at the Consist Manager and the composer, and supervision's part. -/
theorem exec_coachSlotEnd (r : s.clc.ready ≠ .held) (d : s.dc.advanced = []) (seg : s.bc.segment = .slot n)
    (at_ : s.bc.frame = some f) (ended : f.state ≠ .sending) : ∃ t, exec .coachSlotEnd s = .next t
      ∧ t.bc = { s.bc with clock := max s.bc.clock 2000, segment := .slotDone n, frame := none }
      ∧ t.dc = s.dc ∧ t.sup = supAfter s.sup f.dest s.bc.counter n (heardInSlot f.endAt s.bc.gotA)
          (heardInSlot f.endAt s.bc.gotB) (slotHanded f (slotAnswer f s.bc) s).2
      ∧ t.cm = (slotHanded f (slotAnswer f s.bc) s).1.cm ∧ t.jt = (slotHanded f (slotAnswer f s.bc) s).1.jt
      ∧ t.rs = (slotHanded f (slotAnswer f s.bc) s).1.rs ∧ t.clc = (slotHanded f (slotAnswer f s.bc) s).1.clc := by
  have kept := kept_slotHanded f (slotAnswer f s.bc) s
  obtain ⟨bc, sup⟩ := kept.abort.eq_of_ended at_ ended
  have run : runTo 2000 s = slotOver s := by
    rw [runTo_of_ended at_ ended, seg]
    rfl
  have ends : slotEnd s = ((slotHanded f (slotAnswer f s.bc) s).1.setSup (supAfter (slotHanded f (slotAnswer f s.bc) s).1.sup
      f.dest s.bc.counter n (heardInSlot f.endAt s.bc.gotA) (heardInSlot f.endAt s.bc.gotB)
      (slotHanded f (slotAnswer f s.bc) s).2)).setBc
        { (slotHanded f (slotAnswer f s.bc) s).1.bc with segment := .slotDone n, frame := none } := by
    have frame : (slotOver s).bc.frame = some f := at_
    unfold slotEnd
    rw [seg]
    dsimp only
    rw [run, frame]
    rfl
  refine ⟨_, congrArg Host.Outcome.next (event_running (f := slotEnd) r d), ?_⟩
  rw [ends]
  refine ⟨?_, kept.dc_emptied d, ?_, rfl, rfl, rfl, rfl⟩
  · simp only [State.setDc_bc, State.setBc_bc, bc]
    rfl
  · simp only [State.setDc_sup, State.setBc_sup, State.setSup_sup, sup]
    rfl

end Sys2Proof.Machine
end

section
/-! A valid answer at a slot end (R69, R132, R133): statement O52. -/

namespace Sys2Proof.Machine

variable {s t u : State} {id n : Nat} {f : ContentFrame} {e x : Entry} {a : NodeAnswer}

/-! ## The acknowledgement -/

/-- R132, step 2: the answer echoes the frame sent, whose generation is still the block's. -/
def ContentFrame.current (f : ContentFrame) (a : NodeAnswer) (e : Entry) : Bool :=
  f.echoed a && decide ((e.blocks.get f.kind).gen = f.gen)

theorem ContentFrame.echoed_iff : f.echoed a = true ↔
    (∃ x, f.state = .completed x ∧ a.echoCheck = x.toNat) ∧ a.echoKind = f.kind.code ∧ a.echoGen = f.gen := by
  unfold ContentFrame.echoed
  split
  · next x at_ => simp [at_, and_comm]
  · next none => simpa using fun x at_ => absurd at_ (none x)

theorem acknowledge_outline (f : ContentFrame) (a : NodeAnswer) (s : State) : (acknowledge f a s).cm.outline = s.cm.outline
    ∧ (acknowledge f a s).jt = s.jt ∧ (acknowledge f a s).rs = s.rs := by
  unfold acknowledge
  split
  · exact ⟨rfl, rfl, rfl⟩
  · split_ifs
    · refine ⟨?_, rfl, rfl⟩
      rw [Cm.outline_eq, Cm.outline_eq]
      refine congrArg (fun l => ({ s.cm with list := l } : Cm)) ((List.map_map ..).trans (List.map_congr_left fun e _ => ?_))
      show Entry.bare (if e.coach.id = f.dest then Entry.clean f.kind e else e) = e.bare
      split <;> rfl
    · exact ⟨rfl, rfl, rfl⟩

/-- The composer changes content blocks only (R132). -/
theorem composerOutcome_changed (f : ContentFrame) (a : Option NodeAnswer) (s : State) (id : Nat) :
    Changed s (composerOutcome f a s).1 id fun e => e := by
  have self : s.cm.update id (fun e => e) = s.cm :=
    congrArg (fun l => ({ s.cm with list := l } : Cm)) ((List.map_congr_left fun _ _ => ite_self _).trans (List.map_id _))
  unfold composerOutcome
  split
  · exact ⟨by rw [self], rfl, rfl⟩
  · exact ⟨by rw [self], rfl, rfl⟩
  · next n _ =>
    obtain ⟨outline, jt, rs⟩ := acknowledge_outline f n (if n.restarted then dirtyBlocks (fun e => e.coach.id = f.dest) s else s)
    have told (p : Entry → Bool) (b : Bool) : (if b then dirtyBlocks p s else s).cm.outline = s.cm.outline
        ∧ (if b then dirtyBlocks p s else s).jt = s.jt ∧ (if b then dirtyBlocks p s else s).rs = s.rs := by
      cases b
      · exact ⟨rfl, rfl, rfl⟩
      · exact ⟨Cm.outline_of_unmarked (dirtyBlocks_unmarked ..), by simp, by simp⟩
    obtain ⟨outline', jt', rs'⟩ := told (fun e => e.coach.id = f.dest) n.restarted
    exact ⟨by rw [self, outline, outline'], jt.trans jt', rs.trans rs'⟩

/-- The result for the tables of an answer of a listed entry (R133). -/
theorem composerOutcome_ack (at_ : s.cm.entryOf f.dest = some e) (a : Option NodeAnswer) :
    (composerOutcome f a s).2 = f.ack a := by
  unfold composerOutcome
  rw [at_]
  cases a <;> rfl

/-- An answer that does not tell of a restart cleans the block of a current frame and nothing else (R132). -/
theorem composerOutcome_cm (d : s.cm.Distinct) (at_ : s.cm.entryOf f.dest = some e) (restarted : a.restarted = false) :
    (composerOutcome f (some a) s).1.cm = s.cm.update f.dest fun e => if f.current a e then e.clean f.kind else e := by
  have eq : (composerOutcome f (some a) s).1 = acknowledge f a s := by
    simp [composerOutcome, at_, restarted]
  have same : (f.echoed a && decide ((e.blocks.get f.kind).gen = f.gen)) = f.current a e := rfl
  rw [eq]
  simp only [acknowledge, at_, same]
  split_ifs with current
  · exact d.update_congr at_ (by simp [current])
  · exact (d.update_eq_self at_ (by simp [current])).symm

/-- The one entry of an identity after a change that keeps it. -/
theorem Cm.Distinct.mem_update {c : Cm} {h : Entry → Entry} (d : c.Distinct) (at_ : c.entryOf id = some e)
    (m : x ∈ (c.update id h).list) (i : x.coach.id = id) : x = h e := by
  have e_id : e.coach.id = id := by simpa using List.find?_some at_
  obtain ⟨y, y_mem, rfl⟩ := List.mem_map.mp m
  by_cases y_id : y.coach.id = id
  · rw [if_pos y_id, d.mem_unique (List.mem_of_find?_eq_some at_) y_mem (y_id.trans e_id.symm)]
  · rw [if_neg y_id] at i
    exact absurd i y_id

theorem Cm.Distinct.entryOf_update {c : Cm} {h : Entry → Entry} (d : c.Distinct) (at_ : c.entryOf id = some e)
    (keeps : ∀ y, (h y).coach.id = y.coach.id) : (c.update id h).entryOf id = some (h e) := by
  have i : e.coach.id = id := by simpa using List.find?_some at_
  have here : h e ∈ (c.update id h).list := List.mem_map.mpr ⟨e, List.mem_of_find?_eq_some at_, if_pos i⟩
  have ids : (c.update id h).list.map (·.coach.id) = c.list.map (·.coach.id) := by
    refine (List.map_map ..).trans (List.map_congr_left fun y _ => ?_)
    by_cases y_id : y.coach.id = id <;> simp [y_id, keeps]
  have found := Cm.Distinct.entryOf_eq (show (c.update id h).Distinct from (congrArg List.Nodup ids).mpr d) here
  rwa [keeps, i] at found

/-! ## The entry after a valid answer -/

/-- The coach of an answered entry (R69, R76). -/
theorem Entry.answered_coach (even : Bool) (a : NodeAnswer) (e : Entry) : (e.answered even a).coach =
    { e.coach with missed := 0, orient := a.orient, type := a.type,
                   number := if a.number ≤ 999 then a.number else e.coach.number,
                   unitDiffers := decide (a.unit ≠ e.coach.unit) } := by
  cases even <;> rfl

theorem Entry.answered_state (even : Bool) (a : NodeAnswer) (e : Entry) :
    (e.answered even a).state = if e.state = .mute then .active else e.state := by
  cases even <;> rfl

/-- The pair of an answered entry (R68, R69). -/
theorem Entry.answered_pair (even : Bool) (a : NodeAnswer) (e : Entry) :
    (e.answered even a).pairCount = e.pairCount ∧ (e.answered even a).pairHop = e.pairHop.add a.hop
      ∧ (e.answered even a).evenHeld = (even || e.evenHeld) ∧ (e.answered even a).evenValid = (even || e.evenValid)
      ∧ (e.answered even a).oddValid = (!even || e.oddValid) := by
  cases even <;> exact ⟨rfl, rfl, rfl, rfl, rfl⟩

theorem Entry.answered_id (even : Bool) (a : NodeAnswer) (e : Entry) : (e.answered even a).coach.id = e.coach.id := by
  rw [Entry.answered_coach]

/-- What an entry holds besides its content blocks and its agreement status. -/
theorem Entry.bare_ext {x y : Entry} (q : x.bare = y.bare) : x.coach = y.coach ∧ x.state = y.state ∧ x.pairCount = y.pairCount
    ∧ x.pairHop = y.pairHop ∧ x.evenHeld = y.evenHeld ∧ x.evenValid = y.evenValid ∧ x.oddValid = y.oddValid :=
  ⟨(congrArg Entry.coach q :), (congrArg Entry.state q :), (congrArg Entry.pairCount q :), (congrArg Entry.pairHop q :),
    (congrArg Entry.evenHeld q :), (congrArg Entry.evenValid q :), (congrArg Entry.oddValid q :)⟩

section Answered

variable (d : s.cm.Distinct) (at_ : s.cm.entryOf f.dest = some e)
include d at_

/-- The outcome of an answered slot at the Consist Manager and the composer (R69, R132). -/
theorem slotHanded_answered (a : NodeAnswer) : Changed s (slotHanded f (some a) s).1 f.dest
    (Entry.answered (decide (s.bc.counter % 2 = 0)) a) ∧ (slotHanded f (some a) s).2 = f.ack (some a) := by
  have eq : consistOutcome f.dest (some a) (slotOver s) = slotAnswered f.dest a (slotOver s) := by
    simp only [consistOutcome, show (slotOver s).cm.entryOf f.dest = some e from at_]
  have answered : Changed s (slotAnswered f.dest a (slotOver s)) f.dest _ :=
    let ⟨outline, jt, rs⟩ := slotAnswered_changed (s := slotOver s) d f.dest a
    ⟨outline, jt, rs⟩
  refine ⟨?_, ?_⟩
  · unfold slotHanded
    rw [eq]
    exact answered.trans (composerOutcome_changed f (some a) _ _) (Entry.answered_id _ a) fun _ => rfl
  · have i : e.coach.id = f.dest := by simpa using List.find?_some at_
    obtain ⟨x, m, q⟩ := answered.exists_mem (List.mem_of_find?_eq_some at_) i
    have here : (slotAnswered f.dest a (slotOver s)).cm.entryOf f.dest = some x := by
      have found := (answered.distinct (Entry.answered_id _ a) d).entryOf_eq m
      rwa [(Entry.bare_ext q).1, Entry.answered_id, i] at found
    unfold slotHanded
    rw [eq]
    exact composerOutcome_ack here _

/-- The blocks after an answer that changes no field and tells of no restart (R69, R132). -/
theorem slotHanded_unchanged (state : e.state ≠ .mute) (orient : a.orient = e.coach.orient) (type : a.type = e.coach.type)
    (number : a.number = e.coach.number) (restarted : a.restarted = false) {x : Entry}
    (m : x ∈ (slotHanded f (some a) s).1.cm.list) (i : x.coach.id = f.dest) :
    x.blocks = if f.current a e then (e.clean f.kind).blocks else e.blocks := by
  have eq : consistOutcome f.dest (some a) (slotOver s) = slotAnswered f.dest a (slotOver s) := by
    simp only [consistOutcome, show (slotOver s).cm.entryOf f.dest = some e from at_]
  let g (y : Entry) := (y.heard (decide (s.bc.counter % 2 = 0)) a.hop).mapCoach (Coach.compared a.unit)
  have g_eq (y : Entry) : (g y).coach.id = y.coach.id ∧ (g y).blocks = y.blocks := by
    simp only [g, Entry.heard, Entry.note]
    split <;> exact ⟨rfl, rfl⟩
  have told : (consistOutcome f.dest (some a) (slotOver s)).cm = s.cm.update f.dest g := by
    rw [eq]
    exact slotAnswered_unchanged (s := slotOver s) d f.dest at_ state orient type number
  have d1 : (s.cm.update f.dest g).Distinct := (Changed.updateEntry s f.dest g).distinct (fun y => (g_eq y).1) d
  have at1 : (s.cm.update f.dest g).entryOf f.dest = some (g e) := d.entryOf_update at_ fun y => (g_eq y).1
  have outcome := composerOutcome_cm (s := consistOutcome f.dest (some a) (slotOver s)) (told ▸ d1) (told ▸ at1) restarted
  rw [slotHanded, outcome, told] at m
  have current : f.current a (g e) = f.current a e := by rw [ContentFrame.current, (g_eq e).2, ContentFrame.current]
  rw [d1.mem_update at1 m i, current]
  split
  · simp only [Entry.clean, (g_eq e).2]
  · exact (g_eq e).2

end Answered

/-- The answer used when a line has a valid one (R164). -/
theorem slotAnswer_of_valid {b : Bc} {okA okB : Bool} (a_eq : (heardInSlot f.endAt b.gotA).validFor f.dest = okA)
    (b_eq : (heardInSlot f.endAt b.gotB).validFor f.dest = okB) (ok : (okA || okB) = true) :
    slotAnswer f b = some (nodeAnswer (if okA then b.gotA.payload else b.gotB.payload))
      ∧ usedLine okA okB = if okA then some .a else some .b := by
  unfold slotAnswer
  rw [a_eq, b_eq]
  cases okA with
  | true => exact ⟨rfl, rfl⟩
  | false =>
    rw [Bool.false_or] at ok
    subst ok
    exact ⟨rfl, rfl⟩

/-- Settles O52, by the outcome of the slot at the Consist Manager, the composer and supervision. -/
theorem slotEndTakesAValidAnswer : Obligations.SlotEndTakesAValidAnswer := by
  unfold Obligations.SlotEndTakesAValidAnswer
  intro n f e s r d ok seg at_ ended m i rA rB pA pB okA okB valid p even orient echoed table
  have distinct := Cm.Distinct.of_consistOk ok
  have here : s.cm.entryOf f.dest = some e := i ▸ distinct.entryOf_eq m
  have a_eq := heardInSlot_validFor f.endAt s.bc.gotA f.dest
  have b_eq := heardInSlot_validFor f.endAt s.bc.gotB f.dest
  obtain ⟨answer, used⟩ := slotAnswer_of_valid a_eq b_eq valid
  obtain ⟨t, run, bc, dc, sup, cm, jt, rs, -⟩ := exec_coachSlotEnd r d seg at_ ended
  rw [answer] at sup cm jt rs
  obtain ⟨changed, ack⟩ := slotHanded_answered distinct here (nodeAnswer p)
  obtain ⟨lineA, lineB, mismatch⟩ := supAfter_lines s.sup f.dest s.bc.counter n (heardInSlot f.endAt s.bc.gotA)
    (heardInSlot f.endAt s.bc.gotB) (slotHanded f (some (nodeAnswer p)) s).2
  have row := supAfter_table s.sup f.dest s.bc.counter n (heardInSlot f.endAt s.bc.gotA)
    (heardInSlot f.endAt s.bc.gotB) (slotHanded f (some (nodeAnswer p)) s).2
  rw [a_eq, b_eq, heardInSlot_result] at lineA
  rw [a_eq, b_eq, heardInSlot_result] at lineB
  rw [a_eq, b_eq] at mismatch
  obtain ⟨x, mem, bare⟩ := changed.exists_mem m i
  obtain ⟨coach, state, count, hop, evenHeld, evenValid, oddValid⟩ := Entry.bare_ext bare
  have fields := coach.trans (Entry.answered_coach _ _ e)
  obtain ⟨count', hop', evenHeld', evenValid', oddValid'⟩ := Entry.answered_pair even (nodeAnswer p) e
  have echoed_iff : f.echoed (nodeAnswer p) = true ↔ echoed := ContentFrame.echoed_iff
  have tableOf (v : Sup) : table v = v.table s.bc.counter := by
    simp only [table, even, Sup.table, decide_eq_true_eq]
  refine ⟨t, run, bc, ⟨x, cm ▸ mem, ?_, ?_, ?_, ?_, ?_, ?_, ?_, ?_, ?_, ?_, ?_, ?_, ?_, ?_, ?_⟩, ?_, ?_, ?_,
    jt.trans changed.jt, rs.trans changed.rs, dc, sup ▸ lineA, sup ▸ lineB, sup ▸ mismatch, ?_, ?_⟩
  · exact (congrArg Coach.id fields :).trans i
  · exact state.trans (Entry.answered_state _ _ e)
  · exact (congrArg Coach.missed fields :)
  · exact (congrArg Coach.orient fields :)
  · exact (congrArg Coach.type fields :)
  · exact (congrArg Coach.number fields :)
  · exact (congrArg Coach.unit fields :)
  · exact (congrArg Coach.unitDiffers fields :)
  · exact (congrArg Coach.notices fields :)
  · exact count.trans count'
  · exact hop.trans hop'
  · exact evenHeld.trans evenHeld'
  · exact evenValid.trans evenValid'
  · exact oddValid.trans oddValid'
  · intro notMute sameOrient sameType sameNumber restarted
    have blocks := slotHanded_unchanged distinct here (a := nodeAnswer p) notMute sameOrient sameType sameNumber restarted mem
      ((congrArg Coach.id fields :).trans i)
    have current : f.current (nodeAnswer p) e = true ↔ echoed ∧ (e.blocks.get f.kind).gen = f.gen := by
      rw [ContentFrame.current, Bool.and_eq_true, echoed_iff, decide_eq_true_eq]
    refine ⟨fun yes => ?_, fun no => ?_⟩
    · rw [blocks, if_pos (current.mpr yes)]
      simp [Entry.clean]
    · rw [blocks, if_neg (mt current.mp no)]
  · exact (congrArg (fun c => c.list.map (·.coach.id)) cm).trans (changed.ids (Entry.answered_id _ _))
  · exact (congrArg Cm.detached cm).trans changed.detached
  · exact (congrArg Cm.survey cm).trans changed.survey
  · intro still
    rw [tableOf] at still ⊢
    rw [tableOf, sup, row, still]
    rfl
  · intro x matched notMatched updating
    have x_eq : x = (slotHanded f (some (nodeAnswer p)) s).2 := by
      rw [ack, ContentFrame.ack]
      split
      · next yes => exact matched (echoed_iff.mp yes)
      · next no => exact notMatched (mt echoed_iff.mpr no)
    rw [tableOf] at updating
    rw [tableOf, tableOf, sup, row, if_pos updating, slotRow, heardInSlot_part, heardInSlot_part, a_eq, b_eq, used, x_eq]

end Sys2Proof.Machine
end

section
/-! A miss at a slot end (R70, R71, R78): statement O53. -/

namespace Sys2Proof.Machine

variable {s t u : State} {id n unit : Nat} {f : ContentFrame} {e x : Entry} {even : Bool}

/-! ## What a miss does to the entry -/

/-- A miss that takes the entry to the detached set (R71). -/
def Entry.lostBy (e : Entry) : Prop := (e.state = .probation ∨ e.state = .mute) ∧ e.coach.missed + 1 = 32

/-- A miss that deletes the entry (R78). -/
def Entry.deletedBy (e : Entry) : Prop := e.state = .departing ∧ e.coach.missed + 1 = 3

/-- A miss that makes the entry MUTE (R70). -/
def Entry.mutedBy (e : Entry) : Prop := e.state = .active ∧ e.coach.missed + 1 = 3

theorem Entry.miss_coach (even : Bool) (e : Entry) : (e.miss even).coach = { e.coach with missed := e.coach.missed + 1 } := by
  cases even <;> rfl

/-- What a miss leaves of an entry (R68, R70). -/
theorem Entry.miss_rest (even : Bool) (e : Entry) : (e.miss even).state = e.state ∧ (e.miss even).pairHop = e.pairHop
    ∧ (e.miss even).blocks = e.blocks
    ∧ (e.miss even).pairCount = (if e.state = .probation || e.state = .active then 0 else e.pairCount) := by
  cases even <;> exact ⟨rfl, rfl, rfl, rfl⟩

theorem Entry.miss_noted (even : Bool) (e : Entry) :
    (even = true → (e.miss even).evenHeld = true ∧ (e.miss even).evenValid = false)
      ∧ (even = false → (e.miss even).oddValid = false) := by
  cases even
  · exact ⟨nofun, fun _ => rfl⟩
  · exact ⟨fun _ => ⟨rfl, rfl⟩, nofun⟩

theorem Entry.miss_id (even : Bool) (e : Entry) : (e.miss even).coach.id = e.coach.id := by rw [Entry.miss_coach]

/-- The entry an ACTIVE one becomes at its third miss (R70). -/
def Entry.muted (even : Bool) (e : Entry) : Entry := { e.miss even with state := .mute }

/-- The other entries are those of the list, changed or not. -/
theorem Cm.filter_update {c : Cm} {h : Entry → Entry} (keeps : ∀ y, (h y).coach.id = y.coach.id) (id : Nat) :
    ((c.update id h).list.filter fun y => !decide (y.coach.id = id)) = c.list.filter fun y => y.coach.id ≠ id := by
  unfold Cm.update
  rw [List.filter_map, List.map_congr_left (g := fun y => y)]
  · rw [List.map_id']
    refine List.filter_congr fun y _ => ?_
    by_cases i : y.coach.id = id <;> simp [i, keeps]
  · intro y m
    have other : y.coach.id ≠ id := by
      intro i
      simp [List.mem_filter, i, keeps] at m
    exact if_neg other

/-! ## The outcomes of a miss -/

section Outcomes

variable (d : s.cm.Distinct) (at_ : s.cm.entryOf id = some e)
include d at_

/-- The entry, with its notices, in the detached set (R71). -/
theorem loseEntry_update {h : Entry → Entry} (keeps : ∀ y, (h y).coach.id = y.coach.id) :
    (loseEntry id (updateEntry id h s)).cm =
        { s.cm with list := s.cm.list.filter (fun y => y.coach.id ≠ id), detached := s.cm.detached ++ [(h e).coach] }
      ∧ (loseEntry id (updateEntry id h s)).clc.alarms.coachLost = true ∧ (loseEntry id (updateEntry id h s)).rs = s.rs := by
  obtain ⟨test, gone⟩ := detach_eq (s := updateEntry id h s) (d.entryOf_update at_ keeps)
  refine ⟨?_, raise_coachLost .., ?_⟩
  · show (detach id (updateEntry id h s)).cm = _
    rw [gone]
    exact congrArg (fun l => ({ s.cm with list := l, detached := s.cm.detached ++ [(h e).coach] } : Cm)) (Cm.filter_update keeps id)
  · show (detach id (updateEntry id h s)).rs = _
    rw [gone]
    simp [updateEntry]

end Outcomes

/-- The check of a split leaves the coaches of the list, and adds none to the detached set (R79). -/
theorem checkSplit_coaches (unit : Nat) (s : State) : (checkSplit unit s).cm.list.map (·.coach) = s.cm.list.map (·.coach)
    ∧ ∀ k ∈ (checkSplit unit s).cm.detached, k ∈ s.cm.detached := by
  unfold checkSplit
  split_ifs
  · have all := completeSplit_unmarked unit s
    have list := coaches_of_unmarked all
    refine ⟨list, fun k m => ?_⟩
    have detached := congrArg Cm.detached all
    exact (List.mem_filter.mp (show k ∈ (s.cm.detached.filter _) from detached ▸ m)).1
  · exact ⟨rfl, fun _ m => m⟩

/-- A DEPARTING entry that is deleted (R78). -/
theorem deleteDeparting_coaches {h : Entry → Entry} (keeps : ∀ y, (h y).coach.id = y.coach.id) (id unit : Nat) (s : State) :
    (deleteDeparting id unit (updateEntry id h s)).cm.list.map (·.coach)
        = (s.cm.list.filter fun y => y.coach.id ≠ id).map (·.coach)
      ∧ ∀ k ∈ (deleteDeparting id unit (updateEntry id h s)).cm.detached, k ∈ s.cm.detached := by
  obtain ⟨list, detached⟩ := checkSplit_coaches unit ((leaveList (fun y => y.coach.id = id) (updateEntry id h s)).setCm
    ((leaveList (fun y => y.coach.id = id) (updateEntry id h s)).cm.joinParting unit id))
  have left := leaveList_cm (fun y => y.coach.id = id) (updateEntry id h s)
  refine ⟨list.trans ?_, fun k m => ?_⟩
  · show (leaveList (fun y => y.coach.id = id) (updateEntry id h s)).cm.list.map (·.coach) = _
    rw [left]
    exact congrArg (List.map (·.coach)) (Cm.filter_update keeps id)
  · have old : k ∈ (leaveList (fun y => y.coach.id = id) (updateEntry id h s)).cm.detached := detached k m
    rwa [left] at old

/-! ## The miss at the Consist Manager -/

section Missed

variable (d : s.cm.Distinct) (at_ : s.cm.entryOf id = some e)
include at_

theorem slotMissed_lost (lost : e.lostBy) :
    slotMissed id s = loseEntry id (updateEntry id (Entry.miss (s.bc.counter % 2 = 0)) s) := by
  obtain ⟨state, missed⟩ := lost
  simp only [slotMissed, at_]
  obtain state | state := state <;> simp [state, missed]

theorem slotMissed_deleted (deleted : e.deletedBy) :
    slotMissed id s = deleteDeparting id e.coach.unit (updateEntry id (Entry.miss (s.bc.counter % 2 = 0)) s) := by
  obtain ⟨state, missed⟩ := deleted
  simp [slotMissed, at_, state, missed]

theorem slotMissed_muted (muted : e.mutedBy) :
    slotMissed id s = muteEntry id (updateEntry id (Entry.miss (s.bc.counter % 2 = 0)) s) := by
  obtain ⟨state, missed⟩ := muted
  simp [slotMissed, at_, state, missed]

theorem slotMissed_stays (notLost : ¬ e.lostBy) (notDeleted : ¬ e.deletedBy) (notMuted : ¬ e.mutedBy) :
    slotMissed id s = updateEntry id (Entry.miss (s.bc.counter % 2 = 0)) s := by
  simp only [Entry.lostBy, Entry.deletedBy, Entry.mutedBy] at notLost notDeleted notMuted
  simp only [slotMissed, at_]
  cases state : e.state with
  | probation => exact if_neg fun missed => notLost ⟨.inl state, missed⟩
  | active => exact if_neg fun missed => notMuted ⟨state, missed⟩
  | mute => exact if_neg fun missed => notLost ⟨.inr state, missed⟩
  | departing => exact if_neg fun missed => notDeleted ⟨state, missed⟩

end Missed

/-- An entry that goes MUTE stays in its place (R70). -/
theorem muteEntry_changed (id : Nat) (s : State) : Changed s (muteEntry id s) id (fun e => { e with state := .mute }) :=
  ⟨Cm.outline_of_unmarked (setEntryState_unmarked ..), by simp [muteEntry], by simp [muteEntry]⟩

theorem composerOutcome_none (f : ContentFrame) (s : State) : composerOutcome f none s = (s, .none) := by
  unfold composerOutcome
  cases s.cm.entryOf f.dest <;> rfl

/-- A line whose answer is not VALID, or is that of another identity (R163). -/
theorem heardInSlot_other {endAt : Nat} {g : Takings}
    (wrong : resultOf (endAt + 40) 1900 0x81 17 g = .valid → field32 g.payload 0 ≠ id) :
    (heardInSlot endAt g).validFor id = false := by
  rw [heardInSlot_validFor]
  simpa using wrong

/-- The outcome of a slot without a valid answer (R70, R133). -/
theorem slotHanded_missed (at_ : s.cm.entryOf f.dest = some e) :
    slotHanded f none s = (slotMissed f.dest (slotOver s), .none) := by
  have eq : consistOutcome f.dest none (slotOver s) = slotMissed f.dest (slotOver s) := by
    simp only [consistOutcome, show (slotOver s).cm.entryOf f.dest = some e from at_]
  rw [slotHanded, eq, composerOutcome_none]

/-- A slot in which neither line was valid uses no answer (R164). -/
theorem slotAnswer_of_none {b : Bc} (a_eq : (heardInSlot f.endAt b.gotA).validFor f.dest = false)
    (b_eq : (heardInSlot f.endAt b.gotB).validFor f.dest = false) : slotAnswer f b = none := by
  unfold slotAnswer
  rw [a_eq, b_eq]
  rfl

/-- The entry of a missed slot that stays in the list (R70). -/
def Entry.missedBy (even : Bool) (e : Entry) : Entry :=
  { e.miss even with state := if e.state = .active ∧ e.coach.missed + 1 = 3 then .mute else e.state }

/-- An entry that its miss neither takes nor deletes stays in its place (R70). -/
theorem slotMissed_changed (d : s.cm.Distinct) (at_ : s.cm.entryOf id = some e) (notLost : ¬ e.lostBy)
    (notDeleted : ¬ e.deletedBy) : Changed s (slotMissed id s) id (Entry.missedBy (s.bc.counter % 2 = 0)) := by
  have noted := Changed.updateEntry s id (Entry.miss (s.bc.counter % 2 = 0))
  by_cases muted : e.mutedBy
  · rw [slotMissed_muted at_ muted]
    obtain ⟨outline, jt, rs⟩ := noted.trans (muteEntry_changed id _) (Entry.miss_id _) fun _ => rfl
    refine ⟨outline.trans (congrArg Cm.outline (d.update_congr at_ ?_)), jt, rs⟩
    exact congrArg (fun st => { e.miss _ with state := st }) (if_pos muted).symm
  · rw [slotMissed_stays at_ notLost notDeleted muted]
    refine ⟨congrArg Cm.outline (d.update_congr at_ ?_), rfl, rfl⟩
    have same : { e.miss (s.bc.counter % 2 = 0) with state := e.state } = e.miss (s.bc.counter % 2 = 0) := by
      rw [← (Entry.miss_rest (s.bc.counter % 2 = 0) e).1]
    exact same.symm.trans (congrArg (fun st => { e.miss _ with state := st }) (if_neg muted).symm)

/-- Settles O53, by the outcome of the miss: lost, deleted, muted or kept as it stands. -/
theorem slotEndTakesAMiss : Obligations.SlotEndTakesAMiss := by
  unfold Obligations.SlotEndTakesAMiss
  intro n f e s r d ok seg at_ ended m i rA rB wrongA wrongB even missed lost deleted muted table
  have distinct := Cm.Distinct.of_consistOk ok
  have here : s.cm.entryOf f.dest = some e := i ▸ distinct.entryOf_eq m
  have a_eq : (heardInSlot f.endAt s.bc.gotA).validFor f.dest = false := heardInSlot_other wrongA
  have b_eq : (heardInSlot f.endAt s.bc.gotB).validFor f.dest = false := heardInSlot_other wrongB
  obtain ⟨t, run, bc, dc, sup, cm, jt, rs, clc⟩ := exec_coachSlotEnd r d seg at_ ended
  rw [slotAnswer_of_none a_eq b_eq, slotHanded_missed here] at sup cm jt rs clc
  dsimp only at sup cm jt rs clc
  have over_at : (slotOver s).cm.entryOf f.dest = some e := here
  obtain ⟨lineA, lineB, mismatch⟩ := supAfter_lines s.sup f.dest s.bc.counter n (heardInSlot f.endAt s.bc.gotA)
    (heardInSlot f.endAt s.bc.gotB) .none
  have row := supAfter_table s.sup f.dest s.bc.counter n (heardInSlot f.endAt s.bc.gotA) (heardInSlot f.endAt s.bc.gotB) .none
  rw [a_eq, b_eq, heardInSlot_result] at lineA
  rw [a_eq, b_eq, heardInSlot_result] at lineB
  rw [a_eq, b_eq] at mismatch
  have tableOf (v : Sup) : table v = v.table s.bc.counter := by
    simp only [table, even, Sup.table, decide_eq_true_eq]
  refine ⟨t, run, bc, fun h => ?_, fun h => ?_, fun notLost notDeleted => ?_, dc, sup ▸ lineA, sup ▸ lineB,
    (sup ▸ mismatch).trans (Bool.or_false _), fun still => ?_, fun updating => ?_⟩
  · rw [slotMissed_lost over_at h] at cm jt rs clc
    obtain ⟨list, alarm, store⟩ := loseEntry_update (s := slotOver s) distinct over_at
      (Entry.miss_id (decide (s.bc.counter % 2 = 0)))
    have coach : ((e.miss (decide (s.bc.counter % 2 = 0))).coach) = { e.coach with missed := 32 } :=
      (Entry.miss_coach _ e).trans (congrArg (fun k => { e.coach with missed := k }) h.2)
    refine ⟨congrArg Cm.list (cm.trans list), ?_, (congrArg (·.alarms.coachLost) clc).trans alarm, ?_, rs.trans store⟩
    · exact (congrArg Cm.detached (cm.trans list)).trans (congrArg (fun k => s.cm.detached ++ [k]) coach)
    · rw [jt, loseEntry_jt]
      rfl
  · rw [slotMissed_deleted over_at h] at cm
    obtain ⟨list, detached⟩ := deleteDeparting_coaches (Entry.miss_id (decide (s.bc.counter % 2 = 0))) f.dest
      e.coach.unit (slotOver s)
    exact ⟨(congrArg (fun c => c.list.map (·.coach)) cm).trans list, fun k m => detached k (cm ▸ m)⟩
  · have changed := slotMissed_changed (s := slotOver s) distinct over_at notLost notDeleted
    obtain ⟨x, mem, bare⟩ := changed.exists_mem m i
    obtain ⟨coach, state, count, hop, evenHeld, evenValid, oddValid⟩ := Entry.bare_ext bare
    refine ⟨jt.trans changed.jt, rs.trans changed.rs, (congrArg Cm.detached cm).trans changed.detached,
      (congrArg (fun c => c.list.map (·.coach.id)) cm).trans (changed.ids (Entry.miss_id _)), fun h => ?_, x, cm ▸ mem, ?_⟩
    · rw [slotMissed_muted over_at h] at clc
      exact (congrArg (·.alarms.coachMute) clc).trans (raise_coachMute ..)
    · obtain ⟨-, missHop, missBlocks, missCount⟩ := Entry.miss_rest even e
      obtain ⟨missEven, missOdd⟩ := Entry.miss_noted even e
      refine ⟨coach.trans (Entry.miss_coach _ e), fun h => state.trans (if_pos h), fun h => state.trans (if_neg h),
        fun h => count.trans (missCount.trans (if_pos (by simpa using h))), fun h => ?_, fun h => ?_, fun h => ?_,
        hop.trans missHop, fun h => ?_⟩
      · refine count.trans (missCount.trans (if_neg ?_))
        obtain h | h := h <;> simp [h]
      · exact ⟨evenHeld.trans (missEven h).1, evenValid.trans (missEven h).2⟩
      · exact oddValid.trans (missOdd h)
      · rw [slotMissed_stays over_at notLost notDeleted h] at mem
        have x_id : x.coach.id = f.dest := by rw [coach]; exact (Entry.miss_id _ e).trans i
        rw [distinct.mem_update here mem x_id]
        exact missBlocks
  · rw [tableOf] at still ⊢
    rw [tableOf, sup, row, still]
    rfl
  · rw [tableOf] at updating
    rw [tableOf, tableOf, sup, row, if_pos updating, slotRow, heardInSlot_part, heardInSlot_part, a_eq, b_eq]
    rfl

end Sys2Proof.Machine
end

section
/-! The call window (R61 to R67, R167, R169): statement O54. -/

namespace Sys2Proof.Machine

variable {s t u : State} {id n : Nat} {a : CallAnswer} {c : Call} {missed : Nat} {notices : List Notice}

/-! ## What a call leaves alone -/

@[simp] theorem reportUnknownType_rs (id type : Nat) (s : State) : (reportUnknownType id type s).rs = s.rs := by
  unfold reportUnknownType
  split_ifs <;> rfl
theorem reportUnknownType_cm (id type : Nat) (s : State) : (reportUnknownType id type s).cm = s.cm := by
  unfold reportUnknownType
  split_ifs <;> rfl
@[simp] theorem refuseCall_rs (watch : Bool) (cause : CloseCause) (code id : Nat) (data : List Byte) (s : State) :
    (refuseCall watch cause code id data s).rs = s.rs := by
  unfold refuseCall
  split_ifs <;> rfl
@[simp] theorem admitCoach_rs (a : CallAnswer) (missed : Nat) (notices : List Notice) (s : State) :
    (admitCoach a missed notices s).rs = s.rs := by simp [admitCoach]
@[simp] theorem surveyOn_rs (s : State) : (surveyOn s).rs = s.rs := rfl
@[simp] theorem handleCallAnswer_rs (a : CallAnswer) (target : Nat) (watch : Bool) (s : State) :
    (handleCallAnswer a target watch s).rs = s.rs := by
  unfold handleCallAnswer
  split
  · simp
  · split <;> split_ifs <;> simp
@[simp] theorem callUnanswered_rs (watch : Bool) (s : State) : (callUnanswered watch s).rs = s.rs := by
  unfold callUnanswered
  dsimp only
  split_ifs <;> rfl
@[simp] theorem callOutcome_rs (c : Call) (a : Option CallAnswer) (s : State) : (callOutcome c a s).rs = s.rs := by
  unfold callOutcome
  split
  · split_ifs <;> simp
  · simp

/-! ## The start of the window (R167) -/

theorem exec_callWindowStart (r : s.clc.ready ≠ .held) (d : s.dc.advanced = []) (seg : s.bc.segment = .slotDone 16) :
    exec .callWindowStart s = .next (((callOfCycle s).1.setBc { (callOfCycle s).1.bc.enter .call with call := (callOfCycle s).2 }).setDc
      { (callOfCycle s).1.dc with advanced := [] }) := by
  refine congrArg Host.Outcome.next ((event_running (f := callStart) r d).trans ?_)
  unfold callStart
  rw [seg]
  rfl

/-- SURVEYING calls the hop behind the list (R61). -/
theorem callOfCycle_surveying (state : s.cm.survey.state = .surveying) (low : s.cm.list.length < 16) :
    callOfCycle s = (s, some { target := s.cm.list.length + 1, watch := false }) := by
  unfold callOfCycle
  rw [state]
  exact if_neg (Nat.not_le.mpr low)

/-- SURVEYING closes at 16 entries (R61). -/
theorem callOfCycle_full (state : s.cm.survey.state = .surveying) (full : 16 ≤ s.cm.list.length) :
    callOfCycle s = (raise .consist 13 0 (u8 (CloseCause.code .listFull))
      (setSurvey (fun v => { v with state := .closed, cause := .listFull }) s), none) := by
  unfold callOfCycle
  rw [state]
  exact if_pos full

/-- CLOSED sends a watch call in cycle 0, below 16 entries (R62). -/
theorem callOfCycle_closed (state : s.cm.survey.state = .closed) : callOfCycle s = (s,
    if s.bc.counter = 0 ∧ s.cm.list.length < 16 then some { target := s.cm.list.length + 1, watch := true } else none) := by
  unfold callOfCycle
  rw [state]
  by_cases low : s.bc.counter = 0 ∧ s.cm.list.length < 16
  · rw [if_pos low]
    exact if_pos (Bool.and_eq_true_iff.mpr ⟨decide_eq_true low.1, decide_eq_true low.2⟩)
  · rw [if_neg low]
    refine if_neg fun h => low ?_
    obtain ⟨zero, few⟩ := Bool.and_eq_true_iff.mp h
    exact ⟨of_decide_eq_true zero, of_decide_eq_true few⟩

theorem callOfCycle_off (state : s.cm.survey.state = .off) : callOfCycle s = (s, none) := by
  unfold callOfCycle
  rw [state]

/-- The call of the cycle when the Consist Manager changes nothing (R61, R62). -/
theorem exec_callWindowStart_of_same (r : s.clc.ready ≠ .held) (d : s.dc.advanced = []) (seg : s.bc.segment = .slotDone 16)
    {call : Option Call} (h : callOfCycle s = (s, call)) :
    exec .callWindowStart s = .next (s.setBc { s.bc.enter .call with call := call }) := by
  rw [exec_callWindowStart r d seg, h]
  exact congrArg Host.Outcome.next (State.setDc_advanced (t := s.setBc { s.bc.enter .call with call := call }) d)

/-! ## The end of the window (R169) -/

/-- Time runs on while no CONTENT frame is there. -/
theorem runTo_of_quiet (none : s.bc.frame = none) (k : Nat) :
    runTo k s = s.setBc { s.bc with clock := max s.bc.clock (min k s.bc.segment.length) } := by
  simp only [runTo, none, Option.map_none]

theorem heardInCall_result (g : Takings) : (heardInCall g).result = resultOf 72 2900 0x83 12 g :=
  Takings.classify_eq g 72 2900 0x83#8 12

theorem heardInCall_validCall (g : Takings) (target : Nat) : (heardInCall g).validCall target =
    (decide (resultOf 72 2900 0x83 12 g = .valid) && decide (byteAt g.payload 4 = target)) := by
  rw [← heardInCall_result]
  rfl

/-- A line after a call window (R177). -/
theorem LineSup.after_call (l : LineSup) (h : Heard) (target : Nat) :
    l.result h.result (h.validCall target) = { l with flags := flagsWith l.flags h.result (h.validCall target) } := by
  have flags := l.flags.after_eq h.result (h.validCall target) fun ok =>
    of_decide_eq_true (Bool.and_eq_true_iff.mp (show (decide (h.result = .valid) && _) = true from ok)).1
  unfold LineSup.result
  rw [flags]

/-- Supervision after a call window (R177, R178). -/
def supAfterCall (c : Call) (b : Bc) (v : Sup) : Sup :=
  v.call (heardInCall b.gotA) (heardInCall b.gotB) ((heardInCall b.gotA).validCall c.target)
    ((heardInCall b.gotB).validCall c.target)

/-- The answer used in a call window (R169). -/
def callHeard (c : Call) (b : Bc) : Option CallAnswer :=
  (usedPayload (heardInCall b.gotA) (heardInCall b.gotB)
    (usedLine ((heardInCall b.gotA).validCall c.target) ((heardInCall b.gotB).validCall c.target))).map callAnswer

/-- The record of a call (R175). -/
def callRecord (c : Call) (b : Bc) : CallRecord :=
  { target := c.target, resultA := (heardInCall b.gotA).result, resultB := (heardInCall b.gotB).result
    handed := (callHeard c b).isSome }

/-- An answer is handed on exactly when a line had a valid one (R169, R175). -/
theorem callHeard_isSome (c : Call) (b : Bc) : (callHeard c b).isSome =
    ((heardInCall b.gotA).validCall c.target || (heardInCall b.gotB).validCall c.target) := by
  unfold callHeard
  cases (heardInCall b.gotA).validCall c.target <;> cases (heardInCall b.gotB).validCall c.target <;> rfl

/-- The state at the end of a call window, before its outcome is handed on. -/
def callOver (c : Call) (s : State) : State :=
  (s.setBc { s.bc with clock := max s.bc.clock 3000, lastCall := callRecord c s.bc }).setSup (supAfterCall c s.bc s.sup)

theorem kept_callOutcome (c : Call) (a : Option CallAnswer) (s : State) : Kept s (callOutcome c a s) :=
  (shared_kept s).callOutcome (fun _ _ _ h => h.trans (kept_setCm ..)) (.refl s) c a

section End

variable (r : s.clc.ready ≠ .held) (d : s.dc.advanced = []) (seg : s.bc.segment = .call) (none : s.bc.frame = none)
include r d seg none

/-- A quiet window hands nothing on (R167). -/
theorem exec_callWindowEnd_quiet (quiet : s.bc.call = .none) : exec .callWindowEnd s
    = .next (s.setBc { s.bc with clock := max s.bc.clock 3000, segment := .callDone, call := .none }) := by
  have ends : callEnd s = s.setBc { s.bc with clock := max s.bc.clock 3000, segment := .callDone, call := .none } := by
    unfold callEnd
    rw [seg]
    dsimp only
    rw [runTo_of_quiet none, seg]
    simp only [State.setBc_bc, quiet]
    rfl
  refine congrArg Host.Outcome.next ((event_running (f := callEnd) r d).trans ?_)
  rw [ends]
  exact State.setDc_advanced d

/-- The end of a window in which a call was sent: the outcome at the Consist Manager, and supervision's part. -/
theorem exec_callWindowEnd (at_ : s.bc.call = some c) : ∃ t, exec .callWindowEnd s = .next t
    ∧ t.bc = { s.bc with clock := max s.bc.clock 3000, segment := .callDone, call := .none, lastCall := callRecord c s.bc }
    ∧ t.sup = supAfterCall c s.bc s.sup ∧ t.jt = s.jt ∧ t.rs = s.rs ∧ t.dc = s.dc
    ∧ t.cm = (callOutcome c (callHeard c s.bc) (callOver c s)).cm := by
  have kept := kept_callOutcome c (callHeard c s.bc) (callOver c s)
  obtain ⟨bc, sup⟩ := kept.abort.eq_of_no_frame none
  have ends : callEnd s = (callOutcome c (callHeard c s.bc) (callOver c s)).setBc
      { (callOutcome c (callHeard c s.bc) (callOver c s)).bc with segment := .callDone, call := .none } := by
    have run : runTo 3000 s = s.setBc { s.bc with clock := max s.bc.clock 3000 } := by
      rw [runTo_of_quiet none, seg]
      rfl
    have call : (s.setBc { s.bc with clock := max s.bc.clock 3000 }).bc.call = some c := at_
    unfold callEnd
    rw [seg]
    dsimp only
    rw [run, call]
    rfl
  refine ⟨_, congrArg Host.Outcome.next (event_running (f := callEnd) r d), ?_⟩
  rw [ends]
  refine ⟨?_, sup, by simp [callOver], by simp [callOver], kept.dc_emptied d, rfl⟩
  simp only [State.setDc_bc, State.setBc_bc, bc]
  rfl

end End

end Sys2Proof.Machine
end

section
/-! What a call answer does to the consist (R63 to R67): statement O54. -/

namespace Sys2Proof.Machine

variable {s t u : State} {id unit n : Nat} {a : CallAnswer} {c : Call} {missed : Nat} {notices : List Notice} {cm : Cm}

/-! ## Refusals (R61, R64 to R66) -/

theorem Cm.hopOf_eq_none_iff : cm.hopOf id = none ↔ ∀ e ∈ cm.list, e.coach.id ≠ id := by
  refine ⟨Cm.not_mem_of_hopOf, fun none => ?_⟩
  rw [Cm.hopOf, Option.map_eq_none_iff, List.find?_eq_none]
  rintro ⟨e, i⟩ m
  simpa using none e (List.fst_mem_of_mem_zipIdx m)

/-- A refusal closes the survey with its cause (R62, R64 to R66). -/
theorem refuseCall_cm (watch : Bool) (cause : CloseCause) (code id : Nat) (data : List Byte) (s : State) :
    (refuseCall watch cause code id data s).cm = { s.cm with survey := { s.cm.survey with state := .closed, cause := cause } } := by
  unfold refuseCall
  split_ifs with known
  · simp only [Bool.and_eq_true, decide_eq_true_eq] at known
    obtain ⟨⟨-, state⟩, cause_⟩ := known
    rw [← state, ← cause_]
  · rfl

theorem Cm.unitLimit_iff : cm.unitLimit id unit = true ↔ unit ∉ cm.unitsBut id ∧ 4 ≤ (cm.unitsBut id).length := by
  rw [Cm.unitLimit, Bool.and_eq_true, decide_eq_true_eq, Bool.not_eq_true', List.contains_eq_mem, decide_eq_false_iff_not]
  rfl

/-- The cost of an unanswered call (R61). -/
theorem callUnanswered_cm (watch : Bool) (s : State) : (callUnanswered watch s).cm = if watch then s.cm else
    { s.cm with survey := { s.cm.survey with
        attempts := s.cm.survey.attempts - 1
        state := if s.cm.survey.attempts ≤ 1 then .closed else s.cm.survey.state
        cause := if s.cm.survey.attempts ≤ 1 then .attemptsSpent else s.cm.survey.cause } } := by
  cases watch
  · unfold callUnanswered
    have spent : (setSurvey (fun v => { v with attempts := v.attempts - 1 }) s).cm.survey.attempts = 0
        ↔ s.cm.survey.attempts ≤ 1 := Nat.sub_eq_zero_iff_le
    simp only [Bool.false_eq_true, if_false, spent]
    split_ifs with last <;> rfl
  · rfl

/-! ## The admission (R67) -/

/-- A SEAT kind is valid only for an ACTIVE or MUTE entry (R120). -/
theorem validFor_seat_of_not_full {st : EntryState} {type : Nat} {k : BlockKind} (active : st ≠ .active) (mute : st ≠ .mute)
    (seat : k.isSeat = true) : validFor s st unit type k = false := by
  unfold validFor
  dsimp only
  split
  · cases seat
  · simp [active, mute]
  · split <;> simp [active, mute]

/-- The agreement check of an entry with no valid SEAT block marks nothing (R117). -/
theorem checkEntry_cm_of_seatless {e : Entry} (at_ : s.cm.entryOf id = some e)
    (seatless : ∀ x ∈ s.cm.list, x.coach.id = id → ∀ k : BlockKind, k.isSeat = true → (x.blocks.get k).valid = false) :
    (checkEntry id s).cm = s.cm.update id fun x => { x with agree := agreement s s.rs.liveBank e } := by
  let t := updateEntry id (fun x => { x with agree := agreement s s.rs.liveBank e }) s
  have marked : markSeats (fun x => x.coach.id = id) t = t := by
    refine revise_of_keep fun x m k => ?_
    obtain ⟨y, y_mem, rfl⟩ := List.mem_map.mp m
    by_cases i : y.coach.id = id
    · cases seat : k.isSeat with
      | false => simp [seat]
      | true => simp [i, seatless y y_mem i k seat]
    · simp [i]
  unfold checkEntry
  rw [at_]
  dsimp only
  split_ifs
  · rfl
  · exact congrArg State.cm marked
  · exact congrArg State.cm marked

/-- The list entry of an admitted coach (R67). -/
def admittedEntry (a : CallAnswer) (missed : Nat) (notices : List Notice) (s : State) : Entry :=
  let st : EntryState := if (s.jt.portionOf a.unit).any fun p => p.state = .parting then .departing else .probation
  let c : Coach := { id := a.id, unit := a.unit, number := a.number, type := a.type, orient := a.orient,
                     missed := missed, unitDiffers := false, notices := notices }
  { coach := c, state := st, pairCount := 0, evenHeld := false, evenValid := false, oddValid := false,
    pairHop := .none, evidenceHop := none, evidenceCount := 0, agree := .unitUnassigned,
    blocks := .admitted s st c, refresh := .map }

/-- The admitted entry stands behind the list, with its agreement checked (R67, R117). -/
theorem admitCoach_cm (new : ∀ e ∈ s.cm.list, e.coach.id ≠ a.id) (missed : Nat) (notices : List Notice) :
    ∃ agree partings, (admitCoach a missed notices s).cm = { s.cm with
      list := s.cm.list ++ [{ admittedEntry a missed notices s with agree := agree }], partings := partings } := by
  let s1 := s.setCm { s.cm with
    list := s.cm.list ++ [admittedEntry a missed notices s]
    partings := s.cm.partings.map fun p => if p.unit = a.unit then { p with ids := p.ids.filter fun i => i ≠ a.id } else p }
  have at_ : s1.cm.entryOf a.id = some (admittedEntry a missed notices s) := by
    have none : s.cm.list.find? (fun e => e.coach.id = a.id) = none := by simpa using new
    refine (List.find?_append ..).trans ?_
    rw [none]
    simp [admittedEntry]
  have checked := checkEntry_cm_of_seatless at_ fun x m i k seat => by
    obtain old | rfl := List.mem_append.mp m |>.imp_right List.mem_singleton.mp
    · exact absurd i (new x old)
    · refine Eq.trans (congrArg Block.valid (BlockSet.get_ofKinds _ k)) (validFor_seat_of_not_full ?_ ?_ seat) <;>
        split_ifs <;> decide
  refine ⟨agreement s1 s1.rs.liveBank (admittedEntry a missed notices s), s1.cm.partings, checked.trans ?_⟩
  refine congrArg (fun l => ({ s1.cm with list := l } : Cm)) ((List.map_append ..).trans (congrArg₂ _ ?_ ?_))
  · exact (List.map_congr_left fun e m => if_neg (new e m)).trans (List.map_id _)
  · exact congrArg (· :: []) (if_pos rfl)

/-- The survey goes on behind an admitted entry (R61, R62, R67). -/
theorem surveyOn_admitted (new : ∀ e ∈ s.cm.list, e.coach.id ≠ a.id) (notices : List Notice) (code : Nat) (data : List Byte) :
    ∃ agree, let t := surveyOn (reportUnknownType a.id a.type (raise .consist code a.id data (admitCoach a 0 notices s)))
      t.cm.list = s.cm.list ++ [{ admittedEntry a 0 notices s with agree := agree }] ∧ t.cm.detached = s.cm.detached
        ∧ t.cm.survey = { s.cm.survey with state := .surveying, cause := .none, attempts := s.cm.survey.cfgAttempts } := by
  obtain ⟨agree, partings, cm⟩ := admitCoach_cm new 0 notices
  have told := reportUnknownType_cm a.id a.type (raise .consist code a.id data (admitCoach a 0 notices s))
  rw [raise_cm, cm] at told
  refine ⟨agree, ?_⟩
  refine ⟨?_, ?_, ?_⟩ <;> simp only [surveyOn, setSurvey, State.setCm_cm, told]

/-- The notices an admitted coach comes with: none for a new one while there is room, its own for a detached one (R67). -/
def Admissible (c : Cm) (id : Nat) (notices : List Notice) : Prop :=
  c.detached.find? (fun k => k.id = id) = none ∧ c.list.length + c.detached.length < 16 ∧ notices = []
    ∨ ∃ k, c.detached.find? (fun k => k.id = id) = some k ∧ notices = k.notices

/-- An answer of no list entry that meets no refusal is admitted (R67). -/
theorem handleCallAnswer_admits (new : ∀ e ∈ s.cm.list, e.coach.id ≠ a.id) (limit : s.cm.unitLimit a.id a.unit = false)
    (room : Admissible s.cm a.id notices) (target : Nat) (watch : Bool) :
    ∃ u agree, u.jt = s.jt ∧ (handleCallAnswer a target watch s).cm.list
        = s.cm.list ++ [{ admittedEntry a 0 notices u with agree := agree }]
      ∧ (handleCallAnswer a target watch s).cm.detached = s.cm.detached.filter (fun k => k.id ≠ a.id)
      ∧ (handleCallAnswer a target watch s).cm.survey
        = { s.cm.survey with state := .surveying, cause := .none, attempts := s.cm.survey.cfgAttempts } := by
  have hop := Cm.hopOf_eq_none_iff.mpr new
  obtain ⟨fresh, low, rfl⟩ | ⟨k, known, rfl⟩ := room
  · have same : s.cm.detached.filter (fun k => k.id ≠ a.id) = s.cm.detached :=
      List.filter_eq_self.mpr fun k m => by simpa using List.find?_eq_none.mp fresh k m
    have full : ¬ Config.maxEntries ≤ s.cm.list.length + s.cm.detached.length := Nat.not_le.mpr low
    obtain ⟨agree, all⟩ := surveyOn_admitted new [] 1 ((admitCoach a 0 [] s).cm.hopByte a.id ++ u16 a.unit)
    rw [same]
    refine ⟨s, agree, rfl, ?_⟩
    simp only [handleCallAnswer, hop, fresh, full, limit, if_false, Bool.false_eq_true]
    exact all
  · let u := s.setCm { s.cm with detached := s.cm.detached.filter fun x => x.id ≠ a.id }
    obtain ⟨agree, all⟩ := surveyOn_admitted (s := u) new k.notices 2 ((admitCoach a 0 k.notices u).cm.hopByte a.id ++ u16 a.unit)
    refine ⟨u, agree, rfl, ?_⟩
    simp only [handleCallAnswer, hop, known, limit, if_false, Bool.false_eq_true]
    exact all

/-- An identity that the list holds closes the survey (R64). -/
theorem handleCallAnswer_confused (here : ∃ e ∈ s.cm.list, e.coach.id = a.id) (target : Nat) (watch : Bool) :
    (handleCallAnswer a target watch s).cm
      = { s.cm with survey := { s.cm.survey with state := .closed, cause := .hopConfused a.id } } := by
  unfold handleCallAnswer
  split
  · exact refuseCall_cm ..
  · next none =>
    obtain ⟨e, m, i⟩ := here
    exact absurd i (Cm.not_mem_of_hopOf none e m)

/-- A new identity at 16 entries closes the survey (R65). -/
theorem handleCallAnswer_full (new : ∀ e ∈ s.cm.list, e.coach.id ≠ a.id) (fresh : ∀ k ∈ s.cm.detached, k.id ≠ a.id)
    (full : 16 ≤ s.cm.list.length + s.cm.detached.length) (target : Nat) (watch : Bool) :
    (handleCallAnswer a target watch s).cm
      = { s.cm with survey := { s.cm.survey with state := .closed, cause := .consistFull a.id } } := by
  have none : s.cm.detached.find? (fun c => c.id = a.id) = none := by simpa using fresh
  have at_ : Config.maxEntries ≤ s.cm.list.length + s.cm.detached.length := full
  simp only [handleCallAnswer, Cm.hopOf_eq_none_iff.mpr new, none, at_, if_true]
  exact refuseCall_cm ..

/-- A fifth unit closes the survey (R65, R66). -/
theorem handleCallAnswer_fifth (new : ∀ e ∈ s.cm.list, e.coach.id ≠ a.id)
    (room : (∃ k ∈ s.cm.detached, k.id = a.id) ∨ s.cm.list.length + s.cm.detached.length < 16)
    (limit : s.cm.unitLimit a.id a.unit = true) (target : Nat) (watch : Bool) : (handleCallAnswer a target watch s).cm
      = { s.cm with survey := { s.cm.survey with state := .closed, cause := .unitLimit a.id } } := by
  simp only [handleCallAnswer, Cm.hopOf_eq_none_iff.mpr new, limit, if_true]
  split
  · exact refuseCall_cm ..
  · next none =>
    have low : ¬ Config.maxEntries ≤ s.cm.list.length + s.cm.detached.length := by
      obtain ⟨k, m, i⟩ | low := room
      · exact absurd i (by simpa using List.find?_eq_none.mp none k m)
      · exact Nat.not_le.mpr low
    rw [if_neg low]
    exact refuseCall_cm ..

/-! ## The statement -/

theorem Survey.closed_eq {v : Survey} {cause : CloseCause} (state : v.state = .closed) (same : v.cause = cause) :
    { v with state := .closed, cause := cause } = v := by
  rw [← state, ← same]

/-- The blocks of an admitted entry: generation 0, dirty on every valid kind (R119). -/
theorem admittedEntry_blocks (a : CallAnswer) (missed : Nat) (notices : List Notice) (s : State) (k : BlockKind) :
    ((admittedEntry a missed notices s).blocks.get k).gen = 0
      ∧ (((admittedEntry a missed notices s).blocks.get k).valid = true
        → ((admittedEntry a missed notices s).blocks.get k).dirty = true) := by
  simp only [admittedEntry, BlockSet.admitted, BlockSet.get_ofKinds]
  exact ⟨trivial, id⟩

/-- The state of an admitted entry, by the state of its portion (R67). -/
theorem admittedEntry_state (a : CallAnswer) (missed : Nat) (notices : List Notice) (s : State) :
    ((∃ q, s.jt.portionOf a.unit = some q ∧ q.state = .parting) → (admittedEntry a missed notices s).state = .departing)
      ∧ (¬ (∃ q, s.jt.portionOf a.unit = some q ∧ q.state = .parting)
        → (admittedEntry a missed notices s).state = .probation) := by
  have parting : ((s.jt.portionOf a.unit).any fun p => p.state = .parting) = true
      ↔ ∃ q, s.jt.portionOf a.unit = some q ∧ q.state = .parting := by simp [Option.any_eq_true]
  exact ⟨fun h => if_pos (parting.mpr h), fun h => if_neg (mt parting.mp h)⟩

theorem supAfterCall_eq (c : Call) (b : Bc) (v : Sup) : supAfterCall c b v = { v with
    a := { v.a with flags := flagsWith v.a.flags (resultOf 72 2900 0x83 12 b.gotA) ((heardInCall b.gotA).validCall c.target) }
    b := { v.b with flags := flagsWith v.b.flags (resultOf 72 2900 0x83 12 b.gotB) ((heardInCall b.gotB).validCall c.target) }
    mismatch := v.mismatch || ((heardInCall b.gotA).validCall c.target && (heardInCall b.gotB).validCall c.target
      && b.gotA.payload ≠ b.gotB.payload) } := by
  rw [supAfterCall, Sup.call, LineSup.after_call, LineSup.after_call, heardInCall_result, heardInCall_result]
  rfl

/-- No line had a valid answer: nothing is handed on (R169). -/
theorem callHeard_of_none {b : Bc}
    (none : ((heardInCall b.gotA).validCall c.target || (heardInCall b.gotB).validCall c.target) = false) :
    callHeard c b = .none :=
  Option.not_isSome_iff_eq_none.mp (by rw [callHeard_isSome, none]; exact Bool.false_ne_true)

/-- A window in which line A heard a good answer from the target hop, and line B nothing (R169, R175, R177). -/
theorem call_of_good_answer {b : Bc} {p : List Byte} {x target : Nat} {watch : Bool} (opens : 72 ≤ x) (closes : x ≤ 2900)
    (len : p.length = 12) (hop : byteAt p 4 = target)
    (gotA : b.gotA = { starts := 1, violation := false, startAt := x, frame := some (.complete 0x83 p true) })
    (gotB : b.gotB = .nothing) :
    callHeard { target := target, watch := watch } b = some (callAnswer p)
      ∧ callRecord { target := target, watch := watch } b = { target := target, resultA := .valid, resultB := .none, handed := true }
      ∧ ∀ v, supAfterCall { target := target, watch := watch } b v
          = { v with a := { v.a with flags := { v.a.flags with validSeen := true } } } := by
  have rA : resultOf 72 2900 0x83 12 b.gotA = .valid := by
    rw [gotA]
    simp [resultOf, len, Nat.not_lt.mpr opens, Nat.not_lt.mpr closes]
  have rB : resultOf 72 2900 0x83 12 b.gotB = .none := by
    rw [gotB]
    rfl
  have payload : b.gotA.payload = p := by rw [gotA]; rfl
  have okA : (heardInCall b.gotA).validCall target = true := by
    rw [heardInCall_validCall, rA, payload, hop]
    simp
  have okB : (heardInCall b.gotB).validCall target = false := by
    rw [heardInCall_validCall, rB]
    rfl
  have heard : callHeard { target := target, watch := watch } b = some (callAnswer p) := by
    rw [callHeard, okA]
    exact congrArg (fun q => some (callAnswer q)) payload
  refine ⟨heard, ?_, fun v => ?_⟩
  · rw [callRecord, heard, heardInCall_result, heardInCall_result, rA, rB]
    rfl
  · rw [supAfterCall_eq, okA, okB, rA, rB]
    simp [flagsWith]

/-- Settles O54, by the call of the cycle, the result of each line and the case of the answer. -/
theorem callWindowSurveysTheChain : Obligations.CallWindowSurveysTheChain := by
  unfold Obligations.CallWindowSurveysTheChain
  refine ⟨?_, ?_, ?_⟩
  · intro s r d seg n begun
    refine ⟨fun state low => ?_, fun state full => ?_, fun state zero low => ?_, fun quiet => ?_⟩
    · exact exec_callWindowStart_of_same r d seg (callOfCycle_surveying state low)
    · have start := exec_callWindowStart r d seg
      rw [callOfCycle_full state full] at start
      have kept : { s.dc with advanced := [] } = s.dc := congrArg State.dc (State.setDc_advanced d)
      exact ⟨_, start, rfl, rfl, rfl, rfl, kept, rfl⟩
    · exact exec_callWindowStart_of_same r d seg ((callOfCycle_closed state).trans (by rw [if_pos ⟨zero, low⟩]))
    · refine exec_callWindowStart_of_same r d seg ?_
      obtain state | ⟨state, none⟩ := quiet
      · exact callOfCycle_off state
      · have not_due : ¬ (s.bc.counter = 0 ∧ s.cm.list.length < 16) := fun ⟨zero, low⟩ =>
          none.elim (fun later => later zero) (Nat.not_le.mpr low)
        exact (callOfCycle_closed state).trans (by rw [if_neg not_due])
  · intro s r d seg none ended
    refine ⟨exec_callWindowEnd_quiet r d seg none, ?_⟩
    intro target watch at_ rA rB okA okB record
    obtain ⟨t, run, bc, sup, jt, rs, dc, cm⟩ := exec_callWindowEnd r d seg none at_
    have a_eq : (heardInCall s.bc.gotA).validCall target = okA := heardInCall_validCall ..
    have b_eq : (heardInCall s.bc.gotB).validCall target = okB := heardInCall_validCall ..
    have record_eq : callRecord { target := target, watch := watch } s.bc = record := by
      rw [callRecord, callHeard_isSome, heardInCall_result, heardInCall_result, a_eq, b_eq]
    refine ⟨t, run, bc.trans (by rw [record_eq]), sup.trans ?_, jt, rs, dc, fun unheard => cm.trans ?_⟩
    · rw [supAfterCall_eq, a_eq, b_eq]
    · rw [callHeard_of_none (by rw [a_eq, b_eq]; exact unheard)]
      exact callUnanswered_cm ..
  · intro target watch p x s r d seg none at_ opens closes len hop gotA gotB id_ok unit_ok number_ok id unit all units fifth coach closed
    obtain ⟨t, run, bc, sup, jt, rs, dc, cm⟩ := exec_callWindowEnd r d seg none at_
    obtain ⟨heard, record, after⟩ := call_of_good_answer (watch := watch) opens closes len hop gotA gotB
    have length : all.length = s.cm.list.length + s.cm.detached.length := by simp [all]
    have accepted : (callAnswer p).accepted = true := by
      simp only [CallAnswer.accepted, Bool.and_eq_true, decide_eq_true_eq]
      exact ⟨⟨id_ok, unit_ok⟩, number_ok⟩
    have outcome : t.cm = (handleCallAnswer (callAnswer p) target watch (callOver { target := target, watch := watch } s)).cm := by
      rw [cm, heard, callOutcome, if_pos accepted]
    have limit : s.cm.unitLimit id unit = true ↔ fifth := Cm.unitLimit_iff
    refine ⟨t, run, (congrArg Bc.lastCall bc).trans record, congrArg Bc.segment bc, jt, rs, dc, sup.trans (after _),
      fun here => outcome.trans ?_, fun new full => outcome.trans ?_, fun new room five => outcome.trans ?_, ?_⟩
    · refine (handleCallAnswer_confused here target watch).trans ?_
      refine congrArg (fun v => ({ s.cm with survey := v } : Cm)) ?_
      split_ifs with known
      · obtain ⟨-, state, cause⟩ := known
        exact Survey.closed_eq state cause
      · rfl
    · exact handleCallAnswer_full (a := callAnswer p) (s := callOver { target := target, watch := watch } s)
        (fun e m => new _ (List.mem_append_left _ (List.mem_map_of_mem m)))
        (fun k m => new k (List.mem_append_right _ m)) (length ▸ full) target watch
    · exact handleCallAnswer_fifth new (length ▸ room) (limit.mpr five) target watch
    · intro notices new within room
      have admissible : Admissible s.cm id notices := by
        obtain ⟨fresh, low, none⟩ | known := room
        · exact .inl ⟨by simpa using fresh, length ▸ low, none⟩
        · exact .inr known
      obtain ⟨u, agree, same, list, detached, survey⟩ := handleCallAnswer_admits (a := callAnswer p)
        (s := callOver { target := target, watch := watch } s) new (Bool.eq_false_iff.mpr (mt limit.mp within)) admissible target watch
      rw [← outcome] at list detached survey
      refine ⟨(congrArg (List.map (·.coach)) list).trans ?_, detached, survey,
        { admittedEntry (callAnswer p) 0 notices u with agree := agree }, (congrArg (·[s.cm.list.length]?) list).trans ?_, ?_⟩
      · rw [List.map_append]
        rfl
      · exact List.getElem?_concat_length ..
      · obtain ⟨parting, attached⟩ := admittedEntry_state (callAnswer p) 0 notices u
        rw [same] at parting attached
        exact ⟨rfl, rfl, rfl, rfl, rfl, fun k _ => (admittedEntry_blocks _ 0 notices u k).1,
          fun k _ => (admittedEntry_blocks _ 0 notices u k).2, parting, attached⟩

end Sys2Proof.Machine
end

section
/-! The pair end, entry by entry (R72, R73): statement O55. -/

namespace Sys2Proof.Machine

variable {s t u : State} {id n pairs hop : Nat} {c : Cm} {f h : Entry → Entry} {e x y : Entry}

/-! ## Changes of every entry -/

/-- A consist with each entry of its list changed. -/
def Cm.mapped (c : Cm) (f : Entry → Entry) : Cm := { c with list := c.list.map f }

/-- A plain change of the entries acts on the outline. -/
theorem Cm.mapped_outline (plain : Plain f) (c : Cm) :
    (c.mapped f).outline = { c.outline with list := c.outline.list.map fun e => (f e).bare } := by
  simp only [Cm.outline_eq, Cm.mapped, List.map_map]
  exact congrArg (fun l => ({ c with list := l } : Cm)) (List.map_congr_left fun e _ => (plain e).symm)

theorem Plain.on (plain : Plain h) (p : Coach → Prop) [DecidablePred p] : Plain fun e => if p e.coach then h e else e := by
  intro e
  show Entry.bare (if p e.coach then h e.bare else e.bare) = Entry.bare (if p e.coach then h e else e)
  split
  · exact plain e
  · rfl

/-! ## The pair of one entry (R72) -/

/-- The pair count at a pair end (R72). -/
def Entry.pairsAtEnd (e : Entry) : Nat := if e.qualifies then e.pairCount + 1 else e.pairCount

/-- An entry after its pair is proved (R72). -/
def Entry.paired (pairs : Nat) (e : Entry) : Entry :=
  if e.state = .probation then
    if pairs ≤ e.pairsAtEnd then { e with state := .active, pairCount := 0 } else { e with pairCount := e.pairsAtEnd }
  else e

theorem Entry.paired_plain (pairs : Nat) : Plain (Entry.paired pairs) := by
  intro e
  have same : e.bare.pairsAtEnd = e.pairsAtEnd := rfl
  have state : e.bare.state = e.state := rfl
  unfold Entry.paired
  rw [same, state]
  split_ifs <;> rfl

/-- What the proof of a pair leaves of an entry (R72). -/
theorem Entry.paired_rest (pairs : Nat) (e : Entry) : (e.paired pairs).coach = e.coach ∧ (e.paired pairs).pairHop = e.pairHop
    ∧ (e.paired pairs).evidenceHop = e.evidenceHop := by
  unfold Entry.paired
  split_ifs <;> exact ⟨rfl, rfl, rfl⟩

theorem pairStep_changed (d : s.cm.Distinct) (id : Nat) :
    Changed s (pairStep id s) id (Entry.paired s.cm.survey.cfgPairs) := by
  refine changed_of_found d id (f := pairStep id) (fun none => by rw [pairStep, none]) fun e at_ => ?_
  simp only [pairStep, at_]
  by_cases probation : e.state = .probation
  · rw [if_pos probation]
    by_cases proved : s.cm.survey.cfgPairs ≤ e.pairsAtEnd
    · obtain ⟨outline, jt, rs⟩ := (Changed.updateEntry s id fun e => { e with pairCount := 0 }).trans
        (u := setEntryState id .active (updateEntry id (fun e => { e with pairCount := 0 }) s))
        (h := fun e => { e with state := .active })
        ⟨Cm.outline_of_unmarked (setEntryState_unmarked ..), by simp, by simp⟩ (fun _ => rfl) fun _ => rfl
      refine .inr ⟨fun e => { e with pairCount := 0, state := .active }, ?_, ?_⟩
      · rw [Entry.paired, if_pos probation, if_pos proved]
      · rw [if_pos (show s.cm.survey.cfgPairs ≤ if e.qualifies then e.pairCount + 1 else e.pairCount from proved)]
        exact ⟨outline, jt, rs⟩
    · refine .inr ⟨fun x => { x with pairCount := e.pairsAtEnd }, ?_, ?_⟩
      · rw [Entry.paired, if_pos probation, if_neg proved]
      · rw [if_neg (show ¬ s.cm.survey.cfgPairs ≤ if e.qualifies then e.pairCount + 1 else e.pairCount from proved)]
        exact ⟨rfl, rfl, rfl⟩
  · refine .inl ⟨if_neg probation, if_neg probation⟩

/-- The pairs of the identities given, one after the other (R72). -/
theorem foldl_pairStep (l : List Nat) (once : l.Nodup) (s : State) (d : s.cm.Distinct) :
    (l.foldl (fun t id => pairStep id t) s).cm.outline
        = (s.cm.mapped fun e => if e.coach.id ∈ l then e.paired s.cm.survey.cfgPairs else e).outline
      ∧ (l.foldl (fun t id => pairStep id t) s).rs = s.rs := by
  induction l generalizing s with
  | nil =>
    refine ⟨congrArg Cm.outline ?_, rfl⟩
    exact (congrArg (fun l => ({ s.cm with list := l } : Cm)) (by simp)).symm
  | cons id l ih =>
    obtain ⟨fresh, once⟩ := List.nodup_cons.mp once
    have step := pairStep_changed d id
    obtain ⟨outline, rs⟩ := ih once (pairStep id s) (step.distinct (fun e => by rw [(e.paired_rest _).1]) d)
    refine ⟨outline.trans ?_, rs.trans step.rs⟩
    rw [step.survey]
    have plain := (Entry.paired_plain s.cm.survey.cfgPairs).on (fun k => k.id ∈ l)
    refine (Cm.mapped_outline plain _).trans ?_
    rw [step.outline]
    refine (Cm.mapped_outline plain _).symm.trans (congrArg Cm.outline ?_)
    refine congrArg (fun l => ({ s.cm with list := l } : Cm)) ((List.map_map ..).trans (List.map_congr_left fun e _ => ?_))
    by_cases i : e.coach.id = id
    · simp [i, (e.paired_rest _).1, fresh]
    · simp [i]

/-! ## The evidence (R73) -/

/-- The evidence is taken place by place. -/
theorem Cm.withEvidence_getElem? (c : Cm) (i : Nat) : c.withEvidence.list[i]? = (c.list[i]?).map (Entry.evidence · (i + 1)) := by
  simp [Cm.withEvidence, Cm.numbered, List.getElem?_zipIdx, Function.comp_def]

theorem Entry.evidence_plain (hop : Nat) : Plain (Entry.evidence · hop) := by
  intro e
  have pair : e.bare.pairHop = e.pairHop := rfl
  have seen : e.bare.evidenceHop = e.evidenceHop := rfl
  simp only [Entry.evidence, pair, seen]
  split
  · split_ifs <;> rfl
  · rfl

/-- What the evidence leaves of an entry (R73). -/
theorem Entry.evidence_rest (e : Entry) (hop : Nat) : (e.evidence hop).coach = e.coach ∧ (e.evidence hop).state = e.state
    ∧ (e.evidence hop).pairHop = e.pairHop ∧ (e.evidence hop).pairCount = e.pairCount := by
  unfold Entry.evidence
  split
  · split_ifs <;> exact ⟨rfl, rfl, rfl, rfl⟩
  · exact ⟨rfl, rfl, rfl, rfl⟩

/-- A mismatch is confirmed when an entry was seen at its evidence hop again (R73, R74). -/
theorem Entry.evidence_confirmed (e : Entry) (hop : Nat) :
    (e.evidence hop).evidenceCount = 2 ↔ ∃ h, e.pairHop = .hop h ∧ h ≠ hop ∧ e.evidenceHop = some h := by
  unfold Entry.evidence
  split
  · next h at_ =>
    split_ifs with own again
    · simp [at_, own]
    · simp [at_, own, again]
    · simp [at_, again]
  · next other =>
    simpa using fun h at_ => absurd at_ (other h)

/-- The evidence of an entry whose mismatch is not confirmed (R73). -/
theorem Entry.evidence_eq (e : Entry) (hop : Nat) (calm : (e.evidence hop).evidenceCount ≠ 2) : match e.pairHop with
    | .hop h => if h = hop then (e.evidence hop).evidenceHop = none ∧ (e.evidence hop).evidenceCount = 0
        else (e.evidence hop).evidenceHop = some h ∧ (e.evidence hop).evidenceCount = 1
    | _ => (e.evidence hop).evidenceHop = none ∧ (e.evidence hop).evidenceCount = 0 := by
  have never : ∀ h, e.pairHop = .hop h → h ≠ hop → e.evidenceHop ≠ some h := fun h at_ other again =>
    calm (e.evidence_confirmed hop |>.mpr ⟨h, at_, other, again⟩)
  cases at_ : e.pairHop with
  | none => simp [Entry.evidence, at_]
  | disagreeing => simp [Entry.evidence, at_]
  | hop h =>
    by_cases own : h = hop
    · simp [Entry.evidence, at_, own]
    · simp [Entry.evidence, at_, own, never h at_ own]

/-! ## The pairs and the evidence of the whole list -/

/-- An entry after its pair and its evidence are taken (R72, R73). -/
def Entry.taken (pairs hop : Nat) (e : Entry) : Entry := (e.paired pairs).evidence hop

/-- The pairs of every entry proved (R72). -/
def pairsProved (s : State) : State := (s.cm.list.map (·.coach.id)).foldl (fun t id => pairStep id t) s

/-- The consist of a pair end before the order is looked at (R72, R73). -/
def pairsTaken (s : State) : State := (pairsProved s).setCm (pairsProved s).cm.withEvidence

theorem pairsProved_outline (d : s.cm.Distinct) :
    (pairsProved s).cm.outline = (s.cm.mapped (Entry.paired s.cm.survey.cfgPairs)).outline := by
  refine (foldl_pairStep _ d s d).1.trans (congrArg Cm.outline ?_)
  exact congrArg (fun l => ({ s.cm with list := l } : Cm)) (List.map_congr_left fun e m => if_pos (List.mem_map_of_mem m))

/-- Place by place, the entries with their pairs and evidence taken (R72, R73). -/
theorem pairsTaken_getElem? (d : s.cm.Distinct) (i : Nat) : ((pairsTaken s).cm.list[i]?).map Entry.bare
    = (s.cm.list[i]?).map fun e => (e.taken s.cm.survey.cfgPairs (i + 1)).bare := by
  have list := congrArg Cm.list (pairsProved_outline d)
  rw [Cm.outline_eq, Cm.outline_eq] at list
  have place := congrArg (fun l => (l[i]?).map fun e => (e.evidence (i + 1)).bare) list
  simp only [Cm.mapped, List.getElem?_map, Option.map_map, Function.comp_def] at place
  refine Eq.trans ?_ (place.trans ?_)
  · refine (congrArg (Option.map Entry.bare) (Cm.withEvidence_getElem? _ i)).trans ?_
    rw [Option.map_map]
    exact Option.map_congr fun e _ => (Entry.evidence_plain (i + 1) e).symm
  · exact Option.map_congr fun e _ => Entry.evidence_plain (i + 1) _

/-- Nothing else of the consist changes. -/
theorem pairsTaken_rest (d : s.cm.Distinct) : (pairsTaken s).cm.detached = s.cm.detached
    ∧ (pairsTaken s).jt = s.jt ∧ (pairsTaken s).rs = s.rs :=
  ⟨(congrArg Cm.detached (pairsProved_outline d) :), foldl_keeps State.jt (fun s id => pairStep_jt id s) _ s,
    (foldl_pairStep _ d s d).2⟩

end Sys2Proof.Machine
end

section
/-! The order of the list at a pair end (R74, R75): statement O55. -/

namespace Sys2Proof.Machine

variable {s t u : State} {c : Cm} {l : List Entry} {e x y : Entry}

/-! ## Lists whose places are all filled -/

/-- A partial choice that never fails. -/
theorem map_some_filterMap {α β : Type} {g : α → Option β} {l : List α} (all : ∀ x ∈ l, (g x).isSome = true) :
    (l.filterMap g).map some = l.map g := by
  induction l with
  | nil => rfl
  | cons x l ih =>
    obtain ⟨y, at_⟩ := Option.isSome_iff_exists.mp (all x List.mem_cons_self)
    rw [List.filterMap_cons_some at_, List.map_cons, List.map_cons, at_, ih fun z m => all z (List.mem_cons_of_mem _ m)]

/-- A list names distinct values when equal values stand at one place. -/
theorem nodup_map_iff_places {α β : Type} {f : α → β} {l : List α} : (l.map f).Nodup ↔
    ∀ (i j : Nat) (a b : α), l[i]? = some a → l[j]? = some b → f a = f b → i = j := by
  constructor
  · intro once i j a b at_ bt same
    have low : i < (l.map f).length := by simpa using (List.getElem?_eq_some_iff.mp at_).1
    exact (List.getElem?_inj low once).mp (by rw [List.getElem?_map, List.getElem?_map, at_, bt]; exact congrArg some same)
  · intro once
    refine List.nodup_iff_getElem?_ne_getElem?.mpr fun i j less high same => ?_
    rw [List.length_map] at high
    obtain ⟨b, bt⟩ : ∃ b, l[j]? = some b := ⟨l[j], List.getElem?_eq_getElem high⟩
    obtain ⟨a, at_⟩ : ∃ a, l[i]? = some a := ⟨l[i], List.getElem?_eq_getElem (less.trans high)⟩
    rw [List.getElem?_map, List.getElem?_map, at_, bt] at same
    exact less.ne (once i j a b at_ bt (Option.some.inj same))

/-! ## The proposed hops without MUTE entries (R74) -/

section Speaking

variable (speaking : ∀ e ∈ c.list, e.state ≠ .mute)
include speaking

theorem Cm.bypassed_of_speaking : c.bypassed = [] := by
  refine List.filter_eq_nil_iff.mpr fun x m => ?_
  have here : x.1 ∈ c.list := c.numbered_fst ▸ List.mem_map_of_mem m
  simp [speaking x.1 here]

theorem Cm.proposals_of_speaking : c.proposals = c.list.map fun e => (e, e.seenHop) := by
  have all : c.proposals = c.numbered.map fun x => (x.1, if x.1.state = .mute then some x.2 else x.1.seenHop) := by
    simp [Cm.proposals, Cm.bypassed_of_speaking speaking]
  rw [all]
  conv_rhs => rw [← c.numbered_fst, List.map_map]
  refine List.map_congr_left fun x m => ?_
  have here : x.1 ∈ c.list := c.numbered_fst ▸ List.mem_map_of_mem m
  rw [if_neg (speaking x.1 here)]
  rfl

/-- An order is found only when the seen hops differ (R74, R75). -/
theorem Cm.seenHops_nodup_of_reordered (d : c.Distinct) (r : c.reordered = some l) : (c.list.map Entry.seenHop).Nodup := by
  have proposals := Cm.proposals_of_speaking speaking
  have fst : c.proposals.map Prod.fst = c.list := by simp [proposals, Function.comp_def]
  have perm := Cm.reordered_perm r (by rw [proposals, List.map_map]; exact d)
  rw [fst] at perm
  refine ((perm.map Entry.seenHop).nodup_iff).mp ?_
  rw [(Cm.reordered_eq r).2, List.map_filterMap]
  refine List.Nodup.filterMap (fun i j hop mi mj => ?_) List.nodup_range
  have seen {k : Nat} (m : hop ∈ ((c.proposals.find? fun x => x.2 = some (k + 1)).map Prod.fst).map Entry.seenHop) :
      hop = some (k + 1) := by
    obtain ⟨z, hz, rfl⟩ := Option.map_eq_some_iff.mp m
    obtain ⟨p, hp, rfl⟩ := Option.map_eq_some_iff.mp hz
    have mem := List.mem_of_find?_eq_some hp
    rw [proposals] at mem
    obtain ⟨y, -, rfl⟩ := List.mem_map.mp mem
    simpa using List.find?_some hp
  simpa using (seen mi).symm.trans (seen mj)

variable (hops : ∀ e ∈ c.list, ∃ h, e.seenHop = some h ∧ 1 ≤ h ∧ h ≤ c.list.length) (once : (c.list.map Entry.seenHop).Nodup)
include hops once

omit speaking in
/-- Hops that are exactly 1 to n, each once, are each seen by an entry (R74). -/
theorem Cm.exists_seenHop {k : Nat} (low : k < c.list.length) : ∃ e ∈ c.list, e.seenHop = some (k + 1) := by
  have within : c.list.map Entry.seenHop ⊆ (List.range c.list.length).map fun i => some (i + 1) := by
    intro hop m
    obtain ⟨e, mem, rfl⟩ := List.mem_map.mp m
    obtain ⟨h, at_, pos, top⟩ := hops e mem
    exact List.mem_map.mpr ⟨h - 1, List.mem_range.mpr (by omega), by rw [at_, Nat.sub_add_cancel pos]⟩
  have perm := (List.subperm_of_subset once within).perm_of_length_le (by simp)
  exact List.mem_map.mp (perm.mem_iff.mpr (List.mem_map.mpr ⟨k, List.mem_range.mpr low, rfl⟩))

omit hops in
/-- The entry proposed for a hop. -/
theorem Cm.find?_proposal (m : e ∈ c.list) {k : Nat} (at_ : e.seenHop = some k) :
    (c.proposals.find? fun x => x.2 = some k) = some (e, e.seenHop) := by
  rw [Cm.proposals_of_speaking speaking]
  cases found : (c.list.map fun e => (e, e.seenHop)).find? fun x => x.2 = some k with
  | none => exact absurd (List.find?_eq_none.mp found (e, e.seenHop) (List.mem_map_of_mem m)) (by simp [at_])
  | some p =>
    obtain ⟨z, z_mem, rfl⟩ := List.mem_map.mp (List.mem_of_find?_eq_some found)
    have z_hop : z.seenHop = some k := by simpa using List.find?_some found
    rw [List.inj_on_of_nodup_map once z_mem m (z_hop.trans at_.symm)]

/-- With hops that are exactly 1 to n, each once, every entry takes its hop (R74). -/
theorem Cm.reordered_of_hops : ∃ l, c.reordered = some l ∧ l.length = c.list.length
    ∧ ∀ e ∈ c.list, ∀ h, e.seenHop = some h → l[h - 1]? = some e := by
  let g (i : Nat) : Option Entry := (c.proposals.find? fun x => x.2 = some (i + 1)).map Prod.fst
  have g_eq {e : Entry} (m : e ∈ c.list) {k : Nat} (at_ : e.seenHop = some (k + 1)) : g k = some e := by
    simp only [g]
    rw [Cm.find?_proposal speaking once m at_]
    rfl
  have size : c.proposals.length = c.list.length := by rw [Cm.proposals_of_speaking speaking, List.length_map]
  have full : ((List.range c.proposals.length).filterMap g).map some = (List.range c.proposals.length).map g := by
    refine map_some_filterMap fun i m => ?_
    obtain ⟨e, mem, at_⟩ := Cm.exists_seenHop hops once (size ▸ List.mem_range.mp m)
    rw [g_eq mem at_]
    rfl
  have length : ((List.range c.proposals.length).filterMap g).length = c.proposals.length := by
    simpa using congrArg List.length full
  refine ⟨(List.range c.proposals.length).filterMap g, ?_, length.trans size, fun e m h at_ => ?_⟩
  · refine if_pos ?_
    rw [Bool.and_eq_true, decide_eq_true_eq, List.all_eq_true]
    refine ⟨length, fun x m => ?_⟩
    rw [Cm.proposals_of_speaking speaking] at m
    obtain ⟨e, mem, rfl⟩ := List.mem_map.mp m
    obtain ⟨h, at_, -⟩ := hops e mem
    exact Option.isSome_iff_exists.mpr ⟨h, at_⟩
  · obtain ⟨k, seen, pos, top⟩ := hops e m
    obtain rfl : h = k := Option.some.inj (at_.symm.trans seen)
    have place := congrArg (·[h - 1]?) full
    have low : h - 1 < c.proposals.length := by omega
    simp only [List.getElem?_map, List.getElem?_range low, Option.map_some] at place
    rw [g_eq m (by rw [Nat.sub_add_cancel pos]; exact at_)] at place
    obtain ⟨z, here, same⟩ := Option.map_eq_some_iff.mp place
    rw [here, Option.some.inj same]

end Speaking

/-! ## What becomes of the order (R74, R75) -/

theorem reorder_of_calm (calm : ∀ e ∈ s.cm.list, e.evidenceCount ≠ 2) :
    (reorder s).cm = { s.cm with confused := false } := by
  have none : ¬ (s.cm.list.any fun e => e.evidenceCount = 2) = true := by simpa using calm
  rw [reorder, if_neg none]
  rfl

theorem reorder_of_reordered (confirmed : ∃ e ∈ s.cm.list, e.evidenceCount = 2) (speaking : ∀ e ∈ s.cm.list, e.state ≠ .mute)
    (r : s.cm.reordered = some l) : (reorder s).cm = { s.cm with list := l.map Entry.noEvidence, confused := false } := by
  have found : (s.cm.list.any fun e => e.evidenceCount = 2) = true := by simpa using confirmed
  rw [reorder, if_pos found, r, Cm.bypassed_of_speaking speaking]
  rfl

theorem reorder_of_none (confirmed : ∃ e ∈ s.cm.list, e.evidenceCount = 2) (r : s.cm.reordered = none) :
    (reorder s).cm = { s.cm with confused := true } := by
  have found : (s.cm.list.any fun e => e.evidenceCount = 2) = true := by simpa using confirmed
  rw [reorder, if_pos found, r]
  dsimp only
  split_ifs with known
  · rw [← known]
  · rfl

@[simp] theorem detach_rs (id : Nat) (s : State) : (detach id s).rs = s.rs := by
  unfold detach
  split <;> simp

@[simp] theorem reorder_rs (s : State) : (reorder s).rs = s.rs := by
  have bypass (x : Entry × Nat) (s : State) : (bypassEntry x.1.coach.id x.2 s).rs = s.rs := by simp [bypassEntry]
  unfold reorder
  split
  · split
    · exact foldl_keeps State.rs (fun s x => bypass x s) _ s
    · split <;> rfl
  · rfl

/-! ## The quiet gap (R170) -/

theorem pairEnd_eq (s : State) : pairEnd s = (reorder (pairsTaken s)).setCm
    { (reorder (pairsTaken s)).cm with list := (reorder (pairsTaken s)).cm.list.map Entry.noPair } := rfl

theorem pairEnd_rs (d : s.cm.Distinct) : (pairEnd s).rs = s.rs := by
  rw [pairEnd_eq, State.setCm_rs, reorder_rs, (pairsTaken_rest d).2.2]

/-- Supervision's part of the quiet gap is its own (R182 to R184). -/
theorem supervisionGap_rest (s : State) : (supervisionGap s).cm = s.cm ∧ (supervisionGap s).rs = s.rs
    ∧ (supervisionGap s).bc = s.bc ∧ (supervisionGap s).dc = s.dc := by
  have tell (line : Line) (old new : LineState) (t : State) : (tellLine line old new t).cm = t.cm
      ∧ (tellLine line old new t).rs = t.rs ∧ (tellLine line old new t).bc = t.bc ∧ (tellLine line old new t).dc = t.dc := by
    unfold tellLine
    dsimp only
    split_ifs <;> exact ⟨rfl, rfl, rfl, rfl⟩
  obtain ⟨cm, rs, bc, dc⟩ := tell .b s.sup.b.state s.sup.b.gap.state (tellLine .a s.sup.a.state s.sup.a.gap.state
    (s.setSup { s.sup with a := s.sup.a.gap, b := s.sup.b.gap }))
  obtain ⟨cm', rs', bc', dc'⟩ := tell .a s.sup.a.state s.sup.a.gap.state (s.setSup { s.sup with a := s.sup.a.gap, b := s.sup.b.gap })
  exact ⟨cm.trans cm', rs.trans rs', bc.trans bc', dc.trans dc'⟩

/-- The state as the quiet gap begins. -/
def gapEntered (s : State) : State := s.setBc (s.bc.enter .gap)

/-- The start of the quiet gap: the pair end of an odd cycle, and supervision's part. -/
theorem exec_quietGapStart (r : s.clc.ready ≠ .held) (d : s.dc.advanced = []) (distinct : s.cm.Distinct)
    (seg : s.bc.segment = .callDone) : ∃ t, exec .quietGapStart s = .next t ∧ t.bc = s.bc.enter .gap ∧ t.jt = s.jt
      ∧ t.rs = s.rs ∧ t.dc = s.dc ∧ t.cm = if s.bc.counter % 2 = 1 then (pairEnd (gapEntered s)).cm else s.cm := by
  have starts : gapStart s = supervisionGap (if s.bc.counter % 2 = 1 then pairEnd (gapEntered s) else gapEntered s) := by
    unfold gapStart
    rw [seg]
    rfl
  let u := if s.bc.counter % 2 = 1 then pairEnd (gapEntered s) else gapEntered s
  have kept : Kept (gapEntered s) u := by
    simp only [u]
    split_ifs
    · exact (shared_kept _).pairEnd (.refl _)
    · exact .refl _
  have store : u.rs = s.rs ∧ u.jt = s.jt := by
    simp only [u]
    split_ifs
    · exact ⟨pairEnd_rs (s := gapEntered s) distinct, pairEnd_jt _⟩
    · exact ⟨rfl, rfl⟩
  obtain ⟨cm, rs, bc, dc⟩ := supervisionGap_rest u
  refine ⟨_, congrArg Host.Outcome.next (event_running (f := gapStart) r d), ?_⟩
  rw [starts]
  refine ⟨bc.trans (kept.abort.eq_of_no_frame rfl).1, (supervisionGap_jt u).trans store.2, rs.trans store.1, ?_, ?_⟩
  · show { (supervisionGap u).dc with advanced := [] } = s.dc
    rw [dc]
    exact kept.dc_emptied d
  · refine cm.trans ?_
    simp only [u]
    split_ifs <;> rfl

end Sys2Proof.Machine
end

section
/-! The pair end as the statement reads it (R72 to R75, R170): statement O55. -/

namespace Sys2Proof.Machine

variable {s t u : State} {c : Cm} {l : List Entry} {e x y z : Entry} {i n pairs hop : Nat}

/-! ## One entry of the pair end -/

theorem Entry.pairsAtEnd_eq (e : Entry) : e.pairsAtEnd =
    if e.evenHeld = true ∧ e.evenValid = true ∧ e.oddValid = true then e.pairCount + 1 else e.pairCount := by
  simp only [Entry.pairsAtEnd, Entry.qualifies, Bool.and_eq_true, and_assoc]

/-- State and pair count after the proof of a pair (R72). -/
theorem Entry.paired_cases (pairs : Nat) (e : Entry) : if e.state = .probation then
      if pairs ≤ e.pairsAtEnd then (e.paired pairs).state = .active ∧ (e.paired pairs).pairCount = 0
      else (e.paired pairs).state = .probation ∧ (e.paired pairs).pairCount = e.pairsAtEnd
    else (e.paired pairs).state = e.state ∧ (e.paired pairs).pairCount = e.pairCount := by
  unfold Entry.paired
  split_ifs with probation proved
  · exact ⟨rfl, rfl⟩
  · exact ⟨probation, rfl⟩
  · exact ⟨rfl, rfl⟩

/-- No pair end makes an entry MUTE. -/
theorem Entry.taken_speaking (speaking : e.state ≠ .mute) : (e.taken pairs hop).state ≠ .mute := by
  rw [Entry.taken, (Entry.evidence_rest _ hop).2.1]
  unfold Entry.paired
  split_ifs
  · exact nofun
  · exact speaking
  · exact speaking

theorem Entry.taken_coach (pairs hop : Nat) (e : Entry) : (e.taken pairs hop).coach = e.coach :=
  (Entry.evidence_rest _ hop).1.trans (e.paired_rest pairs).1

theorem Entry.taken_pairHop (pairs hop : Nat) (e : Entry) : (e.taken pairs hop).pairHop = e.pairHop :=
  (Entry.evidence_rest _ hop).2.2.1.trans (e.paired_rest pairs).2.1

/-- A mismatch confirmed at a hop (R74). -/
theorem Entry.taken_confirmed (pairs hop : Nat) (e : Entry) :
    (e.taken pairs hop).evidenceCount = 2 ↔ ∃ h, e.pairHop = .hop h ∧ h ≠ hop ∧ e.evidenceHop = some h := by
  obtain ⟨-, pair, seen⟩ := e.paired_rest pairs
  rw [Entry.taken, Entry.evidence_confirmed, pair, seen]

theorem Entry.seenHop_eq_iff {h : Nat} : e.seenHop = some h ↔ e.pairHop = .hop h := by
  cases at_ : e.pairHop <;> simp [Entry.seenHop, at_]

/-! ## The list of the pair end -/

section PairEnd

variable (d : s.cm.Distinct)
include d

theorem pairsTaken_at (at_ : s.cm.list[i]? = some e) : ∃ z, (pairsTaken s).cm.list[i]? = some z
    ∧ z.bare = (e.taken s.cm.survey.cfgPairs (i + 1)).bare := by
  have place := pairsTaken_getElem? d i
  rw [at_] at place
  exact Option.map_eq_some_iff.mp place

theorem pairsTaken_of (at_ : (pairsTaken s).cm.list[i]? = some z) : ∃ e, s.cm.list[i]? = some e
    ∧ z.bare = (e.taken s.cm.survey.cfgPairs (i + 1)).bare := by
  have place := (pairsTaken_getElem? d i).symm
  rw [at_] at place
  obtain ⟨e, here, same⟩ := Option.map_eq_some_iff.mp place
  exact ⟨e, here, same.symm⟩

theorem pairsTaken_coaches : (pairsTaken s).cm.list.map (·.coach) = s.cm.list.map (·.coach) := by
  refine List.ext_getElem? fun i => ?_
  rw [List.getElem?_map, List.getElem?_map]
  have place := congrArg (Option.map Entry.coach) (pairsTaken_getElem? d i)
  rw [Option.map_map, Option.map_map] at place
  exact place.trans (Option.map_congr fun e _ => Entry.taken_coach _ _ e)

theorem pairsTaken_length : (pairsTaken s).cm.list.length = s.cm.list.length := by
  simpa using congrArg List.length (pairsTaken_coaches d)

theorem pairsTaken_distinct : (pairsTaken s).cm.Distinct := by
  have ids := congrArg (List.map Coach.id) (pairsTaken_coaches d)
  rw [List.map_map, List.map_map] at ids
  exact (congrArg List.Nodup ids).mpr d

theorem pairsTaken_speaking (speaking : ∀ e ∈ s.cm.list, e.state ≠ .mute) : ∀ z ∈ (pairsTaken s).cm.list, z.state ≠ .mute := by
  intro z m
  obtain ⟨i, at_⟩ := List.mem_iff_getElem?.mp m
  obtain ⟨e, here, same⟩ := pairsTaken_of d at_
  rw [(Entry.bare_ext same).2.1]
  exact Entry.taken_speaking (speaking e (List.mem_iff_getElem?.mpr ⟨i, here⟩))

theorem pairsTaken_pairHop (at_ : s.cm.list[i]? = some e) (here : (pairsTaken s).cm.list[i]? = some z) :
    z.pairHop = e.pairHop := by
  obtain ⟨e', here', same⟩ := pairsTaken_of d here
  obtain rfl : e' = e := Option.some.inj (here'.symm.trans at_)
  obtain ⟨-, -, -, hop, -⟩ := Entry.bare_ext same
  exact hop.trans (Entry.taken_pairHop ..)

/-- A mismatch is confirmed (R73, R74). -/
theorem pairsTaken_confirmed : (∃ z ∈ (pairsTaken s).cm.list, z.evidenceCount = 2) ↔
    ∃ (i : Nat) (e : Entry) (h : Nat), s.cm.list[i]? = some e ∧ e.pairHop = .hop h ∧ h ≠ i + 1 ∧ e.evidenceHop = some h := by
  constructor
  · rintro ⟨z, m, two⟩
    obtain ⟨i, at_⟩ := List.mem_iff_getElem?.mp m
    obtain ⟨e, here, same⟩ := pairsTaken_of d at_
    have count : z.evidenceCount = (e.taken s.cm.survey.cfgPairs (i + 1)).evidenceCount := (congrArg Entry.evidenceCount same :)
    obtain ⟨h, confirmed⟩ := (Entry.taken_confirmed _ _ e).mp (count.symm.trans two)
    exact ⟨i, e, h, here, confirmed⟩
  · rintro ⟨i, e, h, at_, confirmed⟩
    obtain ⟨z, here, same⟩ := pairsTaken_at d at_
    exact ⟨z, List.mem_iff_getElem?.mpr ⟨i, here⟩,
      (congrArg Entry.evidenceCount same :).trans ((Entry.taken_confirmed _ _ e).mpr ⟨h, confirmed⟩)⟩

/-! ## The order of the pair end -/

/-- Without a confirmed mismatch the list keeps its order (R75). -/
theorem pairEnd_of_calm (calm : ¬ ∃ z ∈ (pairsTaken s).cm.list, z.evidenceCount = 2) :
    (pairEnd s).cm.list = (pairsTaken s).cm.list.map Entry.noPair ∧ (pairEnd s).cm.confused = false
      ∧ (pairEnd s).cm.detached = s.cm.detached := by
  have order := reorder_of_calm (s := pairsTaken s) fun z m two => calm ⟨z, m, two⟩
  rw [pairEnd_eq, State.setCm_cm, order]
  exact ⟨rfl, rfl, (pairsTaken_rest d).1⟩

/-- An entry in the list of a pair end without a confirmed mismatch (R72, R73). -/
theorem pairEnd_at_of_calm (calm : ¬ ∃ z ∈ (pairsTaken s).cm.list, z.evidenceCount = 2) (at_ : s.cm.list[i]? = some e) :
    ∃ x, (pairEnd s).cm.list[i]? = some x ∧ x.bare = (e.taken s.cm.survey.cfgPairs (i + 1)).noPair.bare
      ∧ (e.taken s.cm.survey.cfgPairs (i + 1)).evidenceCount ≠ 2 := by
  obtain ⟨z, here, same⟩ := pairsTaken_at d at_
  refine ⟨z.noPair, ?_, congrArg Entry.noPair same, fun two => ?_⟩
  · rw [(pairEnd_of_calm d calm).1, List.getElem?_map, here]
    rfl
  · exact calm ⟨z, List.mem_iff_getElem?.mpr ⟨i, here⟩, (congrArg Entry.evidenceCount same :).trans two⟩

variable (confirmed : ∃ z ∈ (pairsTaken s).cm.list, z.evidenceCount = 2) (speaking : ∀ e ∈ s.cm.list, e.state ≠ .mute)
include confirmed speaking

/-- Hops that are exactly 1 to n, each once, give the new order (R74). -/
theorem pairEnd_of_hops (hops : ∀ e ∈ s.cm.list, ∃ h, e.pairHop = .hop h ∧ 1 ≤ h ∧ h ≤ s.cm.list.length)
    (once : ∀ (i j : Nat) (a b : Entry), s.cm.list[i]? = some a → s.cm.list[j]? = some b → a.pairHop = b.pairHop → i = j) :
    (pairEnd s).cm.list.length = s.cm.list.length ∧ (pairEnd s).cm.confused = false
      ∧ ∀ (i : Nat) (e : Entry) (h : Nat), s.cm.list[i]? = some e → e.pairHop = .hop h →
        ∃ x, (pairEnd s).cm.list[h - 1]? = some x ∧ x.coach = e.coach ∧ x.evidenceHop = none ∧ x.evidenceCount = 0 := by
  have length := pairsTaken_length d
  have seen : ∀ z ∈ (pairsTaken s).cm.list, ∃ h, z.seenHop = some h ∧ 1 ≤ h ∧ h ≤ (pairsTaken s).cm.list.length := by
    intro z m
    obtain ⟨i, here⟩ := List.mem_iff_getElem?.mp m
    obtain ⟨e, at_, -⟩ := pairsTaken_of d here
    obtain ⟨h, hop, pos, top⟩ := hops e (List.mem_iff_getElem?.mpr ⟨i, at_⟩)
    exact ⟨h, Entry.seenHop_eq_iff.mpr ((pairsTaken_pairHop d at_ here).trans hop), pos, length ▸ top⟩
  have distinct : ((pairsTaken s).cm.list.map Entry.seenHop).Nodup := by
    refine nodup_map_iff_places.mpr fun i j y z here there same => ?_
    obtain ⟨a, at_, -⟩ := pairsTaken_of d here
    obtain ⟨b, bt, -⟩ := pairsTaken_of d there
    obtain ⟨h, hop, -⟩ := seen y (List.mem_iff_getElem?.mpr ⟨i, here⟩)
    have hopA := (pairsTaken_pairHop d at_ here).symm.trans (Entry.seenHop_eq_iff.mp hop)
    have hopB := (pairsTaken_pairHop d bt there).symm.trans (Entry.seenHop_eq_iff.mp (same.symm.trans hop))
    exact once i j a b at_ bt (hopA.trans hopB.symm)
  obtain ⟨l, r, size, place⟩ := Cm.reordered_of_hops (pairsTaken_speaking d speaking) seen distinct
  have order := reorder_of_reordered confirmed (pairsTaken_speaking d speaking) r
  have cm : (pairEnd s).cm.list = (l.map Entry.noEvidence).map Entry.noPair ∧ (pairEnd s).cm.confused = false := by
    rw [pairEnd_eq, State.setCm_cm, order]
    exact ⟨rfl, rfl⟩
  obtain ⟨list, confused⟩ := cm
  refine ⟨by simp [list, size, length], confused, fun i e h at_ hop => ?_⟩
  obtain ⟨z, here, same⟩ := pairsTaken_at d at_
  refine ⟨z.noEvidence.noPair, ?_, (Entry.bare_ext same).1.trans (Entry.taken_coach ..), rfl, rfl⟩
  rw [list, List.getElem?_map, List.getElem?_map, place z (List.mem_iff_getElem?.mpr ⟨i, here⟩) h
    (Entry.seenHop_eq_iff.mpr ((pairsTaken_pairHop d at_ here).trans hop))]
  rfl

/-- Two entries that report the same hop confuse the list (R75). -/
theorem pairEnd_of_clash (clash : ∃ (i j : Nat) (a b : Entry) (h : Nat), s.cm.list[i]? = some a ∧ s.cm.list[j]? = some b ∧ i ≠ j
      ∧ a.pairHop = .hop h ∧ b.pairHop = .hop h) :
    (pairEnd s).cm.confused = true ∧ (pairEnd s).cm.list.map (·.coach) = s.cm.list.map (·.coach) := by
  obtain ⟨i, j, a, b, h, at_, bt, differ, hopA, hopB⟩ := clash
  have none : (pairsTaken s).cm.reordered = none := by
    cases r : (pairsTaken s).cm.reordered with
    | none => rfl
    | some l =>
      have once := Cm.seenHops_nodup_of_reordered (pairsTaken_speaking d speaking) (pairsTaken_distinct d) r
      obtain ⟨y, here, -⟩ := pairsTaken_at d at_
      obtain ⟨z, there, -⟩ := pairsTaken_at d bt
      have seenA := Entry.seenHop_eq_iff.mpr ((pairsTaken_pairHop d at_ here).trans hopA)
      have seenB := Entry.seenHop_eq_iff.mpr ((pairsTaken_pairHop d bt there).trans hopB)
      exact absurd (nodup_map_iff_places.mp once i j y z here there (seenA.trans seenB.symm)) differ
  rw [pairEnd_eq, State.setCm_cm, reorder_of_none confirmed none]
  refine ⟨rfl, ?_⟩
  rw [← pairsTaken_coaches d, List.map_map]
  rfl

end PairEnd

/-- Settles O55, by the pair end of an odd cycle, entry by entry, and the three cases of its order. -/
theorem quietGapTakesThePairEnd : Obligations.QuietGapTakesThePairEnd := by
  unfold Obligations.QuietGapTakesThePairEnd
  intro s r d ok seg list confirmed speaking
  have distinct := Cm.Distinct.of_consistOk ok
  obtain ⟨t, run, bc, jt, rs, dc, cm⟩ := exec_quietGapStart r d distinct seg
  have confirmed_iff := pairsTaken_confirmed (s := gapEntered s) distinct
  have atOdd (odd : s.bc.counter % 2 = 1) : t.cm = (pairEnd (gapEntered s)).cm := cm.trans (if_pos odd)
  refine ⟨t, run, bc, jt, rs, dc, fun even => cm.trans (if_neg (by omega)), fun odd calm => ?_, fun odd found speak hops once => ?_,
    fun odd found speak clash => ?_⟩
  · rw [atOdd odd]
    have quiet := mt confirmed_iff.mp calm
    obtain ⟨order, confused, detached⟩ := pairEnd_of_calm (s := gapEntered s) distinct quiet
    refine ⟨by rw [order, List.length_map, pairsTaken_length (s := gapEntered s) distinct]; rfl, confused, detached, fun i e at_ => ?_⟩
    obtain ⟨x, here, same, calm⟩ := pairEnd_at_of_calm (s := gapEntered s) distinct quiet at_
    obtain ⟨coach, state, count, hop, evenHeld, evenValid, oddValid⟩ := Entry.bare_ext same
    obtain ⟨-, stateE, -, countE⟩ := (e.paired s.cm.survey.cfgPairs).evidence_rest (i + 1)
    refine ⟨x, here, coach.trans (Entry.taken_coach ..), evenHeld, evenValid, oddValid, hop, ?_, ?_⟩
    · have evidence := (e.paired s.cm.survey.cfgPairs).evidence_eq (i + 1) calm
      rw [(e.paired_rest _).2.1] at evidence
      have seenX : x.evidenceHop = (e.taken s.cm.survey.cfgPairs (i + 1)).evidenceHop := (congrArg Entry.evidenceHop same :)
      have countX : x.evidenceCount = (e.taken s.cm.survey.cfgPairs (i + 1)).evidenceCount := (congrArg Entry.evidenceCount same :)
      rw [seenX, countX]
      exact evidence
    · have pair := e.paired_cases s.cm.survey.cfgPairs
      rw [e.pairsAtEnd_eq] at pair
      have stateX : x.state = (e.paired s.cm.survey.cfgPairs).state := state.trans stateE
      have pairsX : x.pairCount = (e.paired s.cm.survey.cfgPairs).pairCount := count.trans countE
      rw [stateX, pairsX]
      exact pair
  · rw [atOdd odd]
    exact pairEnd_of_hops (s := gapEntered s) distinct (confirmed_iff.mpr found) speak hops once
  · rw [atOdd odd]
    exact pairEnd_of_clash (s := gapEntered s) distinct (confirmed_iff.mpr found) speak clash

end Sys2Proof.Machine
end

section
/-! The store left alone: the shared operations, the events and the requests that hold no bank. -/

namespace Sys2Proof.Machine

variable (s : State)

/-! ## The coach slot -/

@[simp] theorem takeOrientation_rs (id : Nat) (o : Orientation) : (takeOrientation id o s).rs = s.rs := by
  unfold takeOrientation
  split
  · rfl
  · split_ifs <;> simp
@[simp] theorem takeType_rs (id type : Nat) : (takeType id type s).rs = s.rs := by
  unfold takeType
  split
  · rfl
  · split_ifs <;> simp
@[simp] theorem takeNumber_rs (id number : Nat) : (takeNumber id number s).rs = s.rs := by
  unfold takeNumber
  split
  · rfl
  · split_ifs <;> simp
@[simp] theorem takeUnit_rs (id unit : Nat) : (takeUnit id unit s).rs = s.rs := by
  unfold takeUnit
  split
  · rfl
  · split_ifs <;> simp
@[simp] theorem unmute_rs (id : Nat) : (unmute id s).rs = s.rs := by
  unfold unmute
  split
  · rfl
  · split_ifs <;> simp
@[simp] theorem slotAnswered_rs (id : Nat) (a : NodeAnswer) : (slotAnswered id a s).rs = s.rs := by simp [slotAnswered]
@[simp] theorem muteEntry_rs (id : Nat) : (muteEntry id s).rs = s.rs := by simp [muteEntry]
@[simp] theorem loseEntry_rs (id : Nat) : (loseEntry id s).rs = s.rs := by simp [loseEntry]
@[simp] theorem acknowledge_rs (f : ContentFrame) (a : NodeAnswer) : (acknowledge f a s).rs = s.rs := by
  unfold acknowledge
  split
  · rfl
  · split_ifs <;> rfl
@[simp] theorem composerOutcome_rs (f : ContentFrame) (a : Option NodeAnswer) : (composerOutcome f a s).1.rs = s.rs := by
  unfold composerOutcome
  split
  · rfl
  · rfl
  · dsimp only
    split_ifs <;> simp

/-! ## The other events -/

@[simp] theorem setOdo_rs (f : Odometer → Odometer) : (setOdo f s).rs = s.rs := rfl
@[simp] theorem setPhase_rs (p : Phase) : (setPhase p s).rs = s.rs := rfl
@[simp] theorem minuteTick_rs : (minuteTick s).rs = s.rs := formEta_rs _
@[simp] theorem runTo_rs (t : Nat) : (runTo t s).rs = s.rs := rfl
@[simp] theorem beaconStart_rs : (beaconStart s).rs = s.rs := rfl
@[simp] theorem stopConsist_rs : (stopConsist s).rs = s.rs := by
  unfold stopConsist
  dsimp only
  split_ifs <;> simp
@[simp] theorem cycleClose_rs : (cycleClose s).rs = s.rs := by
  unfold cycleClose
  split
  · rfl
  · simp [backboneOff]
  · rfl
@[simp] theorem composerCycle_rs : (composerCycle s).rs = s.rs := by simp [composerCycle, countNotices]
@[simp] theorem beaconEnd_rs : (beaconEnd s).rs = s.rs := by
  unfold beaconEnd
  split <;> simp
@[simp] theorem slotStart_rs : (slotStart s).rs = s.rs := by
  unfold slotStart
  split
  · rfl
  · split <;> rfl
@[simp] theorem contentComplete_rs : (contentComplete s).rs = s.rs := by
  unfold contentComplete
  split
  · split_ifs <;> rfl
  · rfl
@[simp] theorem takeSymbols_rs (line : Line) (t : Nat) (symbols : List Symbol) : (takeSymbols line t symbols s).rs = s.rs := by
  unfold takeSymbols
  dsimp only
  split
  · split <;> rfl
  · rfl
@[simp] theorem callOfCycle_rs : (callOfCycle s).1.rs = s.rs := by
  unfold callOfCycle
  dsimp only
  split
  · rfl
  · split_ifs <;> rfl
  · split_ifs <;> rfl
@[simp] theorem callStart_rs : (callStart s).rs = s.rs := by
  unfold callStart
  split <;> simp
@[simp] theorem callEnd_rs : (callEnd s).rs = s.rs := by
  unfold callEnd
  split
  · dsimp only
    split <;> simp [callClose]
  · rfl
@[simp] theorem pairStep_rs (id : Nat) : (pairStep id s).rs = s.rs := by
  unfold pairStep
  split
  · rfl
  · dsimp only
    split_ifs <;> simp
@[simp] theorem gapStart_rs : (gapStart s).rs = s.rs := by
  have pair (t : State) : (pairEnd t).rs = t.rs := by
    rw [pairEnd_eq, State.setCm_rs, reorder_rs]
    exact foldl_keeps State.rs (fun t id => pairStep_rs t id) _ t
  unfold gapStart
  split
  · dsimp only
    rw [(supervisionGap_rest _).2.1]
    split_ifs
    · exact pair _
    · rfl
  · rfl

/-! ## Requests of the Journey Tracker -/

@[simp] theorem doOpenRoute_rs (slot code : Nat) (dest : Text) : (doOpenRoute slot code dest s).state.rs = s.rs := by
  unfold doOpenRoute
  split
  · rfl
  · split <;> rfl
@[simp] theorem doAppendStops_rs (slot : Nat) (stops : List StopFields) : (doAppendStops slot stops s).state.rs = s.rs := by
  unfold doAppendStops
  split
  · rfl
  · split
    · rfl
    · split
      · rfl
      · dsimp only
        split <;> rfl
@[simp] theorem doCloseRoute_rs (slot : Nat) : (doCloseRoute slot s).state.rs = s.rs := by
  unfold doCloseRoute
  split
  · rfl
  · dsimp only
    split <;> rfl
@[simp] theorem doDropRoute_rs (slot : Nat) : (doDropRoute slot s).state.rs = s.rs := by
  unfold doDropRoute
  split
  · rfl
  · split <;> rfl
@[simp] theorem doCancelStop_rs (slot index : Nat) : (doCancelStop slot index s).state.rs = s.rs := by
  unfold doCancelStop
  split
  · rfl
  · dsimp only
    split_ifs
    · rfl
    · rfl
    · rfl
    · exact changeMarks_rs ..
@[simp] theorem doRestoreStop_rs (slot index : Nat) : (doRestoreStop slot index s).state.rs = s.rs := by
  unfold doRestoreStop
  split
  · rfl
  · dsimp only
    split_ifs
    · rfl
    · rfl
    · exact changeMarks_rs ..
@[simp] theorem doEndJourney_rs : (doEndJourney s).state.rs = s.rs := by
  by_cases h : s.jt.phase = .noJourney ∨ ∃ p ∈ s.jt.portions, p.state = .parting
  · rw [doEndJourney_of_stopped h]
    rfl
  · obtain ⟨u, a, -, rs, -⟩ := doEndJourney_of_not_stopped h
    rw [a]
    exact rs
@[simp] theorem doArrived_rs (code : Nat) : (doArrived code s).state.rs = s.rs := by
  unfold doArrived
  split
  · dsimp only
    split
    · rfl
    · split_ifs <;> simp
  · rfl
@[simp] theorem doSetDirection_rs (direction : Nat) : (doSetDirection direction s).state.rs = s.rs := by
  unfold doSetDirection
  split
  · rfl
  · split
    · rfl
    · split_ifs <;> simp
@[simp] theorem doSetTime_rs (minute : Nat) : (doSetTime minute s).state.rs = s.rs := by
  unfold doSetTime
  split_ifs
  · rfl
  · exact formEta_rs _
@[simp] theorem doConfigureOdometer_rs (p : OdoConfig) : (doConfigureOdometer p s).state.rs = s.rs := by
  unfold doConfigureOdometer
  split
  · rfl
  · dsimp only
    split_ifs <;> simp
@[simp] theorem doPositionFix_rs (x : Nat) : (doPositionFix x s).state.rs = s.rs := by
  unfold doPositionFix
  split <;> simp
@[simp] theorem doReadJourney_rs : (doReadJourney s).state.rs = s.rs := rfl

/-! ## Requests of the Consist Manager -/

@[simp] theorem doConfigureSurvey_rs (attempts pairs : Nat) : (doConfigureSurvey attempts pairs s).state.rs = s.rs := by
  unfold doConfigureSurvey
  split_ifs <;> rfl
@[simp] theorem doStartBackbone_rs : (doStartBackbone s).state.rs = s.rs := by
  unfold doStartBackbone
  split_ifs <;> rfl
@[simp] theorem doStopBackbone_rs : (doStopBackbone s).state.rs = s.rs := by
  unfold doStopBackbone
  split_ifs <;> rfl
@[simp] theorem doSurvey_rs : (doSurvey s).state.rs = s.rs := by
  unfold doSurvey
  split <;> rfl
@[simp] theorem doRemoveEntry_rs (id : Nat) : (doRemoveEntry id s).state.rs = s.rs := by
  unfold doRemoveEntry
  split_ifs
  · rfl
  · rfl
  · split <;> rfl
@[simp] theorem doDefineType_rs (code seats : Nat) (labels : List Text) : (doDefineType code seats labels s).state.rs = s.rs := by
  unfold doDefineType
  split
  · rfl
  · split
    · rfl
    · split
      · rfl
      · split_ifs <;> simp
@[simp] theorem doDeleteType_rs (code : Nat) : (doDeleteType code s).state.rs = s.rs := by
  unfold doDeleteType
  split_ifs <;> rfl

/-! ## Requests of the Display Composer, of supervision and of the computer link -/

@[simp] theorem changeStacks_rs (pick : Coach → Bool) (f : List Notice → List Notice) (before after : State → Entry → Bool) :
    (changeStacks pick f before after s).rs = s.rs := by simp [changeStacks]
@[simp] theorem doRefreshCoach_rs (target id : Nat) : (doRefreshCoach target id s).state.rs = s.rs := by
  unfold doRefreshCoach
  split
  · rfl
  · simp
  · split_ifs
    · rfl
    · split <;> simp
@[simp] theorem doPushNotice_rs (target id : Nat) (t : Text) (priority expiry value : Nat) :
    (doPushNotice target id t priority expiry value s).state.rs = s.rs := by
  unfold doPushNotice
  split
  · simp [pushOn]
  · split_ifs
    · rfl
    · split
      · rfl
      · split_ifs <;> simp [pushOn]
  · rfl
@[simp] theorem doPopNotice_rs (id : Nat) : (doPopNotice id s).state.rs = s.rs := by
  unfold doPopNotice
  split_ifs
  · rfl
  · split
    · rfl
    · split <;> simp
@[simp] theorem doClearNotices_rs (target id : Nat) : (doClearNotices target id s).state.rs = s.rs := by
  unfold doClearNotices
  split
  · rfl
  · simp [clearStacks]
  · split_ifs
    · rfl
    · split <;> simp [clearStacks]
@[simp] theorem doSetRotationEntry_rs (index page dwell next : Nat) :
    (doSetRotationEntry index page dwell next s).state.rs = s.rs := by
  unfold doSetRotationEntry
  split
  · rfl
  · split_ifs <;> rfl
@[simp] theorem doSetRotationStart_rs (index : Nat) : (doSetRotationStart index s).state.rs = s.rs := by
  unfold doSetRotationStart
  split_ifs <;> rfl
@[simp] theorem doClearLineFlags_rs (mask : Nat) : (doClearLineFlags mask s).state.rs = s.rs := by
  unfold doClearLineFlags
  split_ifs <;> rfl
@[simp] theorem doLockTable_rs (table : Nat) : (doLockTable table s).state.rs = s.rs := by
  unfold doLockTable
  split <;> rfl
@[simp] theorem doUnlockTable_rs (table : Nat) : (doUnlockTable table s).state.rs = s.rs := by
  unfold doUnlockTable
  split <;> rfl
@[simp] theorem doSetCapture_rs (mode : Nat) : (doSetCapture mode s).state.rs = s.rs := by
  unfold doSetCapture
  split <;> rfl
@[simp] theorem doSetReporting_rs (classes order : Nat) : (doSetReporting classes order s).state.rs = s.rs := by
  unfold doSetReporting
  split
  · rfl
  · split_ifs <;> rfl
@[simp] theorem doAckAlarms_rs (flags : Nat) : (doAckAlarms flags s).state.rs = s.rs := by
  unfold doAckAlarms
  split_ifs <;> rfl

/-- The requests that may change the store: its own (section 8.8), and those that purge, switch or delete. -/
def movesStore : Instr → Bool
  | .assignUnitHome .. | .assignUnit .. | .departed .. | .split .. | .declareVehicle .. | .removeVehicle .. | .addSegment ..
  | .dropSegment .. | .clearSeat .. | .openStagingEmpty .. | .openStagingCopy .. | .armStaging .. | .armStagingImmediate ..
  | .disarmStaging .. | .abandonStaging .. => true
  | _ => false

/-- Every other request leaves the store alone. -/
theorem act_rs {c : Instr} (h : movesStore c = false) : (act c s).state.rs = s.rs := by
  cases c with
  | assignUnitHome | assignUnit | departed | split | declareVehicle | removeVehicle | addSegment | dropSegment | clearSeat
  | openStagingEmpty | openStagingCopy | armStaging | armStagingImmediate | disarmStaging | abandonStaging => cases h
  | _ => simp [act, doLinkReset, doPartReset, doSummary, doReadConsist, doReadBanks, doReadRotation, doReadBackbone,
      doReadLineFlags]

end Sys2Proof.Machine
end

section
/-! A bank kept lawful by each edit, and the store by each operation on its banks (R87 to R89, R97). -/

namespace Sys2Proof.Machine

variable {b : List Vehicle} {l : List Segment} {g : Segment} {v : Vehicle} {r : Rs} {id seat n : Nat}

/-! ## Seats -/

theorem seatOk_nil : SeatOk [] := ⟨Nat.zero_le _, nofun, .nil⟩

theorem insertSegment_perm (g : Segment) (l : List Segment) : (insertSegment g l).Perm (g :: l) := by
  induction l with
  | nil => exact .refl _
  | cons h l ih =>
    unfold insertSegment
    split_ifs
    · exact .refl _
    · exact (ih.cons h).trans (.swap ..)

/-- A segment that overlaps none keeps the order in which each ends at or below the next (R89, R92). -/
theorem pairwise_insertSegment (o : l.Pairwise fun a b => a.toIx ≤ b.fromIx) (w : ∀ h ∈ g :: l, h.fromIx < h.toIx)
    (c : ∀ h ∈ l, h.overlaps g.fromIx g.toIx = false) :
    (insertSegment g l).Pairwise fun a b => a.toIx ≤ b.fromIx := by
  have apart {h : Segment} (m : h ∈ l) : g.toIx ≤ h.fromIx ∨ h.toIx ≤ g.fromIx := by
    have k := c h m
    simp only [Segment.overlaps, Bool.and_eq_false_iff, decide_eq_false_iff_not] at k
    omega
  induction l with
  | nil => exact List.pairwise_singleton ..
  | cons h l ih =>
    obtain ⟨first, rest⟩ := List.pairwise_cons.mp o
    have gw : g.fromIx < g.toIx := w g (by simp)
    have hw : h.fromIx < h.toIx := w h (by simp)
    have here := apart (List.mem_cons_self ..)
    unfold insertSegment
    split_ifs with before
    · have below : g.toIx ≤ h.fromIx := by omega
      refine List.pairwise_cons.mpr ⟨fun x m => ?_, o⟩
      obtain rfl | m := List.mem_cons.mp m
      · exact below
      · have := first x m
        omega
    · refine List.pairwise_cons.mpr ⟨fun x m => ?_, ih rest (fun x m => w x ?_) (fun x m => c x (by simp [m]))
        fun m => apart (List.mem_cons_of_mem _ m)⟩
      · obtain rfl | m := List.mem_cons.mp ((insertSegment_perm g l).subset m)
        · omega
        · exact first x m
      · exact List.mem_cons.mpr ((List.mem_cons.mp m).imp_right (List.mem_cons_of_mem _))

/-- A segment inserted where it overlaps none, with room for it, keeps a seat's form (R89, R92). -/
theorem SeatOk.insert (h : SeatOk l) (w : g.fromIx < g.toIx) (c : ∀ x ∈ l, x.overlaps g.fromIx g.toIx = false)
    (room : l.length < Config.maxSeatSegments) : SeatOk (insertSegment g l) := by
  obtain ⟨-, whole, order⟩ := h
  have perm := insertSegment_perm g l
  have all : ∀ x ∈ g :: l, x.fromIx < x.toIx := List.forall_mem_cons.mpr ⟨w, whole⟩
  exact ⟨perm.length_eq ▸ room, fun x m => all x (perm.subset m), pairwise_insertSegment order all c⟩

/-- Segments left out keep a seat's form (R89, R93). -/
theorem SeatOk.sublist {k : List Segment} (h : SeatOk l) (s : k.Sublist l) : SeatOk k := by
  obtain ⟨few, whole, order⟩ := h
  exact ⟨s.length_le.trans few, fun g m => whole g (s.subset m), order.sublist s⟩

/-! ## Banks -/

/-- The records of a bank changed, each with its identity, lawful seats and no more segments (R87 to R89). -/
theorem BankOk.map (h : BankOk b) (f : Vehicle → Vehicle) (ids : ∀ v ∈ b, (f v).id = v.id)
    (few : ∀ v ∈ b, (f v).count ≤ v.count) (seats : ∀ v ∈ b, ∀ l ∈ (f v).seats, SeatOk l) : BankOk (b.map f) := by
  obtain ⟨size, once, total, -⟩ := h
  refine ⟨by simpa using size, ?_, le_trans ?_ total, fun x m => ?_⟩
  · rwa [List.map_map, List.map_congr_left (g := (·.id)) ids]
  · rw [segmentCount, List.map_map]
    exact List.sum_le_sum few
  · obtain ⟨v, mv, rfl⟩ := List.mem_map.mp m
    exact seats v mv

/-- A record purged has its identity, lawful seats and no more segments (R110). -/
theorem BankOk.purge (h : BankOk b) (indices : List (Nat × Nat)) : BankOk (b.map (Vehicle.purge indices)) := by
  obtain ⟨-, -, -, seats⟩ := id h
  refine h.map _ (fun v _ => ?_) (fun v _ => ?_) fun v m => ?_
  · unfold Vehicle.purge
    split <;> rfl
  · unfold Vehicle.purge
    split
    · simp only [Vehicle.count, List.map_map]
      exact List.sum_le_sum fun l _ => (List.dropWhile_sublist _).length_le
    · exact le_rfl
  · unfold Vehicle.purge
    split
    · intro k mk
      obtain ⟨l, ml, rfl⟩ := List.mem_map.mp mk
      exact (seats v m l ml).drop _
    · exact seats v m

theorem vehicleIn_mem (h : vehicleIn b id = some v) : v ∈ b ∧ v.id = id :=
  ⟨List.mem_of_find?_eq_some h, by simpa using List.find?_some h⟩

theorem vehicleIn_eq_none : vehicleIn b id = none ↔ ∀ v ∈ b, v.id ≠ id := by simp [vehicleIn]

/-- Of an identity a bank has one record (R87). -/
theorem BankOk.eq_of_id (h : BankOk b) (found : vehicleIn b id = some v) {x : Vehicle} (m : x ∈ b) (e : x.id = id) : x = v := by
  obtain ⟨mv, ev⟩ := vehicleIn_mem found
  exact List.inj_on_of_nodup_map h.2.1 m mv (e.trans ev.symm)

/-- A seat's list replaced changes the record's segments by what the list has more or less. -/
theorem Vehicle.count_setSeat (at_ : v.seats[seat]? = some l) (k : List Segment) :
    (v.setSeat seat k).count + l.length = v.count + k.length := by
  obtain ⟨inside, rfl⟩ := List.getElem?_eq_some_iff.mp at_
  have split := congrArg (fun x => (x.map List.length).sum) (List.take_append_drop seat v.seats)
  rw [List.drop_eq_getElem_cons inside] at split
  simp only [Vehicle.count, Vehicle.setSeat, List.set_eq_take_append_cons_drop, inside, if_true, List.map_append,
    List.map_cons, List.sum_append, List.sum_cons] at split ⊢
  omega

/-- The segments of a bank whose one record of an identity is changed. -/
theorem segmentCount_updateVehicle (once : (b.map (·.id)).Nodup) (found : vehicleIn b id = some v) (f : Vehicle → Vehicle) :
    segmentCount (updateVehicle id f b) + v.count = segmentCount b + (f v).count := by
  induction b with
  | nil => cases found
  | cons x b ih =>
    simp only [List.map_cons, List.nodup_cons] at once
    obtain ⟨new, once⟩ := once
    by_cases e : x.id = id
    · obtain rfl : x = v := by simpa [vehicleIn, e] using found
      have rest : updateVehicle id f b = b := by
        refine (List.map_congr_left fun y m => if_neg fun q => new ?_).trans (List.map_id b)
        exact List.mem_map.mpr ⟨y, m, q.trans e.symm⟩
      have step : updateVehicle id f (x :: b) = f x :: updateVehicle id f b := by simp [updateVehicle, e]
      rw [step, rest]
      simp only [segmentCount, List.map_cons, List.sum_cons]
      omega
    · have found : vehicleIn b id = some v := by simpa [vehicleIn, e] using found
      have step : updateVehicle id f (x :: b) = x :: updateVehicle id f b := by simp [updateVehicle, e]
      have k := ih once found
      rw [step]
      simp only [segmentCount, List.map_cons, List.sum_cons] at k ⊢
      omega

/-- One seat replaced by a lawful list that the bank has room for (R89, R92 to R94). -/
theorem BankOk.setSeat (h : BankOk b) (found : vehicleIn b id = some v) (at_ : v.seats[seat]? = some l) {k : List Segment}
    (ok : SeatOk k) (room : segmentCount b + k.length ≤ Config.maxBankSegments + l.length) :
    BankOk (updateVehicle id (fun x => x.setSeat seat k) b) := by
  obtain ⟨size, once, total, seats⟩ := h
  have more := segmentCount_updateVehicle once found fun x => x.setSeat seat k
  have mine := Vehicle.count_setSeat at_ k
  refine ⟨by simpa [updateVehicle] using size, ?_, by omega, fun x m => ?_⟩
  · have same : (updateVehicle id (fun x => x.setSeat seat k) b).map (·.id) = b.map (·.id) := by
      rw [updateVehicle, List.map_map]
      refine List.map_congr_left fun x _ => ?_
      show (if x.id = id then x.setSeat seat k else x).id = x.id
      split <;> rfl
    rwa [same]
  · obtain ⟨y, my, rfl⟩ := List.mem_map.mp m
    split_ifs
    · intro q mq
      obtain mq | rfl := List.mem_or_eq_of_mem_set mq
      · exact seats y my q mq
      · exact ok
    · exact seats y my

/-! ## The five edits -/

/-- An edit of a bank that keeps it lawful in every state. -/
def BankOp.Lawful (op : BankOp) : Prop :=
  ∀ (s : State) (b c : List Vehicle) (data : List Byte), BankOk b → op s b = .taken c data → BankOk c

theorem lawful_declareIn (id type slot : Nat) : BankOp.Lawful (declareIn id type slot) := by
  intro s b c data ⟨size, once, total, seats⟩ e
  unfold declareIn at e
  split at e
  · cases e
  · next known =>
    split at e
    · cases e
    · split at e
      · cases e
      · next full =>
        cases e
        have new : ∀ v ∈ b, v.id ≠ id := vehicleIn_eq_none.mp (by simpa using known)
        refine ⟨by simpa using full, ?_, ?_, fun v m => ?_⟩
        · rw [List.map_append, List.nodup_append]
          refine ⟨once, by simp, fun x mx y my q => ?_⟩
          obtain ⟨v, mv, rfl⟩ := List.mem_map.mp mx
          exact new v mv (q.trans (by simpa using my))
        · simpa [segmentCount, Vehicle.count] using total
        · obtain m | m := List.mem_append.mp m
          · exact seats v m
          · obtain rfl := List.mem_singleton.mp m
            intro l ml
            exact List.eq_of_mem_replicate ml ▸ seatOk_nil

theorem lawful_removeIn (id : Nat) : BankOp.Lawful (removeIn id) := by
  intro s b c data h e
  unfold removeIn at e
  split at e
  · cases e
  · cases e
    exact h.filter _

theorem lawful_addIn (id seat : Nat) (g : Segment) : BankOp.Lawful (addIn id seat g) := by
  intro s b c data h e
  unfold addIn at e
  split at e
  · cases e
  · next v found =>
    split at e
    · cases e
    · next l at_ =>
      have ok : SeatOk l := h.2.2.2 v (vehicleIn_mem found).1 l (List.mem_of_getElem? at_)
      split at e
      · cases e
      · next wide =>
        split at e
        · cases e
        · split at e
          · cases e
          · split at e
            · cases e
            · next apart =>
              split at e
              · cases e
              · next free =>
                split at e
                · cases e
                · cases e
                  have clear : ∀ x ∈ l, x.overlaps g.fromIx g.toIx = false := by simpa using apart
                  have one : (insertSegment g l).length = l.length + 1 := (insertSegment_perm g l).length_eq
                  exact h.setSeat found at_ (ok.insert (not_le.mp wide) clear (not_le.mp free)) (by omega)

theorem lawful_dropIn (id seat fromIx : Nat) : BankOp.Lawful (dropIn id seat fromIx) := by
  intro s b c data h e
  unfold dropIn at e
  split at e
  · cases e
  · next v found =>
    split at e
    · cases e
    · next l at_ =>
      split_ifs at e
      cases e
      have ok : SeatOk l := h.2.2.2 v (vehicleIn_mem found).1 l (List.mem_of_getElem? at_)
      have few := (List.eraseP_sublist (p := fun x => decide (x.fromIx = fromIx)) (l := l)).length_le
      have total : segmentCount b ≤ Config.maxBankSegments := h.2.2.1
      exact h.setSeat found at_ (ok.sublist List.eraseP_sublist) (by omega)

theorem lawful_clearIn (id seat : Nat) : BankOp.Lawful (clearIn id seat) := by
  intro s b c data h e
  unfold clearIn at e
  split at e
  · cases e
  · next v found =>
    split at e
    · cases e
    · next l at_ =>
      cases e
      have total : segmentCount b ≤ Config.maxBankSegments := h.2.2.1
      exact h.setSeat found at_ seatOk_nil (by simp; omega)

/-! ## The store -/

/-- Both banks are lawful when the live and the staging bank are (R87). -/
theorem banksOk_iff : BanksOk r ↔ BankOk r.liveBank ∧ BankOk r.stagingBank ∧ (r.staging = .closed → r.stagingBank = []) := by
  have both : BankOk r.bank0 ∧ BankOk r.bank1 ↔ BankOk r.liveBank ∧ BankOk r.stagingBank := by
    unfold Rs.liveBank Rs.stagingBank
    cases r.live
    · exact Iff.rfl
    · exact and_comm
  constructor
  · rintro ⟨bank0, bank1, closed⟩
    obtain ⟨live, staging⟩ := both.mp ⟨bank0, bank1⟩
    exact ⟨live, staging, closed⟩
  · rintro ⟨live, staging, closed⟩
    obtain ⟨bank0, bank1⟩ := both.mpr ⟨live, staging⟩
    exact ⟨bank0, bank1, closed⟩

theorem BanksOk.bank (h : BanksOk r) (n : BankNo) : BankOk (r.bank n) := by
  obtain ⟨bank0, bank1, -⟩ := h
  cases n
  · exact bank0
  · exact bank1

theorem BanksOk.purged (h : BanksOk r) (indices : List (Nat × Nat)) : BanksOk (r.purged indices) := by
  obtain ⟨live, staging, closed⟩ := banksOk_iff.mp h
  refine banksOk_iff.mpr ⟨?_, ?_, fun c => ?_⟩
  · rw [Rs.purged_liveBank]
    exact live.purge indices
  · rw [Rs.purged_stagingBank]
    split_ifs
    · exact staging.purge indices
    · exact staging
  · rw [Rs.purged_staging] at c
    rw [Rs.purged_stagingBank, closed c]
    simp

theorem BanksOk.switch (h : BanksOk r) : BanksOk r.switch := by
  obtain ⟨-, staging, -⟩ := banksOk_iff.mp h
  refine banksOk_iff.mpr ⟨?_, ?_, fun _ => r.switch_stagingBank⟩
  · rwa [Rs.switch_liveBank]
  · rw [Rs.switch_stagingBank]
    exact bankOk_nil

theorem BanksOk.deleteVehicles (h : BanksOk r) (ids : List Nat) : BanksOk (r.deleteVehicles ids) := by
  obtain ⟨live, staging, closed⟩ := banksOk_iff.mp h
  refine banksOk_iff.mpr ⟨?_, ?_, fun c => ?_⟩
  · rw [Rs.deleteVehicles_liveBank]
    exact live.filter _
  · rw [Rs.deleteVehicles_stagingBank]
    split_ifs
    · exact staging.filter _
    · exact staging
  · rw [Rs.deleteVehicles_staging] at c
    rw [Rs.deleteVehicles_stagingBank, closed c]
    simp [withoutVehicles]

/-- The live bank replaced by a lawful one. -/
theorem BanksOk.setLive (h : BanksOk r) (ok : BankOk b) : BanksOk (r.setBank r.live b) := by
  obtain ⟨-, staging, closed⟩ := banksOk_iff.mp h
  refine banksOk_iff.mpr ⟨?_, ?_, fun c => ?_⟩
  · rwa [Rs.liveBank_setBank_live]
  · rwa [Rs.stagingBank_setBank_live]
  · rw [Rs.stagingBank_setBank_live]
    exact closed (by simpa using c)

/-- The staging bank replaced by a lawful one, or emptied (R97). -/
theorem BanksOk.setStaging (h : BanksOk r) (ok : BankOk b) (open_ : r.staging = .closed → b = []) :
    BanksOk (r.setBank r.live.other b) := by
  obtain ⟨live, -, -⟩ := banksOk_iff.mp h
  refine banksOk_iff.mpr ⟨?_, ?_, fun c => ?_⟩
  · rwa [Rs.liveBank_setBank_other]
  · rwa [Rs.stagingBank_setBank_other]
  · rw [Rs.stagingBank_setBank_other]
    exact open_ (by simpa using c)

/-- A recorded purge or deletion keeps a bank lawful (R100). -/
theorem BankOk.recorded (h : BankOk b) (l : List Recorded) : BankOk (l.foldl (fun b x => x.apply b) b) := by
  induction l generalizing b with
  | nil => exact h
  | cons x l ih =>
    refine ih ?_
    cases x with
    | purge indices => exact h.purge indices
    | delete ids => exact h.filter _

end Sys2Proof.Machine
end

section
/-! Both banks kept lawful by every request, every event and so every step (R87 to R89, R97): statement O59. -/

namespace Sys2Proof.Machine

variable {s t : State} {r : Rs}

/-! ## Splits, departures and the coach slot -/

theorem checkSplit_banksOk (unit : Nat) (h : BanksOk s.rs) : BanksOk (checkSplit unit s).rs := by
  unfold checkSplit
  split_ifs
  · rw [completeSplit_rs]
    exact h.deleteVehicles _
  · exact h

theorem departBanks_banksOk (d : Nat) (h : BanksOk s.rs) : BanksOk (departBanks d s).rs := by
  by_cases due : ∃ i ∈ s.rs.staging.trigger, i ≤ d
  · obtain ⟨i, m, l⟩ := due
    rw [departBanks_rs_due m l]
    exact h.switch.purged _
  · rw [departBanks_rs_kept fun i m => not_le.mp fun l => due ⟨i, m, l⟩]
    exact h.purged _

theorem departureEvent_banksOk (d : Nat) (h : BanksOk s.rs) : BanksOk (departureEvent d s).rs := by
  rw [departureEvent_rs]
  exact departBanks_banksOk d h

theorem assignPurge_banksOk (unit slot : Nat) (h : BanksOk s.rs) : BanksOk (assignPurge unit slot s).rs := by
  rw [assignPurge_rs]
  exact h.purged _

theorem slotMissed_banksOk (id : Nat) (h : BanksOk s.rs) : BanksOk (slotMissed id s).rs := by
  unfold slotMissed
  split
  · exact h
  · dsimp only
    split
    · split_ifs <;> simpa using h
    · split_ifs <;> simpa using h
    · split_ifs <;> simpa using h
    · split_ifs
      · exact checkSplit_banksOk _ (by simpa using h)
      · exact h

theorem slotEnd_banksOk (h : BanksOk s.rs) : BanksOk (slotEnd s).rs := by
  have outcome (id : Nat) (a : Option NodeAnswer) : BanksOk (consistOutcome id a (runTo 2000 s)).rs := by
    unfold consistOutcome
    split
    · exact h
    · simpa using h
    · exact slotMissed_banksOk _ h
  unfold slotEnd
  split
  · dsimp only
    split
    · simp only [State.setBc_rs, slotOutcome, State.setSup_rs, composerOutcome_rs]
      exact outcome _ _
    · exact h
  · exact h

theorem windowExpiry_banksOk (h : BanksOk s.rs) : BanksOk (windowExpiry s).rs := by
  have departed : BanksOk (windowDeparture (windowMoved s)).rs := by
    have moved : BanksOk (windowMoved s).rs := (windowMoved_rs s).symm ▸ h
    unfold windowDeparture
    split
    · split_ifs
      · exact departureEvent_banksOk _ (by simpa [formEta_rs] using moved)
      · exact moved
    · exact moved
  rw [windowExpiry_eq, formPositions_rs, windowNotice_rs]
  exact (formEta_rs _).symm ▸ departed

/-! ## The edits of a bank -/

theorem tell_rs (told : Told) (s : State) : (tell told s).rs = s.rs := by
  cases told <;> simp [tell]

/-- A staging bank that mirrors is not the empty one of CLOSED (R97). -/
theorem Staging.ne_closed_of_mirrored {x : Staging} (h : x.mirrored = true) : x ≠ .closed := by
  rintro rfl
  cases h

theorem mirrorEdit_banksOk {op : BankOp} (lawful : op.Lawful) (h : BanksOk s.rs) : BanksOk (mirrorEdit op s).1.rs := by
  obtain ⟨-, staging, -⟩ := banksOk_iff.mp h
  unfold mirrorEdit
  split
  · next mirrored =>
    split
    · next taken =>
      exact h.setStaging (lawful _ _ _ _ staging taken) fun c => absurd c (Staging.ne_closed_of_mirrored mirrored)
    · exact h
  · exact h

theorem editBank_banksOk {op : BankOp} (lawful : op.Lawful) (bad : Bool) (target : Nat) (told : Told) (h : BanksOk s.rs) :
    BanksOk (editBank bad target op told s).state.rs := by
  unfold editBank
  split
  · exact h
  · next t _ =>
    split_ifs with _ shut
    · exact h
    · exact h
    · dsimp only
      split
      · exact h
      · next bank data taken =>
        have ok : BankOk bank := lawful _ _ _ _ (h.bank _) taken
        cases t with
        | staging => exact h.setStaging ok fun c => by simp [c, Target.edits] at shut
        | live => exact mirrorEdit_banksOk lawful (by rw [tell_rs]; exact h.setLive ok)

theorem doAddSegment_banksOk (bank id seat fromIx toIx kind : Nat) (label : Text) (h : BanksOk s.rs) :
    BanksOk (doAddSegment bank id seat fromIx toIx kind label s).state.rs := by
  unfold doAddSegment
  split
  · exact h
  · exact editBank_banksOk (lawful_addIn _ _ _) _ _ _ h

/-! ## Staging -/

/-- Another staging state beside the same banks: not CLOSED, so the staging bank need not be empty (R97). -/
theorem BanksOk.staged (h : BanksOk r) (x : Staging) (open_ : x ≠ .closed) (d : Bool) (l : List Recorded) :
    BanksOk { r with staging := x, diverged := d, recorded := l } := by
  obtain ⟨bank0, bank1, -⟩ := h
  exact ⟨bank0, bank1, fun c => absurd c open_⟩

theorem Staging.armed_ne_closed {x y : Staging} {t : Trigger} (h : x.armed t = some y) : y ≠ .closed := by
  cases x <;> cases h <;> nofun

theorem doOpenStagingEmpty_banksOk (h : BanksOk s.rs) : BanksOk (doOpenStagingEmpty s).state.rs := by
  unfold doOpenStagingEmpty
  split_ifs
  · exact h.staged .openEmpty nofun false s.rs.recorded
  · exact h

theorem doOpenStagingCopy_banksOk (h : BanksOk s.rs) : BanksOk (doOpenStagingCopy s).state.rs := by
  obtain ⟨live, -⟩ := banksOk_iff.mp h
  unfold doOpenStagingCopy
  split_ifs
  · refine banksOk_iff.mpr ⟨?_, ?_, nofun⟩
    · exact (Rs.liveBank_setBank_other s.rs _).symm ▸ live
    · exact (Rs.stagingBank_setBank_other s.rs _).symm ▸ live
  · exact h

theorem doArmStagingImmediate_banksOk (h : BanksOk s.rs) : BanksOk (doArmStagingImmediate s).state.rs := by
  unfold doArmStagingImmediate
  split
  · exact h
  · next x armed =>
    rw [done_state, switchBanks_rs]
    exact (h.staged x (Staging.armed_ne_closed armed) _ _).switch

theorem doArmStaging_banksOk (trigger : Nat) (h : BanksOk s.rs) : BanksOk (doArmStaging trigger s).state.rs := by
  unfold doArmStaging
  split_ifs
  · exact doArmStagingImmediate_banksOk h
  · exact h
  · unfold armAt
    split
    · exact h
    · next x armed =>
      split
      · exact h
      · exact h.staged x (Staging.armed_ne_closed armed) _ _

theorem doDisarmStaging_banksOk (h : BanksOk s.rs) : BanksOk (doDisarmStaging s).state.rs := by
  unfold doDisarmStaging
  split
  · exact h.staged .openEmpty nofun _ _
  · exact h.staged .openCopy nofun _ _
  · exact h

theorem doAbandonStaging_banksOk (h : BanksOk s.rs) : BanksOk (doAbandonStaging s).state.rs := by
  unfold doAbandonStaging
  split_ifs
  · obtain ⟨live, -⟩ := banksOk_iff.mp h
    have emptied := Rs.stagingBank_setBank_other s.rs []
    refine banksOk_iff.mpr ⟨?_, ?_, fun _ => emptied⟩
    · exact (Rs.liveBank_setBank_other s.rs []).symm ▸ live
    · exact emptied.symm ▸ bankOk_nil
  · exact h

theorem completeCopy_banksOk (h : BanksOk s.rs) : BanksOk (completeCopy s).rs := by
  obtain ⟨live, staging, -⟩ := banksOk_iff.mp h
  unfold completeCopy
  dsimp only
  split_ifs
  · rw [finishHead_rs]
    refine banksOk_iff.mpr ⟨?_, ?_, nofun⟩
    · exact (Rs.liveBank_setBank_other s.rs _).symm ▸ live
    · exact (Rs.stagingBank_setBank_other s.rs _).symm ▸ staging.recorded s.rs.recorded
  · exact h

/-! ## Every request, every event, every step -/

theorem doAssignUnitHome_banksOk (unit slot index partAt : Nat) (h : BanksOk s.rs) :
    BanksOk (doAssignUnitHome unit slot index partAt s).state.rs := by
  unfold doAssignUnitHome
  dsimp only
  split_ifs
  · exact h
  · exact h
  · exact h
  · exact h
  · exact h
  · exact h
  · exact assignPurge_banksOk _ _ (by simpa using h)

theorem doAssignUnit_banksOk (unit slot index partAt : Nat) (h : BanksOk s.rs) :
    BanksOk (doAssignUnit unit slot index partAt s).state.rs := by
  unfold doAssignUnit
  split
  · split
    · exact h
    · exact assignPurge_banksOk _ _ (by simpa using h)
  · exact h

theorem doDeparted_banksOk (h : BanksOk s.rs) : BanksOk (doDeparted s).state.rs := by
  unfold doDeparted
  split
  · exact departureEvent_banksOk _ (by simpa using h)
  · exact h
  · exact h

theorem doSplit_banksOk (unit : Nat) (h : BanksOk s.rs) : BanksOk (doSplit unit s).state.rs := by
  unfold doSplit
  split
  · split
    · exact h
    · split
      · exact h
      · split
        · exact h
        · exact checkSplit_banksOk _ (by simpa using h)
  · exact h

theorem act_banksOk (c : Instr) (s : State) (h : BanksOk s.rs) : BanksOk (act c s).state.rs := by
  cases m : movesStore c with
  | false => rwa [act_rs s m]
  | true =>
    cases c with
    | assignUnitHome => exact doAssignUnitHome_banksOk _ _ _ _ h
    | assignUnit => exact doAssignUnit_banksOk _ _ _ _ h
    | departed => exact doDeparted_banksOk h
    | split => exact doSplit_banksOk _ h
    | declareVehicle => exact editBank_banksOk (lawful_declareIn _ _ _) _ _ _ h
    | removeVehicle => exact editBank_banksOk (lawful_removeIn _) _ _ _ h
    | addSegment => exact doAddSegment_banksOk _ _ _ _ _ _ _ h
    | dropSegment => exact editBank_banksOk (lawful_dropIn _ _ _) _ _ _ h
    | clearSeat => exact editBank_banksOk (lawful_clearIn _ _) _ _ _ h
    | openStagingEmpty => exact doOpenStagingEmpty_banksOk h
    | openStagingCopy => exact doOpenStagingCopy_banksOk h
    | armStaging => exact doArmStaging_banksOk _ h
    | armStagingImmediate => exact doArmStagingImmediate_banksOk h
    | disarmStaging => exact doDisarmStaging_banksOk h
    | abandonStaging => exact doAbandonStaging_banksOk h
    | _ => cases m

/-- Three events may change the store: the end of a copy, a window with a departure, and a slot that ends a split. -/
theorem blockEvent_banksOk (c : Instr) (s : State) (h : BanksOk s.rs) : BanksOk (blockEvent c s).rs := by
  cases c with
  | copyCompletion => exact completeCopy_banksOk h
  | odometerWindowExpiry => exact windowExpiry_banksOk h
  | coachSlotEnd => exact slotEnd_banksOk h
  | _ => simpa [blockEvent, pulse] using h

theorem banksOk_reset : BanksOk .reset := ⟨bankOk_nil, bankOk_nil, fun _ => rfl⟩

/-- What sees only the Reservation Store sees nothing of the link. -/
theorem unlinked_rs (P : Rs → Prop) : Unlinked fun s => P s.rs :=
  ⟨fun _ _ _ _ h => h, fun _ _ h => h, fun _ _ h => h, fun _ _ h => h⟩

/-- Settles O59: both banks are kept by the requests, the events and the resets, and so by every step. -/
theorem everyStepKeepsTheBanksLawful : Obligations.EveryStepKeepsTheBanksLawful := by
  unfold Obligations.EveryStepKeepsTheBanksLawful
  exact fun _ _ h x => (unlinked_rs BanksOk).step act_banksOk blockEvent_banksOk (fun _ _ => banksOk_reset)
    (fun _ _ => banksOk_reset) (fun _ h => h) h x

end Sys2Proof.Machine
end

section
/-! The staging table (R97, R98, R101, R103, R104): statement O43. -/

namespace Sys2Proof.Machine

variable {c : Instr} {kind tag : Nat} {s : State}

/-- A request whose DONE changes the Reservation Store alone. -/
theorem exec_done_rs (h : Free s) (k : c.request = some (kind, tag)) (l : requestKinds.contains kind = true) {r : Rs}
    {data : List Byte} (a : ∀ q, act c (s.withQueue q) = done ((s.withQueue q).setRs r) data) :
    exec c s = .next (answered kind tag (some c) .done data (s.setRs r)) :=
  exec_now h k l a h.1 h.2.2.1

/-! ## ARM STAGING at an index (R101) -/

/-- The least home index at which a switch may be armed (R101). -/
def Jt.leastTrigger (j : Jt) : Option Nat :=
  match j.phase with
  | .atStop c => some c
  | .running c => some (c + 1)
  | _ => none

theorem armCheck_eq (i : Nat) (s : State) : armCheck i s = match s.jt.leastTrigger with
    | none => some .wrongState
    | some m => if s.jt.homeLast ≤ i ∨ i < m then some .outOfRange else none := by
  unfold armCheck Jt.leastTrigger
  cases s.jt.phase with
  | noJourney | terminated => rfl
  | atStop c => exact (ite_or ..).symm
  | running c => simp only [Nat.lt_succ_iff, ite_or]

theorem exec_armStaging (h : Free s) {i : Nat} (home : i ≠ 0xFF) : exec (.armStaging tag i) s = .next (
    let reply := answered 0x39 tag (some (.armStaging tag i))
    if 39 < i then reply .badField [] s
    else match s.rs.staging, s.jt.leastTrigger with
      | .openEmpty, some m =>
        if s.jt.homeLast ≤ i ∨ i < m then reply .outOfRange [] s
        else reply .done [] (s.setRs { s.rs with staging := .armedEmpty (.home i) })
      | .openCopy, some m =>
        if s.jt.homeLast ≤ i ∨ i < m then reply .outOfRange [] s
        else reply .done [] (s.setRs { s.rs with staging := .armedCopy (.home i) })
      | _, _ => reply .wrongState [] s) := by
  have act_eq (q : List Queued) : act (.armStaging tag i) (s.withQueue q) =
      if 39 < i then refuse (s.withQueue q) .badField else armAt i (s.withQueue q) := if_neg home
  dsimp only
  split
  · exact exec_refused h rfl rfl fun q => (act_eq q).trans (if_pos ‹_›)
  · have armed (q : List Queued) := (act_eq q).trans (if_neg ‹_›)
    have check (q : List Queued) : armCheck i (s.withQueue q) = armCheck i s := rfl
    simp only [armAt, State.withQueue_rs, check, armCheck_eq i s] at armed
    cases state : s.rs.staging with
    | closed | copying | armedEmpty | armedCopy =>
      rw [state] at armed
      exact exec_refused h rfl rfl armed
    | openEmpty | openCopy =>
      simp only [state, Staging.armed] at armed
      cases least : s.jt.leastTrigger with
      | none =>
        rw [least] at armed
        exact exec_refused h rfl rfl armed
      | some m =>
        rw [least] at armed
        dsimp only at armed ⊢
        split_ifs with far
        · simp only [if_pos far] at armed
          exact exec_refused h rfl rfl armed
        · simp only [if_neg far] at armed
          exact exec_done_rs h rfl rfl armed

/-! ## The other requests of the table -/

theorem exec_openStagingEmpty (h : Free s) : exec (.openStagingEmpty tag) s = .next (
    if s.rs.staging = .closed then answered 0x37 tag (some (.openStagingEmpty tag)) .done []
      (s.setRs { s.rs with staging := .openEmpty, diverged := false })
    else answered 0x37 tag (some (.openStagingEmpty tag)) .wrongState [] s) := by
  split_ifs with closed
  · exact exec_done_rs h rfl rfl fun q => if_pos closed
  · exact exec_refused h rfl rfl fun q => if_neg closed

theorem exec_disarmStaging (h : Free s) :
    let reply := answered 0x3A tag (some (.disarmStaging tag))
    exec (.disarmStaging tag) s = .next (
      match s.rs.staging with
      | .armedEmpty _ => reply .done [] (s.setRs { s.rs with staging := .openEmpty })
      | .armedCopy _ => reply .done [] (s.setRs { s.rs with staging := .openCopy })
      | _ => reply .wrongState [] s) := by
  have act_eq (q : List Queued) : act (.disarmStaging tag) (s.withQueue q) = doDisarmStaging (s.withQueue q) := rfl
  simp only [doDisarmStaging, State.withQueue_rs] at act_eq
  dsimp only
  cases state : s.rs.staging with
  | armedEmpty | armedCopy =>
    rw [state] at act_eq
    exact exec_done_rs h rfl rfl act_eq
  | closed | copying | openEmpty | openCopy =>
    rw [state] at act_eq
    exact exec_refused h rfl rfl act_eq

/-- Neither OPEN nor ARMED is CLOSED or COPYING (R97). -/
theorem Staging.open?_eq_false {x : Staging} : x.open? = false ↔ x = .closed ∨ x = .copying := by
  cases x <;> simp [Staging.open?]

theorem exec_abandonStaging (h : Free s) :
    let reply := answered 0x3B tag (some (.abandonStaging tag))
    exec (.abandonStaging tag) s = .next (
      if s.rs.staging = .closed ∨ s.rs.staging = .copying then reply .wrongState [] s
      else reply .done (u16 (s.rs.stagingBank.map fun v => (v.seats.map List.length).sum).sum)
        (s.setRs { s.rs.setBank s.rs.live.other [] with staging := .closed, diverged := false })) := by
  dsimp only
  split_ifs with shut
  · exact exec_refused h rfl rfl fun q => if_neg (by simp [Staging.open?_eq_false.mpr shut])
  · exact exec_done_rs h rfl rfl fun q => if_pos (by simpa using Staging.open?_eq_false.not.mpr shut)

/-- Settles O43, request by request. -/
theorem stagingFollowsItsTable : Obligations.StagingFollowsItsTable := by
  unfold Obligations.StagingFollowsItsTable
  exact fun tag s h => ⟨exec_openStagingEmpty h, fun i home => exec_armStaging h home, exec_disarmStaging h, exec_abandonStaging h⟩

end Sys2Proof.Machine
end

section
/-! The agreement check entry by entry (R116, R117): what it gives to the entries of an identity, and that it leaves every other
entry as it was. -/

namespace Sys2Proof.Machine

variable {s t : State} {id : Nat} {e : Entry}

/-- The agreement status depends on the journey alone, beside the bank and the coach. -/
theorem agreement_congr {x : Entry} (jt : t.jt = s.jt) (coach : e.coach = x.coach) (bank : List Vehicle) :
    agreement t bank e = agreement s bank x := by
  unfold agreement agreementWith
  rw [jt, coach]

/-- The list after a mark of blocks is the list entry by entry. -/
theorem markBlocks_list (pick : Entry → BlockKind → Bool) (s : State) : (markBlocks pick s).cm.list =
    revisedList (fun e k => if (e.blocks.get k).valid && pick e k then .mark else .keep) s := by simp [markBlocks]

/-- The list entry by entry after the agreement check of an identity: the entries of the identity hold the status with the
live bank, and the others are as they were. -/
def Rechecked (id : Nat) (s t : State) : Prop := ∃ g : Entry → Entry, t.cm.list = s.cm.list.map g
  ∧ ∀ e ∈ s.cm.list, (g e).coach = e.coach ∧ (e.coach.id = id → (g e).agree = agreement s s.rs.liveBank e)
    ∧ (e.coach.id ≠ id → g e = e)

theorem rechecked_updateEntry {a : Agreement} (right : ∀ e ∈ s.cm.list, e.coach.id = id → agreement s s.rs.liveBank e = a) :
    Rechecked id s (updateEntry id (fun e => { e with agree := a }) s) := by
  refine ⟨_, rfl, fun e m => ⟨?_, fun i => ?_, fun i => if_neg i⟩⟩
  · split <;> rfl
  · rw [if_pos i, right e m i]

/-- Marking the seats of the identity's entries comes on top of the check. -/
theorem Rechecked.markSeats (h : Rechecked id s t) : Rechecked id s (markSeats (fun e => e.coach.id = id) t) := by
  obtain ⟨g, list, each⟩ := h
  refine ⟨_, (markBlocks_list ..).trans ((congrArg _ list).trans List.map_map), fun e m => ?_⟩
  obtain ⟨coach, own, other⟩ := each e m
  refine ⟨coach, own, fun i => ?_⟩
  have keep (k : BlockKind) : (if ((g e).blocks.get k).valid && (decide ((g e).coach.id = id) && k.isSeat) then BlockEffect.mark
      else .keep) = .keep := if_neg (by simp [coach, i])
  simp only [Function.comp_apply, keep]
  exact other i

/-- The agreement check of an identity (R116, R117). -/
theorem rechecked_checkEntry (d : s.cm.Distinct) (id : Nat) : Rechecked id s (checkEntry id s) := by
  unfold checkEntry
  split
  · next none_ =>
    refine ⟨fun e => e, (List.map_id _).symm, fun e m => ⟨rfl, fun i => ?_, fun _ => rfl⟩⟩
    exact absurd i (by simpa using List.find?_eq_none.mp none_ e m)
  · next x at_ =>
    have x_id : x.coach.id = id := by simpa using List.find?_some at_
    have updated : Rechecked id s (updateEntry id (fun e => { e with agree := agreement s s.rs.liveBank x }) s) :=
      rechecked_updateEntry fun e m i => by rw [d.mem_unique m (List.mem_of_find?_eq_some at_) (x_id.trans i.symm)]
    dsimp only
    split_ifs
    · exact updated
    · exact updated.markSeats
    · exact updated.markSeats

/-- An entry after the check holds the status of the live bank, or is not of the identity and was in the list before. -/
theorem Rechecked.mem (h : Rechecked id s t) (jt : t.jt = s.jt) (m : e ∈ t.cm.list) :
    (e.coach.id = id ∧ e.agree = agreement t s.rs.liveBank e) ∨ (e.coach.id ≠ id ∧ e ∈ s.cm.list) := by
  obtain ⟨g, list, each⟩ := h
  rw [list] at m
  obtain ⟨x, mx, rfl⟩ := List.mem_map.mp m
  obtain ⟨coach, own, other⟩ := each x mx
  by_cases i : x.coach.id = id
  · exact .inl ⟨coach ▸ i, (own i).trans (agreement_congr jt coach _).symm⟩
  · rw [other i]
    exact .inr ⟨i, mx⟩

theorem checkEntry_distinct (d : s.cm.Distinct) (id : Nat) : (checkEntry id s).cm.Distinct := by
  obtain ⟨g, list, each⟩ := rechecked_checkEntry d id
  unfold Cm.Distinct at d ⊢
  rw [list, List.map_map]
  exact (congrArg List.Nodup (List.map_congr_left fun e m => congrArg Coach.id (each e m).1)).mpr d

/-- After the checks of a list of identities an entry holds the status of the live bank, or is of none of them and was in the
list before. -/
theorem mem_foldl_checkEntry (l : List Nat) (d : s.cm.Distinct) {e : Entry}
    (m : e ∈ (l.foldl (fun t id => checkEntry id t) s).cm.list) :
    e.agree = agreement s s.rs.liveBank e ∨ (e.coach.id ∉ l ∧ e ∈ s.cm.list) := by
  induction l generalizing s with
  | nil => exact .inr ⟨List.not_mem_nil, m⟩
  | cons id l ih =>
    obtain right | ⟨out, before⟩ := ih (checkEntry_distinct d id) m
    · rw [checkEntry_rs, agreement_congr (checkEntry_jt id s) rfl] at right
      exact .inl right
    · obtain ⟨-, right⟩ | ⟨ne, mem⟩ := (rechecked_checkEntry d id).mem (checkEntry_jt id s) before
      · rw [agreement_congr (checkEntry_jt id s) rfl] at right
        exact .inl right
      · exact .inr ⟨List.not_mem_cons_of_ne_of_not_mem ne out, mem⟩

/-- The agreement check of every entry (R117). -/
theorem agree_of_checkAgreement (d : s.cm.Distinct) (m : e ∈ (checkAgreement (fun _ => true) s).cm.list) :
    e.agree = agreement s s.rs.liveBank e := by
  obtain right | ⟨out, mem⟩ := mem_foldl_checkEntry _ d m
  · exact right
  · rw [List.filter_true] at out
    exact absurd (List.mem_map_of_mem mem) out

end Sys2Proof.Machine
end

section
/-! The copy of the live bank and the switch at once (R99, R100, R102, R109): statement O44. -/

namespace Sys2Proof.Machine

variable {c : Instr} {kind tag : Nat} {s t u : State} {e : Entry}

/-! ## OPEN STAGING COPY and its completion (R99, R100) -/

theorem exec_openStagingCopy (h : Free s) : exec (.openStagingCopy tag) s = .next (
    if s.rs.staging = .closed then
      (s.setRs { s.rs.setBank s.rs.live.other s.rs.liveBank with
        staging := .copying, diverged := false, recorded := [] }).withQueue
        [{ kind := 0x38, tag := tag, command := some (.openStagingCopy tag), state := .handling }]
    else answered 0x38 tag (some (.openStagingCopy tag)) .wrongState [] s) := by
  split_ifs with closed
  · have act_eq : act (.openStagingCopy tag) (handling 0x38 tag (some (.openStagingCopy tag)) s) = .later
        ((handling 0x38 tag (some (.openStagingCopy tag)) s).setRs { s.rs.setBank s.rs.live.other s.rs.liveBank with
          staging := .copying, diverged := false, recorded := [] }) := if_pos closed
    rw [exec_later h rfl rfl act_eq]
    exact congrArg Host.Outcome.next (State.setDc_advanced h.2.2.2.2)
  · exact exec_refused h rfl rfl fun q => if_neg closed

theorem exec_copyCompletion (r : s.clc.ready ≠ .held) (d : s.dc.advanced = []) :
    exec .copyCompletion s = .next ((completeCopy s).setDc { (completeCopy s).dc with advanced := [] }) :=
  congrArg Host.Outcome.next (event_running (f := completeCopy) r d)

theorem exec_copyCompletion_outside (r : s.clc.ready ≠ .held) (d : s.dc.advanced = []) (outside : s.rs.staging ≠ .copying) :
    exec .copyCompletion s = .next s := by
  rw [exec_copyCompletion r d, completeCopy, if_neg outside, State.setDc_advanced d]

/-- The completion with the request still handled (R100). -/
theorem exec_copyCompletion_copying (r : s.clc.ready ≠ .held) (d : s.dc.advanced = []) (copying : s.rs.staging = .copying)
    {q : Queued} {rest : List Queued} (at_ : s.clc.queue = q :: rest) (handled : q.state = .handling) {bank : List Vehicle}
    (copied : s.rs.recorded.foldl (fun b x => x.apply b) s.rs.stagingBank = bank) :
    ∃ t, exec .copyCompletion s = .next t
      ∧ t.rs = { s.rs.setBank s.rs.live.other bank with staging := .openCopy, diverged := false, recorded := [] }
      ∧ t.clc.queue = { q with state := .replying } :: rest
      ∧ t.clc.replies = s.clc.replies ++ [replyTo q.kind q.tag .done (u8 bank.length ++ u16 (segmentCount bank))]
      ∧ t.jt = s.jt ∧ t.cm = s.cm ∧ t.dc = s.dc ∧ t.bc = s.bc ∧ t.sup = s.sup := by
  subst copied
  let bank := s.rs.recorded.foldl (fun b x => x.apply b) s.rs.stagingBank
  let filled := s.setRs { s.rs.setBank s.rs.live.other bank with staging := .openCopy, diverged := false, recorded := [] }
  have completes : completeCopy s = finishHead .done (u8 bank.length ++ u16 (segmentCount bank)) filled := if_pos copying
  obtain ⟨queue, replies⟩ := finishHead_of_handling (s := filled) at_ handled .done (u8 bank.length ++ u16 (segmentCount bank))
  refine ⟨_, exec_copyCompletion r d, ?_⟩
  rw [completes]
  refine ⟨finishHead_rs .., queue, replies, finishHead_jt .., finishHead_cm .., ?_, finishHead_bc .., finishHead_sup ..⟩
  rw [State.setDc_dc, finishHead_dc]
  exact congrArg State.dc (State.setDc_advanced d)

/-! ## The report of the switch (R109, R206) -/

/-- The only report waiting is the next to send, whatever its class (R217). -/
theorem Clc.nextReport_single {c : Clc} {r : Report} (single : c.reports = [r]) : c.nextReport = some r := by
  have ranked : r.cls ∈ c.order.ranking := by
    cases c.order <;> cases r.cls <;> decide
  unfold Clc.nextReport
  rw [single]
  cases next : c.order.ranking.findSome? fun k => [r].find? fun x => x.cls = k with
  | none => simpa using List.findSome?_eq_none_iff.mp next _ ranked
  | some x =>
    obtain ⟨k, -, found⟩ := List.exists_of_findSome?_eq_some next
    exact congrArg some (List.mem_singleton.mp (List.mem_of_find?_eq_some found))

/-- An IDLE transmitter takes a report raised when none waited and no reply did, with the overflow mark and drop count as
they stand (R206, R216, log entry 6). -/
theorem raise_taken (ready : s.clc.ready = .up) (idle : s.clc.tx = .idle) (replies : s.clc.replies = [])
    (reports : s.clc.reports = []) {cls : ReportClass} (on : s.clc.enabled.has cls = true) (code subject : Nat)
    (data : List Byte) : (raise cls code subject data s).clc.tx
      = .report { cls := cls, code := code, subject := subject, data := data } s.clc.overflow s.clc.drops := by
  let r : Report := { cls := cls, code := code, subject := subject, data := data }
  have queued : s.clc.enqueue r = { s.clc with reports := [r] } := by
    simp [Clc.enqueue, r, on, reports, Config.maxReports]
  show (s.clc.enqueue r).transmit.tx = _
  rw [queued, Clc.transmit, if_pos (by simp [idle, ready]), Clc.takeNext]
  have next : ({ s.clc with reports := [r] } : Clc).nextReport = some r := Clc.nextReport_single rfl
  rw [replies, next]

/-- The shared operations leave a frame that is being sent (R206). -/
theorem shared_tx {x : Transmitter} (busy : x ≠ .idle) : Shared fun s => s.clc.tx = x where
  jt _ _ h := h
  rs _ _ h := h
  cm _ _ _ h := h
  advanced _ _ h := h
  abort test s h := (congrArg Clc.tx (abortIf_clc test s)).trans h
  alarms _ _ h := h
  raise cls code subject data s h := by
    rw [raise_reports (h ▸ busy), Clc.enqueue_tx]
    exact h

/-- The reply of the head waits while a frame is being sent (R206). -/
theorem replied_tx {r : ResultCode} {data : List Byte} (busy : u.clc.tx ≠ .idle) : (replied r data u).clc.tx = u.clc.tx := by
  show (finishHead r data u).clc.tx = _
  unfold finishHead
  split
  · split_ifs
    · show (Clc.transmit _).tx = _
      rw [Clc.transmit_of_busy (by exact busy)]
      rfl
    · rfl
  · rfl

/-! ## The switch (R109) -/

theorem Rs.switch_recorded (r : Rs) : r.switch.recorded = r.recorded := Rs.setBank_recorded r r.live []

/-- The report of a switch (R109, R226). -/
def Rs.switchReport (r : Rs) (code : Nat) (trigger departure : Option Nat) : Report :=
  { cls := .reservation, code := code, subject := 0, data := u8 r.live.other.code ++ index? trigger ++ index? departure }

theorem switchBanks_outline (code : Nat) (trigger departure : Option Nat) (s : State) :
    (switchBanks code trigger departure s).cm.outline = s.cm.outline :=
  (Cm.outline_of_unmarked (markSeats_unmarked ..)).trans (checkAgreement_outline ..)

/-- An entry of the list after a mark of blocks, its blocks kind by kind (R126). -/
theorem mem_markBlocks {pick : Entry → BlockKind → Bool} (m : e ∈ (markBlocks pick s).cm.list) :
    ∃ x ∈ s.cm.list, e.coach = x.coach ∧ e.agree = x.agree ∧ ∀ k, e.blocks.get k =
      (x.blocks.get k).after (s.dc.advanced.contains (x.coach.id, k))
        (if (x.blocks.get k).valid && pick x k then .mark else .keep) := by
  rw [markBlocks_list] at m
  obtain ⟨x, mx, rfl⟩ := List.mem_map.mp m
  exact ⟨x, mx, rfl, rfl, fun k => BlockSet.get_ofKinds ..⟩

/-- A kind picked is dirty when it is valid, whether or not the event had advanced it before (R126). -/
theorem dirty_of_marked {b c : Block} {already pick : Bool} (picked : pick = true)
    (h : c = b.after already (if b.valid && pick then .mark else .keep)) (valid : c.valid = true) : c.dirty = true := by
  subst h picked
  cases v : b.valid <;> simp_all [Block.after]

/-- Every list entry holds the status with the new live bank (R116, R117). -/
theorem agree_of_switchBanks {code : Nat} {trigger departure : Option Nat} (d : s.cm.Distinct)
    (m : e ∈ (switchBanks code trigger departure s).cm.list) : e.agree = agreement s s.rs.stagingBank e := by
  obtain ⟨x, mx, coach, agree, -⟩ := mem_markBlocks m
  rw [agree, agree_of_checkAgreement (s := raise .reservation code 0 _ (s.setRs s.rs.switch)) d mx, raise_rs, State.setRs_rs,
    Rs.switch_liveBank]
  exact (agreement_congr rfl coach _).symm

/-- Every valid SEAT block is dirty (R109, R128). -/
theorem dirty_of_switchBanks {code : Nat} {trigger departure : Option Nat}
    (m : e ∈ (switchBanks code trigger departure s).cm.list) {k : BlockKind} (seat : k.isSeat = true)
    (valid : (e.blocks.get k).valid = true) : (e.blocks.get k).dirty = true := by
  obtain ⟨x, -, -, -, blocks⟩ := mem_markBlocks m
  exact dirty_of_marked (Bool.true_and _ ▸ seat) (blocks k) valid

/-- The report of a switch that an IDLE transmitter takes (R109). -/
theorem switchBanks_tx (ready : s.clc.ready = .up) (idle : s.clc.tx = .idle) (replies : s.clc.replies = [])
    (reports : s.clc.reports = []) (on : s.clc.enabled.reservation = true) (code : Nat) (trigger departure : Option Nat) :
    (switchBanks code trigger departure s).clc.tx
      = .report (s.rs.switchReport code trigger departure) s.clc.overflow s.clc.drops := by
  have b := shared_tx (x := .report (s.rs.switchReport code trigger departure) s.clc.overflow s.clc.drops) nofun
  exact b.markSeats (b.checkAgreement (raise_taken (s := s.setRs s.rs.switch) ready idle replies reports
    (cls := .reservation) on code 0 _) _) _

/-! ## ARM STAGING IMMEDIATE (R102) -/

theorem Staging.armed_eq_none {x : Staging} {i : Trigger} (h : ¬ (x = .openEmpty ∨ x = .openCopy)) : x.armed i = none := by
  obtain ⟨empty, copy⟩ := not_or.mp h
  cases x with
  | openEmpty => exact absurd rfl empty
  | openCopy => exact absurd rfl copy
  | closed | copying | armedEmpty | armedCopy => rfl

theorem Staging.armed_eq_some {x : Staging} (i : Trigger) (h : x = .openEmpty ∨ x = .openCopy) : ∃ y, x.armed i = some y := by
  obtain rfl | rfl := h
  · exact ⟨_, rfl⟩
  · exact ⟨_, rfl⟩

theorem exec_armStagingImmediate_shut (h : Free s) (shut : ¬ (s.rs.staging = .openEmpty ∨ s.rs.staging = .openCopy)) :
    exec (.armStagingImmediate tag) s = .next (answered 0x39 tag (some (.armStagingImmediate tag)) .wrongState [] s) := by
  refine exec_refused h rfl rfl fun q => ?_
  show doArmStagingImmediate (s.withQueue q) = _
  rw [doArmStagingImmediate, State.withQueue_rs, Staging.armed_eq_none shut]

/-- The switch, done while the request is handled (R102, R109). -/
theorem exec_armStagingImmediate_open (h : Free s) {x : Staging} (armed : s.rs.staging.armed .immediate = some x) :
    exec (.armStagingImmediate tag) s = .next (replied .done (u8 s.rs.live.other.code)
      (switchBanks 1 none none (setStaging x (handling 0x39 tag (some (.armStagingImmediate tag)) s)))) := by
  refine exec_of_act h rfl rfl ?_
  show doArmStagingImmediate _ = _
  rw [doArmStagingImmediate, handling_rs, armed]
  simp only [switchBanks_rs, Rs.switch_live]
  rfl

/-- The state that ARM STAGING IMMEDIATE leaves (R102, R109). -/
theorem replied_switchBanks (h : Free s) (d : s.cm.Distinct) (x : Staging) :
    let t := replied .done (u8 s.rs.live.other.code)
      (switchBanks 1 none none (setStaging x (handling 0x39 tag (some (.armStagingImmediate tag)) s)))
    (t.rs.live = s.rs.live.other ∧ t.rs.staging = .closed ∧ t.rs.diverged = false ∧ t.rs.recorded = s.rs.recorded
      ∧ t.rs.liveBank = s.rs.stagingBank ∧ t.rs.stagingBank = [])
    ∧ (t.jt = s.jt ∧ t.dc = s.dc ∧ t.cm.outline = s.cm.outline ∧ AbortAtMost s t
      ∧ t.clc.replies = [replyTo 0x39 tag .done (u8 s.rs.live.other.code)])
    ∧ (∀ e ∈ t.cm.list, e.agree = agreement s s.rs.stagingBank e)
    ∧ (∀ e ∈ t.cm.list, ∀ k : BlockKind, k.isSeat = true → (e.blocks.get k).valid = true → (e.blocks.get k).dirty = true)
    ∧ (s.clc.reports = [] → s.clc.enabled.reservation = true →
        t.clc.tx = .report (s.rs.switchReport 1 none none) s.clc.overflow s.clc.drops) := by
  intro t
  let start := setStaging x (handling 0x39 tag (some (.armStagingImmediate tag)) s)
  have kept : Kept (handling 0x39 tag (some (.armStagingImmediate tag)) s) (switchBanks 1 none none start) :=
    (kept_setRs _ _).trans (kept_switchBanks ..)
  have rs : t.rs = start.rs.switch := replied_rs.trans (switchBanks_rs ..)
  have cm : t.cm = (switchBanks 1 none none start).cm := replied_cm
  refine ⟨?_, ⟨?_, replied_dc_kept h kept, ?_, abortAtMost_replied kept, replied_replies h kept⟩, fun e m => ?_,
    fun e m k seat valid => ?_, fun reports on => ?_⟩
  · rw [rs, Rs.switch_recorded, Rs.switch_liveBank, Rs.switch_stagingBank]
    exact ⟨rfl, rfl, rfl, rfl, rfl, rfl⟩
  · exact replied_jt.trans (switchBanks_jt ..)
  · rw [cm]
    exact switchBanks_outline ..
  · exact agree_of_switchBanks (s := start) d (cm ▸ m)
  · exact dirty_of_switchBanks (s := start) (cm ▸ m) seat valid
  · have sent := switchBanks_tx (s := start) h.1 h.2.2.2.1 h.2.2.1 reports on 1 none none
    exact (replied_tx (sent ▸ nofun)).trans sent

/-- The SEAT kinds are named by their numbers (R119). -/
theorem isSeat_of_mem {k : BlockKind} (h : k ∈ [BlockKind.seat0, .seat1, .seat2, .seat3, .seat4, .seat5]) :
    k.isSeat = true := by
  have all : ∀ k ∈ [BlockKind.seat0, .seat1, .seat2, .seat3, .seat4, .seat5], k.isSeat = true := by decide
  exact all k h

/-- Settles O44: the copy and its completion, and the switch at once, whose checks and marks reach every list entry. -/
theorem stagingIsCopiedAndSwitched : Obligations.StagingIsCopiedAndSwitched := by
  unfold Obligations.StagingIsCopiedAndSwitched
  refine ⟨fun tag s h => exec_openStagingCopy h, fun s r d => ?_, fun tag s h ok => ?_⟩
  · exact ⟨exec_copyCompletion_outside r d, fun q rest at_ copying handled => exec_copyCompletion_copying r d copying at_ handled
      (List.foldl_ext _ _ _ fun b x _ => by cases x <;> rfl)⟩
  · refine ⟨fun shut => exec_armStagingImmediate_shut h shut, fun opened => ?_⟩
    obtain ⟨x, armed⟩ := Staging.armed_eq_some .immediate opened
    obtain ⟨⟨live, staging, diverged, recorded, liveBank, stagingBank⟩, ⟨jt, dc, outline, abort, replies⟩, agree, dirty, sent⟩ :=
      replied_switchBanks (tag := tag) h (Cm.Distinct.of_consistOk ok) x
    exact ⟨_, exec_armStagingImmediate_open h armed, live, staging, diverged, recorded, liveBank, stagingBank, jt, dc, outline,
      abort, replies, agree, fun e m k seat => dirty e m k (isSeat_of_mem seat), sent⟩

end Sys2Proof.Machine
end

section
/-! One edit of a bank, whichever it is (R90, R96, R106): refused, taken on the staging bank, or taken on the live bank, handed on
and mirrored. -/

namespace Sys2Proof.Machine

variable {c : Instr} {kind tag target : Nat} {bad : Bool} {op : BankOp} {told : Told} {s t : State} {bank : List Vehicle}
  {data : List Byte} {r : ResultCode}

/-! ## The bank's own checks -/

/-- What an edit does to a bank depends on the journey and the type table alone, and a refusal is not DONE. -/
structure BankOp.Plain (op : BankOp) : Prop where
  congr : ∀ {a b : State}, a.jt = b.jt → a.cm.types = b.cm.types → op a = op b
  refuses : ∀ {s : State} {bank : List Vehicle} {data : List Byte}, op s bank ≠ .refused .done data

theorem plain_declareIn (id type slot : Nat) : (declareIn id type slot).Plain where
  congr _ types := by
    unfold declareIn Cm.typeOf
    rw [types]
  refuses h := by
    unfold declareIn at h
    repeat' split at h
    all_goals cases h

theorem plain_removeIn (id : Nat) : (removeIn id).Plain where
  congr _ _ := rfl
  refuses h := by
    unfold removeIn at h
    split at h
    all_goals cases h

theorem plain_addIn (id seat : Nat) (g : Segment) : (addIn id seat g).Plain where
  congr jt _ := by
    unfold addIn
    rw [jt]
  refuses h := by
    unfold addIn at h
    repeat' split at h
    all_goals cases h

theorem plain_dropIn (id seat fromIx : Nat) : (dropIn id seat fromIx).Plain where
  congr _ _ := rfl
  refuses h := by
    unfold dropIn at h
    repeat' split at h
    all_goals cases h

theorem plain_clearIn (id seat : Nat) : (clearIn id seat).Plain where
  congr _ _ := rfl
  refuses h := by
    unfold clearIn at h
    repeat' split at h
    all_goals cases h

/-! ## The state check and the bank (R90) -/

/-- The bank that an edit with a target edits (R87, R90). -/
def Rs.edited (r : Rs) (target : Nat) : List Vehicle := if target = 0 then r.liveBank else r.stagingBank

/-- The staging bank takes no edit (R90). -/
def Rs.shut (r : Rs) (target : Nat) : Prop := target = 1 ∧ r.staging ≠ .openEmpty ∧ r.staging ≠ .openCopy

theorem edits_staging {x : Staging} : Target.staging.edits x = true ↔ x = .openEmpty ∨ x = .openCopy := by
  cases x <;> simp [Target.edits]

theorem editBank_bad (b : 1 < target ∨ bad = true) : editBank bad target op told s = refuse s .badField := by
  match target, b with
  | 0, .inr b => exact if_pos b
  | 1, .inr b => exact if_pos b
  | n + 2, _ => rfl

theorem editBank_shut (fields : bad = false) (shut : s.rs.shut target) : editBank bad target op told s = refuse s .wrongState := by
  obtain ⟨rfl, empty, copy⟩ := shut
  have no : Target.staging.edits s.rs.staging = false := by simpa using edits_staging.not.mpr (not_or.mpr ⟨empty, copy⟩)
  subst fields
  exact if_pos (by rw [no]; rfl)

/-- An edit taken up as far as the bank's own checks, with target STAGING. -/
theorem editBank_staging (open_ : ¬ s.rs.shut 1) : editBank false 1 op told s = match op s s.rs.stagingBank with
    | .refused r data => refuse s r data
    | .taken bank data => done (s.setRs (s.rs.setBank s.rs.live.other bank)) (0 :: data) := by
  have yes : Target.staging.edits s.rs.staging = true := by
    rw [edits_staging]
    by_contra no
    exact open_ ⟨rfl, not_or.mp no⟩
  exact if_neg (by rw [yes]; nofun)

/-- A live edit taken, handed on and mirrored (R96, R106). -/
def liveEdited (op : BankOp) (told : Told) (bank : List Vehicle) (s : State) : State × List Byte :=
  mirrorEdit op (tell told (putBank s.rs.live bank s))

/-- An edit taken up as far as the bank's own checks, with target LIVE. -/
theorem editBank_live : editBank false 0 op told s = match op s s.rs.liveBank with
    | .refused r data => refuse s r data
    | .taken bank data => done (liveEdited op told bank s).1 ((liveEdited op told bank s).2 ++ data) := rfl

/-! ## The hand-on and the mirror (R96, R106) -/

theorem kept_tell (told : Told) (s : State) : Kept s (tell told s) := by
  cases told with
  | nothing => exact .refl s
  | seat => exact kept_markSeatsOf _ s
  | record id => exact kept_checkEntry id s

theorem tell_types (told : Told) (s : State) : (tell told s).cm.types = s.cm.types := by
  cases told with
  | nothing => rfl
  | seat => exact markBlocks_cm_types ..
  | record id =>
    have types := congrArg Cm.types (checkEntry_outline id s)
    exact types

/-- The mirror changes the store alone. -/
theorem mirrorEdit_state (op : BankOp) (s : State) : (mirrorEdit op s).1 = s.setRs (mirrorEdit op s).1.rs := by
  unfold mirrorEdit
  split
  · split <;> rfl
  · rfl

/-- Of the store the mirror changes the staging bank or the diverged indicator. -/
theorem mirrorEdit_rs (op : BankOp) (s : State) : (mirrorEdit op s).1.rs.liveBank = s.rs.liveBank
    ∧ (mirrorEdit op s).1.rs.live = s.rs.live ∧ (mirrorEdit op s).1.rs.staging = s.rs.staging
    ∧ (mirrorEdit op s).1.rs.recorded = s.rs.recorded := by
  unfold mirrorEdit
  split
  · split
    · exact ⟨Rs.liveBank_setBank_other .., Rs.setBank_live .., Rs.setBank_staging .., Rs.setBank_recorded ..⟩
    · exact ⟨rfl, rfl, rfl, rfl⟩
  · exact ⟨rfl, rfl, rfl, rfl⟩

theorem mirrorEdit_unmirrored (no : s.rs.staging.mirrored = false) : mirrorEdit op s = (s, u8 0) := by
  rw [mirrorEdit, no]
  rfl

theorem mirrorEdit_taken (yes : s.rs.staging.mirrored = true) (taken : op s s.rs.stagingBank = .taken bank data) :
    mirrorEdit op s = (s.setRs (s.rs.setBank s.rs.live.other bank), u8 0) := by
  rw [mirrorEdit, if_pos yes, taken]
  rfl

theorem mirrorEdit_refused (yes : s.rs.staging.mirrored = true) (refused : op s s.rs.stagingBank = .refused r data) :
    mirrorEdit op s = (s.setRs { s.rs with diverged := true }, u8 r.code) := by
  rw [mirrorEdit, if_pos yes, refused]

/-- Beside the store a live edit leaves what its hand-on leaves. -/
theorem liveEdited_state (op : BankOp) (told : Told) (bank : List Vehicle) (s : State) : (liveEdited op told bank s).1
    = (tell told (putBank s.rs.live bank s)).setRs (liveEdited op told bank s).1.rs := mirrorEdit_state ..

theorem liveEdited_cm (op : BankOp) (told : Told) (bank : List Vehicle) (s : State) :
    (liveEdited op told bank s).1.cm = (tell told (putBank s.rs.live bank s)).cm := by
  rw [liveEdited_state]
  rfl

theorem told_rs (told : Told) (bank : List Vehicle) (s : State) :
    (tell told (putBank s.rs.live bank s)).rs = s.rs.setBank s.rs.live bank := tell_rs ..

theorem liveEdited_rs (op : BankOp) (told : Told) (bank : List Vehicle) (s : State) :
    (liveEdited op told bank s).1.rs.liveBank = bank ∧ (liveEdited op told bank s).1.rs.live = s.rs.live
      ∧ (liveEdited op told bank s).1.rs.staging = s.rs.staging ∧ (liveEdited op told bank s).1.rs.recorded = s.rs.recorded := by
  obtain ⟨liveBank, live, staging, recorded⟩ := mirrorEdit_rs op (tell told (putBank s.rs.live bank s))
  rw [told_rs] at liveBank live staging recorded
  exact ⟨liveBank.trans (Rs.liveBank_setBank_live ..), live.trans (Rs.setBank_live ..), staging.trans (Rs.setBank_staging ..),
    recorded.trans (Rs.setBank_recorded ..)⟩

theorem liveEdited_jt (op : BankOp) (told : Told) (bank : List Vehicle) (s : State) :
    (liveEdited op told bank s).1.jt = s.jt := by
  rw [liveEdited_state]
  exact tell_jt _ told

theorem kept_liveEdited (op : BankOp) (told : Told) (bank : List Vehicle) (s : State) :
    Kept s (liveEdited op told bank s).1 := by
  rw [liveEdited_state]
  exact ((kept_setRs _ _).trans (kept_tell _ _)).trans (kept_setRs _ _)

theorem liveEdited_unmirrored (no : s.rs.staging.mirrored = false) :
    liveEdited op told bank s = (tell told (putBank s.rs.live bank s), u8 0) :=
  mirrorEdit_unmirrored (by rw [told_rs, Rs.setBank_staging, no])

/-- What the mirror of a live edit meets: the staging bank as it was, in a state that no edit can tell from the one before. -/
theorem BankOp.Plain.mirrored (plain : op.Plain) (told : Told) (bank : List Vehicle) (s : State) :
    op (tell told (putBank s.rs.live bank s)) (tell told (putBank s.rs.live bank s)).rs.stagingBank = op s s.rs.stagingBank := by
  rw [told_rs, Rs.stagingBank_setBank_live]
  have put : op (putBank s.rs.live bank s) = op s := plain.congr rfl rfl
  rw [plain.congr (tell_jt _ told) (tell_types told _), put]

/-! ## A request that edits -/

/-- A request that its block answers as an edit of the bank its target names. -/
structure IsEdit (c : Instr) (kind tag : Nat) (bad : Bool) (target : Nat) (op : BankOp) (told : Told) (s : State) : Prop where
  request : c.request = some (kind, tag)
  known : requestKinds.contains kind = true
  act : ∀ q, act c (s.withQueue q) = editBank bad target op told (s.withQueue q)
  plain : op.Plain

namespace IsEdit

variable (x : IsEdit c kind tag bad target op told s) (h : Free s)
include x h

theorem exec_bad (b : 1 < target ∨ bad = true) : exec c s = .next (answered kind tag (some c) .badField [] s) :=
  exec_refused h x.request x.known fun q => (x.act q).trans (editBank_bad b)

theorem exec_shut (fields : bad = false) (shut : s.rs.shut target) :
    exec c s = .next (answered kind tag (some c) .wrongState [] s) :=
  exec_refused h x.request x.known fun q => (x.act q).trans (editBank_shut fields shut)

theorem exec_refused (fields : ¬ (1 < target ∨ bad = true)) (open_ : ¬ s.rs.shut target)
    (refused : op s (s.rs.edited target) = .refused r data) : exec c s = .next (answered kind tag (some c) r data s) := by
  obtain ⟨low, good⟩ := not_or.mp fields
  rw [Bool.not_eq_true] at good
  subst good
  refine Machine.exec_refused h x.request x.known fun q => (x.act q).trans ?_
  have same : op (s.withQueue q) = op s := x.plain.congr rfl rfl
  obtain rfl | rfl : target = 0 ∨ target = 1 := by omega
  · rw [editBank_live, same]
    simp only [State.withQueue_rs, show op s s.rs.liveBank = _ from refused]
  · rw [editBank_staging (s := s.withQueue q) open_, same]
    simp only [State.withQueue_rs, show op s s.rs.stagingBank = _ from refused]

theorem exec_staging (fields : ¬ bad = true) (one : target = 1) (open_ : ¬ s.rs.shut target)
    (taken : op s (s.rs.edited target) = .taken bank data) :
    exec c s = .next (answered kind tag (some c) .done (0 :: data) (s.setRs (s.rs.setBank s.rs.live.other bank))) := by
  rw [Bool.not_eq_true] at fields
  subst fields one
  refine exec_done_rs h x.request x.known fun q => (x.act q).trans ?_
  have same : op (s.withQueue q) = op s := x.plain.congr rfl rfl
  rw [editBank_staging (s := s.withQueue q) open_, same]
  simp only [State.withQueue_rs, show op s s.rs.stagingBank = _ from taken]

theorem exec_live (fields : ¬ bad = true) (zero : target = 0) (taken : op s (s.rs.edited target) = .taken bank data) :
    exec c s = .next (
      let m := liveEdited op told bank (handling kind tag (some c) s)
      replied .done (m.2 ++ data) m.1) := by
  rw [Bool.not_eq_true] at fields
  subst fields zero
  refine exec_of_act h x.request x.known ((x.act _).trans ?_)
  have same : op (handling kind tag (some c) s) = op s := x.plain.congr rfl rfl
  show editBank false 0 op told (handling kind tag (some c) s) = _
  rw [editBank_live, same]
  simp only [handling_rs, show op s s.rs.liveBank = _ from taken]
  rfl

/-- The field check, the state check, then the rest (R90). -/
theorem checked {B P : Prop} {_ : Decidable B} {_ : Decidable (s.rs.shut target)} (fields : B ↔ 1 < target ∨ bad = true)
    (rest : ¬ (1 < target ∨ bad = true) → ¬ s.rs.shut target → P) :
    if B then exec c s = .next (answered kind tag (some c) .badField [] s)
    else if s.rs.shut target then exec c s = .next (answered kind tag (some c) .wrongState [] s)
    else P := by
  split
  · next b => exact x.exec_bad h (fields.mp b)
  · next good =>
    have good := fields.not.mp good
    split
    · next shut => exact x.exec_shut h (eq_false_of_ne_true (not_or.mp good).2) shut
    · next open_ => exact rest good open_

end IsEdit

end Sys2Proof.Machine
end

section
/-! DECLARE VEHICLE and REMOVE VEHICLE (R91, R95): statement O40. -/

namespace Sys2Proof.Machine

variable {c : Instr} {kind tag target id : Nat} {bad : Bool} {op : BankOp} {told : Told} {s t : State} {bank : List Vehicle}
  {data : List Byte} {agree : Entry → Agreement}

theorem isEdit_declareVehicle (tag target id type slot : Nat) (s : State) : IsEdit (.declareVehicle tag target id type slot)
    0x30 tag (id = 0 || type = 0 || 3 < slot) target (declareIn id type slot) (.record id) s :=
  ⟨rfl, rfl, fun _ => rfl, plain_declareIn id type slot⟩

theorem isEdit_removeVehicle (tag target id : Nat) (s : State) : IsEdit (.removeVehicle tag target id) 0x31 tag (id = 0) target
    (removeIn id) (.record id) s := ⟨rfl, rfl, fun _ => rfl, plain_removeIn id⟩

/-! ## What an edit of records tells (R96, R117) -/

/-- What an edit that tells of an identity's records leaves (R90, R96, R106): with target STAGING the bank alone; with target
LIVE the bank, and for the entries of the identity the agreement status given. -/
def RecordEdited (c : Instr) (kind tag target id : Nat) (s : State) (bank : List Vehicle) (data : List Byte)
    (agree : Entry → Agreement) : Prop :=
  (target = 1 → exec c s = .next (answered kind tag (some c) .done (0 :: data)
    (s.setRs (s.rs.setBank s.rs.live.other bank))))
  ∧ (target = 0 → ∃ t, exec c s = .next t
    ∧ t.rs.liveBank = bank ∧ t.rs.live = s.rs.live ∧ t.rs.staging = s.rs.staging ∧ t.rs.recorded = s.rs.recorded
    ∧ t.jt = s.jt ∧ t.dc = s.dc ∧ t.cm.outline = s.cm.outline ∧ AbortAtMost s t
    ∧ (∀ e ∈ t.cm.list, e.coach.id = id → e.agree = agree e)
    ∧ (∀ (i : Nat) (e : Entry), s.cm.list[i]? = some e → e.coach.id ≠ id → t.cm.list[i]? = some e)
    ∧ (s.rs.staging.mirrored = false → t.rs.stagingBank = s.rs.stagingBank ∧ t.rs.diverged = s.rs.diverged
        ∧ t.clc.replies = [replyTo kind tag .done (0 :: data)]))

/-- An entry of another identity keeps its place and its content (R117). -/
theorem Rechecked.getElem? (k : Rechecked id s t) {i : Nat} {e : Entry} (at_ : s.cm.list[i]? = some e) (other : e.coach.id ≠ id) :
    t.cm.list[i]? = some e := by
  obtain ⟨g, list, each⟩ := k
  obtain ⟨-, -, same⟩ := each e (List.mem_of_getElem? at_)
  rw [list, List.getElem?_map, at_]
  exact congrArg some (same other)

theorem IsEdit.recordEdited (x : IsEdit c kind tag bad target op (.record id) s) (h : Free s) (ok : ConsistOk s.cm)
    (fields : ¬ bad = true) (open_ : ¬ s.rs.shut target) (taken : op s (s.rs.edited target) = .taken bank data)
    (status : ∀ e : Entry, e.coach.id = id → agreement s bank e = agree e) :
    RecordEdited c kind tag target id s bank data agree := by
  refine ⟨fun one => x.exec_staging h fields one open_ taken, fun zero => ⟨_, x.exec_live h fields zero taken, ?_⟩⟩
  let start := handling kind tag (some c) s
  have kept := kept_liveEdited op (.record id) bank start
  obtain ⟨liveBank, live, staging, recorded⟩ := liveEdited_rs op (.record id) bank start
  have cm : (liveEdited op (.record id) bank start).1.cm = (checkEntry id (putBank s.rs.live bank start)).cm :=
    liveEdited_cm ..
  have checked : Rechecked id _ (checkEntry id (putBank s.rs.live bank start)) :=
    rechecked_checkEntry (s := putBank s.rs.live bank start) (Cm.Distinct.of_consistOk (s := s) ok) id
  dsimp only
  rw [replied_rs, replied_jt, replied_cm, cm, checkEntry_outline]
  refine ⟨liveBank, live, staging, recorded, liveEdited_jt .., replied_dc_kept h kept, rfl, abortAtMost_replied kept,
    fun e m own => ?_, fun i e at_ other => checked.getElem? at_ other, fun no => ?_⟩
  · obtain ⟨-, right⟩ | ⟨other, -⟩ := checked.mem (checkEntry_jt ..) m
    · have liveBank_put : (putBank s.rs.live bank start).rs.liveBank = bank := Rs.liveBank_setBank_live ..
      have jt : (checkEntry id (putBank s.rs.live bank start)).jt = s.jt := checkEntry_jt ..
      rw [right, liveBank_put, agreement_congr jt rfl]
      exact status e own
    · exact absurd own other
  · rw [replied_replies h kept, liveEdited_unmirrored (s := handling kind tag (some c) s) no, told_rs]
    exact ⟨Rs.stagingBank_setBank_live .., Rs.setBank_diverged .., rfl⟩

/-! ## The checks of DECLARE VEHICLE and REMOVE VEHICLE -/

theorem agreement_of_record {v : Vehicle} {e : Entry} (found : vehicleIn bank e.coach.id = some v) : agreement s bank e =
    match s.jt.portionOf e.coach.unit with
    | none => .unitUnassigned
    | some p => if p.slot ≠ v.slot then .slotDiffers else if e.coach.type ≠ v.type then .typeDiffers else .agreeing := by
  refine (congrArg (agreementWith s e.coach.unit e.coach.type) found).trans ?_
  cases portion : s.jt.portionOf e.coach.unit with
  | none => simp only [agreementWith, portion]
  | some p => simp only [agreementWith, portion, ne_comm (a := v.slot), ne_comm (a := v.type)]

theorem agreement_of_no_record {e : Entry} (none_ : vehicleIn bank e.coach.id = none) : agreement s bank e =
    match s.jt.portionOf e.coach.unit with
    | none => .unitUnassigned
    | some _ => .noRecord := by
  refine (congrArg (agreementWith s e.coach.unit e.coach.type) none_).trans ?_
  cases portion : s.jt.portionOf e.coach.unit with
  | none => simp only [agreementWith, portion]
  | some p => simp only [agreementWith, portion]

theorem vehicleIn_append {v : Vehicle} (new : vehicleIn bank v.id = none) : vehicleIn (bank ++ [v]) v.id = some v := by
  unfold vehicleIn at new ⊢
  rw [List.find?_append, new]
  simp

theorem vehicleIn_filter (bank : List Vehicle) (id : Nat) : vehicleIn (bank.filter fun v => v.id ≠ id) id = none := by
  simp [vehicleIn_eq_none]

/-- Checks 4 and 5 of R91, once the identity is found to be new. -/
theorem declareIn_of_new {type slot : Nat} (new : vehicleIn bank id = none) : declareIn id type slot s bank =
    match s.cm.typeOf type with
    | none => .refused .notFound []
    | some r =>
      if Config.maxVehicles ≤ bank.length then .refused .noSpace []
      else .taken (bank ++ [{ id := id, type := type, slot := slot, seats := List.replicate r.seats [] }])
        (u8 (bank.length + 1)) := by
  unfold declareIn
  rw [new]
  rfl

/-- DECLARE VEHICLE past its field and state checks (R91). -/
theorem exec_declareVehicle (h : Free s) (ok : ConsistOk s.cm) {type slot : Nat}
    (good : ¬ (1 < target ∨ (id = 0 || type = 0 || 3 < slot : Bool) = true)) (open_ : ¬ s.rs.shut target) :
    let c : Instr := .declareVehicle tag target id type slot
    let refused (r : ResultCode) : Prop := exec c s = .next (answered 0x30 tag (some c) r [] s)
    if ∃ v ∈ s.rs.edited target, v.id = id then refused .inUse
    else match s.cm.typeOf type with
      | none => refused .notFound
      | some r =>
        if 20 ≤ (s.rs.edited target).length then refused .noSpace
        else RecordEdited c 0x30 tag target id s
          (s.rs.edited target ++ [{ id := id, type := type, slot := slot, seats := List.replicate r.seats [] }])
          (u8 ((s.rs.edited target).length + 1)) fun e => match s.jt.portionOf e.coach.unit with
            | none => .unitUnassigned
            | some p => if p.slot ≠ slot then .slotDiffers else if e.coach.type ≠ type then .typeDiffers else .agreeing := by
  have x := isEdit_declareVehicle tag target id type slot s
  have held : (vehicleIn (s.rs.edited target) id).isSome ↔ ∃ v ∈ s.rs.edited target, v.id = id := by simp [vehicleIn]
  dsimp only
  split
  · next old => exact x.exec_refused h good open_ (if_pos (held.mpr old))
  next free =>
  have new : vehicleIn (s.rs.edited target) id = none := by simpa using held.not.mpr free
  have op_eq := declareIn_of_new (s := s) (type := type) (slot := slot) new
  cases typed : s.cm.typeOf type with
  | none => exact x.exec_refused h good open_ (by rw [op_eq, typed])
  | some r =>
    rw [typed] at op_eq
    dsimp only at op_eq ⊢
    split
    · next full => exact x.exec_refused h good open_ (op_eq.trans (if_pos full))
    · next room =>
      refine x.recordEdited h ok (not_or.mp good).2 open_ (op_eq.trans (if_neg room)) fun e own => ?_
      subst own
      have found := vehicleIn_append
        (v := { id := e.coach.id, type := type, slot := slot, seats := List.replicate r.seats [] }) new
      exact agreement_of_record found

/-- REMOVE VEHICLE past its field and state checks (R95). -/
theorem exec_removeVehicle (h : Free s) (ok : ConsistOk s.cm) (good : ¬ (1 < target ∨ (id = 0 : Bool) = true))
    (open_ : ¬ s.rs.shut target) :
    let c : Instr := .removeVehicle tag target id
    match vehicleIn (s.rs.edited target) id with
    | none => exec c s = .next (answered 0x31 tag (some c) .notFound [] s)
    | some v => RecordEdited c 0x31 tag target id s ((s.rs.edited target).filter fun x => x.id ≠ id) (u16 v.count) fun e =>
        match s.jt.portionOf e.coach.unit with
        | none => .unitUnassigned
        | some _ => .noRecord := by
  have x := isEdit_removeVehicle tag target id s
  cases found : vehicleIn (s.rs.edited target) id with
  | none => exact x.exec_refused h good open_ (by rw [removeIn, found])
  | some v =>
    refine x.recordEdited h ok (not_or.mp good).2 open_ (by rw [removeIn, found]) fun e own => ?_
    exact agreement_of_no_record (own ▸ vehicleIn_filter ..)

/-- Settles O40: the refusals in their order, and the edit with what it tells. -/
theorem vehiclesAreDeclaredAndRemoved : Obligations.VehiclesAreDeclaredAndRemoved := by
  unfold Obligations.VehiclesAreDeclaredAndRemoved
  intro tag target id s h ok
  refine ⟨fun type slot => ?_, ?_⟩
  · exact (isEdit_declareVehicle tag target id type slot s).checked h (by simp [or_assoc])
      fun good open_ => exec_declareVehicle h ok good open_
  · exact (isEdit_removeVehicle tag target id s).checked h (by simp) fun good open_ => exec_removeVehicle h ok good open_

end Sys2Proof.Machine
end

section
/-! ADD SEGMENT, DROP SEGMENT and CLEAR SEAT (R92 to R94): statement O41. -/

namespace Sys2Proof.Machine

variable {c : Instr} {kind tag target id seat : Nat} {bad told : Bool} {op : BankOp} {tells : Told} {s : State}
  {bank : List Vehicle} {data : List Byte} {list : List Segment} {g : Segment} {v : Vehicle} {l : List Segment}

/-! ## The requests as edits -/

/-- The kind a code from 1 to 3 names (R92, R225). -/
def SegmentKind.named (n : Nat) : SegmentKind := if n = 1 then .reserved else if n = 2 then .priority else .held

theorem SegmentKind.ofCode_eq_none {n : Nat} (h : n < 1 ∨ 3 < n) : SegmentKind.ofCode n = none := by
  match n, h with
  | 0, _ => rfl
  | n + 4, _ => rfl

theorem SegmentKind.ofCode_eq_some {n : Nat} (h : ¬ (n < 1 ∨ 3 < n)) : SegmentKind.ofCode n = some (.named n) := by
  obtain rfl | rfl | rfl : n = 1 ∨ n = 2 ∨ n = 3 := by omega
  · rfl
  · rfl
  · rfl

/-- A kind code that names no kind is one more bad field (R92). -/
theorem doAddSegment_eq (bank id seat a b kind : Nat) (label : Text) (s : State) : doAddSegment bank id seat a b kind label s =
    editBank (kind < 1 || 3 < kind || id = 0 || !textIn 0 8 label) bank
      (addIn id seat { fromIx := a, toIx := b, kind := .named kind, label := label }) (.seat id seat) s := by
  unfold doAddSegment
  by_cases k : kind < 1 ∨ 3 < kind
  · rw [SegmentKind.ofCode_eq_none k, editBank_bad (.inr (by simp only [Bool.or_eq_true, decide_eq_true_eq]; exact .inl (.inl k)))]
  · obtain ⟨low, high⟩ := not_or.mp k
    rw [SegmentKind.ofCode_eq_some k]
    simp only [low, high, decide_false, Bool.false_or]

theorem isEdit_addSegment (tag target id seat a b kind : Nat) (label : Text) (s : State) :
    IsEdit (.addSegment tag target id seat a b kind label) 0x32 tag
      (kind < 1 || 3 < kind || id = 0 || !textIn 0 8 label) target
      (addIn id seat { fromIx := a, toIx := b, kind := .named kind, label := label }) (.seat id seat) s :=
  ⟨rfl, rfl, fun _ => doAddSegment_eq .., plain_addIn ..⟩

theorem isEdit_dropSegment (tag target id seat a : Nat) (s : State) : IsEdit (.dropSegment tag target id seat a) 0x33 tag (id = 0)
    target (dropIn id seat a) (.seat id seat) s := ⟨rfl, rfl, fun _ => rfl, plain_dropIn ..⟩

theorem isEdit_clearSeat (tag target id seat : Nat) (s : State) : IsEdit (.clearSeat tag target id seat) 0x34 tag (id = 0)
    target (clearIn id seat) (if liveSeatHeld s id seat then .seat id seat else .nothing) s :=
  ⟨rfl, rfl, fun _ => rfl, plain_clearIn ..⟩

/-! ## What an edit of a seat tells (R96, R128) -/

/-- The SEAT block of a seat for the entry of an identity, when the edit tells (R96, R128). -/
def seatHit (told : Bool) (id seat : Nat) (e : Entry) (k : BlockKind) : Bool :=
  told && e.coach.id = id && k = .seat (seat / 16)

theorem tell_seat (told : Bool) (id seat : Nat) (s : State) :
    tell (if told then .seat id seat else .nothing) s = markBlocks (seatHit told id seat) s := by
  cases told with
  | true =>
    refine congrArg (markBlocks · s) (funext fun e => funext fun k => ?_)
    simp [seatHit, eq_comm]
  | false => exact (markBlocks_of_none fun e k => by simp [seatHit]).symm

/-- The first mark of a command that reaches a valid block in flight aborts its frame (R126, R159). -/
theorem markBlocks_aborts {pick : Entry → BlockKind → Bool} (d : s.dc.advanced = []) {f : ContentFrame} (frame : s.bc.frame = some f)
    (flying : f.inFlight s.bc.clock = true)
    (hit : ∃ e ∈ s.cm.list, e.coach.id = f.dest ∧ (e.blocks.get f.kind).valid = true ∧ pick e f.kind = true) :
    (markBlocks pick s).bc = (abortFrame s).bc ∧ (markBlocks pick s).sup = (abortFrame s).sup := by
  have test : (s.cm.list.any fun e => e.coach.id = f.dest && (e.blocks.get f.kind).valid && pick e f.kind) = true := by
    obtain ⟨e, m, dest, valid, picked⟩ := hit
    exact List.any_eq_true.mpr ⟨e, m, by simp [dest, valid, picked]⟩
  have first := markBlocks_first pick s d
  rw [abortIf_setCm, abortIf, frame] at first
  simp only [flying, test, Bool.and_self, if_true] at first
  have bc := congrArg State.bc first
  have sup := congrArg State.sup first
  exact ⟨bc, sup⟩

/-- What an aborted frame leaves (R159, R177). -/
theorem abortFrame_of_frame {f : ContentFrame} (frame : s.bc.frame = some f) :
    (abortFrame s).bc.aborted = min 65535 (s.bc.aborted + 1) ∧ (abortFrame s).sup.a.flags.abortSent = true
      ∧ (abortFrame s).sup.b.flags.abortSent = true
      ∧ ∃ g, (abortFrame s).bc.frame = some g ∧ g.state = .aborted ∧ g.sent = f.sent := by
  unfold abortFrame
  rw [frame]
  exact ⟨rfl, rfl, rfl, _, rfl, rfl, rfl⟩

/-- What an edit of a seat leaves (R90, R96, R106): with target STAGING the bank alone; with target LIVE the bank, and the mark
of the seat's block if the edit tells. -/
def SeatEdited (c : Instr) (kind tag target id seat : Nat) (s : State) (list : List Segment) (data : List Byte) (told : Bool) :
    Prop :=
  let bank := (s.rs.edited target).map fun v => if v.id = id then { v with seats := v.seats.set seat list } else v
  (target = 1 → exec c s = .next (answered kind tag (some c) .done (0 :: data)
    (s.setRs (s.rs.setBank s.rs.live.other bank))))
  ∧ (target = 0 → ∃ t, exec c s = .next t
    ∧ t.rs.liveBank = bank ∧ t.rs.live = s.rs.live ∧ t.rs.staging = s.rs.staging ∧ t.rs.recorded = s.rs.recorded
    ∧ t.jt = s.jt ∧ t.dc = s.dc ∧ t.cm = s.cm.marked (seatHit told id seat) ∧ AbortAtMost s t
    ∧ (∀ f, s.bc.frame = some f → f.inFlight s.bc.clock = true →
        (∃ e ∈ s.cm.list, e.coach.id = f.dest ∧ (e.blocks.get f.kind).valid = true ∧ seatHit told id seat e f.kind = true) →
        t.bc.aborted = min 65535 (s.bc.aborted + 1) ∧ t.sup.a.flags.abortSent = true
        ∧ t.sup.b.flags.abortSent = true ∧ ∃ g, t.bc.frame = some g ∧ g.state = .aborted ∧ g.sent = f.sent)
    ∧ (s.rs.staging.mirrored = false → t.rs.stagingBank = s.rs.stagingBank ∧ t.rs.diverged = s.rs.diverged
        ∧ t.clc = (answered kind tag (some c) .done (0 :: data) s).clc))

theorem IsEdit.seatEdited (x : IsEdit c kind tag bad target op tells s) (h : Free s) (fields : ¬ bad = true)
    (open_ : ¬ s.rs.shut target)
    (taken : op s (s.rs.edited target)
      = .taken (updateVehicle id (fun v => v.setSeat seat list) (s.rs.edited target)) data)
    (same : target = 0 → tells = if told then .seat id seat else .nothing) :
    SeatEdited c kind tag target id seat s list data told := by
  refine ⟨fun one => x.exec_staging h fields one open_ taken, fun zero => ⟨_, x.exec_live h fields zero taken, ?_⟩⟩
  rw [same zero]
  let start := handling kind tag (some c) s
  let bank := updateVehicle id (fun v => v.setSeat seat list) (s.rs.edited target)
  let tells : Told := if told then .seat id seat else .nothing
  let put := putBank s.rs.live bank start
  have kept := kept_liveEdited op tells bank start
  have d : put.dc.advanced = [] := h.2.2.2.2
  obtain ⟨liveBank, live, staging, recorded⟩ := liveEdited_rs op tells bank start
  have after : (liveEdited op tells bank start).1
      = (markBlocks (seatHit told id seat) put).setRs (liveEdited op tells bank start).1.rs :=
    (liveEdited_state ..).trans (congrArg (fun t => State.setRs t _) (tell_seat ..))
  have cm : (liveEdited op tells bank start).1.cm = s.cm.marked (seatHit told id seat) :=
    (congrArg State.cm after).trans (markBlocks_cm_first _ d)
  have clc : (liveEdited op tells bank start).1.clc = start.clc := (congrArg State.clc after).trans (markBlocks_clc ..)
  dsimp only
  rw [replied_rs, replied_jt, replied_cm, replied_bc, replied_sup]
  refine ⟨liveBank, live, staging, recorded, liveEdited_jt .., replied_dc_kept h kept, cm, abortAtMost_replied kept,
    fun f frame flying hit => ?_, fun no => ?_⟩
  · obtain ⟨bc, sup⟩ := markBlocks_aborts d frame flying hit
    have bc := (congrArg State.bc after).trans bc
    have sup := (congrArg State.sup after).trans sup
    rw [bc, sup]
    exact abortFrame_of_frame frame
  · rw [replied_clc h clc, liveEdited_unmirrored (s := start) no, told_rs]
    exact ⟨Rs.stagingBank_setBank_live .., Rs.setBank_diverged .., rfl⟩

/-! ## The checks of ADD SEGMENT (R92) -/

/-- The insertion before the first segment with a larger from index (R92). -/
theorem insertSegment_eq (g : Segment) (l : List Segment) : insertSegment g l =
    l.takeWhile (fun h => h.fromIx ≤ g.fromIx) ++ g :: l.dropWhile fun h => h.fromIx ≤ g.fromIx := by
  induction l with
  | nil => rfl
  | cons h l ih =>
    unfold insertSegment
    split
    · next before => simp [not_le.mpr before]
    · next after => simp [not_lt.mp after, ih]

theorem Jt.lastTo_eq (j : Jt) (slot : Nat) : j.lastTo slot =
    if (j.slots.get slot).state = .ready ∨ (j.slots.get slot).state = .inUse then (j.slots.get slot).stops.length - 1 else 39 := by
  unfold Jt.lastTo
  cases (j.slots.get slot).state <;> simp

/-- Checks 6 and 7 of R92 fail: the segment does not end within the route, or has no length, or its slot's index has reached
its end. -/
def Segment.misplaced (g : Segment) (j : Jt) (slot : Nat) : Prop :=
  g.toIx ≤ g.fromIx ∨ j.lastTo slot < g.toIx ∨ ∃ x ∈ j.slotIndex slot, g.toIx ≤ x

section
variable (found : vehicleIn bank id = some v) (at_ : v.seats[seat]? = some l)
include found at_

theorem addIn_misplaced (out : g.misplaced s.jt v.slot) : addIn id seat g s bank = .refused .outOfRange [] := by
  simp only [addIn, found, at_, ← ite_or, Option.any_eq_true, decide_eq_true_eq]
  exact if_pos out

theorem addIn_overlapping (place : ¬ g.misplaced s.jt v.slot) {h : Segment}
    (laps : (l.find? fun h => h.overlaps g.fromIx g.toIx) = some h) :
    addIn id seat g s bank = .refused .overlap (u8 h.fromIx ++ u8 h.toIx) := by
  simp only [addIn, found, at_, ← ite_or, Option.any_eq_true, decide_eq_true_eq, laps]
  exact if_neg place

theorem addIn_full (place : ¬ g.misplaced s.jt v.slot) (clear : (l.find? fun h => h.overlaps g.fromIx g.toIx) = none)
    (full : 6 ≤ l.length ∨ 4096 ≤ segmentCount bank) : addIn id seat g s bank = .refused .noSpace [] := by
  simp only [addIn, found, at_, ← ite_or, Option.any_eq_true, decide_eq_true_eq, clear]
  exact (if_neg place).trans (if_pos full)

theorem addIn_taken (place : ¬ g.misplaced s.jt v.slot) (clear : (l.find? fun h => h.overlaps g.fromIx g.toIx) = none)
    (room : ¬ (6 ≤ l.length ∨ 4096 ≤ segmentCount bank)) : addIn id seat g s bank
      = .taken (updateVehicle id (fun x => x.setSeat seat (insertSegment g l)) bank)
          (u8 (l.filter fun h => h.fromIx < g.fromIx).length ++ u16 (segmentCount bank + 1)) := by
  simp only [addIn, found, at_, ← ite_or, Option.any_eq_true, decide_eq_true_eq, clear]
  exact (if_neg place).trans (if_neg room)

end

/-! ## The requests past their field and state checks -/

theorem exec_addSegment (h : Free s) {a b kind : Nat} {label : Text}
    (good : ¬ (1 < target ∨ (kind < 1 || 3 < kind || id = 0 || !textIn 0 8 label : Bool) = true)) (open_ : ¬ s.rs.shut target) :
    let c : Instr := .addSegment tag target id seat a b kind label
    let no (r : ResultCode) (data : List Byte) : Prop := exec c s = .next (answered 0x32 tag (some c) r data s)
    let g : Segment := { fromIx := a, toIx := b, label := label, kind := .named kind }
    match vehicleIn (s.rs.edited target) id with
    | none => no .notFound []
    | some v =>
      match v.seats[seat]? with
      | none => no .outOfRange []
      | some l =>
        if b ≤ a ∨ (if (s.jt.slots.get v.slot).state = .ready ∨ (s.jt.slots.get v.slot).state = .inUse then
            (s.jt.slots.get v.slot).stops.length - 1 else 39) < b ∨ (∃ x ∈ s.jt.slotIndex v.slot, b ≤ x) then no .outOfRange []
        else match l.find? fun h => h.overlaps a b with
          | some h => no .overlap (u8 h.fromIx ++ u8 h.toIx)
          | none =>
            if 6 ≤ l.length ∨ 4096 ≤ segmentCount (s.rs.edited target) then no .noSpace []
            else SeatEdited c 0x32 tag target id seat s
              (l.takeWhile (fun h => h.fromIx ≤ a) ++ g :: l.dropWhile fun h => h.fromIx ≤ a)
              (u8 (l.filter fun h => h.fromIx < a).length ++ u16 (segmentCount (s.rs.edited target) + 1)) true := by
  have x := isEdit_addSegment tag target id seat a b kind label s
  intro c no g
  cases found : vehicleIn (s.rs.edited target) id with
  | none => exact x.exec_refused h good open_ (by rw [addIn, found])
  | some v =>
    dsimp only
    cases at_ : v.seats[seat]? with
    | none => exact x.exec_refused h good open_ (by rw [addIn, found]; dsimp only; rw [at_])
    | some l =>
      dsimp only
      rw [← Jt.lastTo_eq]
      split
      · next out => exact x.exec_refused h good open_ (addIn_misplaced (s := s) (g := g) found at_ out)
      next place =>
      cases laps : l.find? fun h => h.overlaps a b with
      | some k => exact x.exec_refused h good open_ (addIn_overlapping (s := s) (g := g) found at_ place laps)
      | none =>
        dsimp only
        split
        · next full => exact x.exec_refused h good open_ (addIn_full (s := s) (g := g) found at_ place laps full)
        · next room =>
          rw [show l.takeWhile _ ++ g :: l.dropWhile _ = insertSegment g l from (insertSegment_eq g l).symm]
          exact x.seatEdited h (not_or.mp good).2 open_ (addIn_taken (s := s) (g := g) found at_ place laps room) fun _ => rfl

theorem exec_dropSegment (h : Free s) {a : Nat} (good : ¬ (1 < target ∨ (id = 0 : Bool) = true)) (open_ : ¬ s.rs.shut target) :
    let c : Instr := .dropSegment tag target id seat a
    let no (r : ResultCode) : Prop := exec c s = .next (answered 0x33 tag (some c) r [] s)
    match vehicleIn (s.rs.edited target) id with
    | none => no .notFound
    | some v =>
      match v.seats[seat]? with
      | none => no .outOfRange
      | some l =>
        if ∃ g ∈ l, g.fromIx = a then SeatEdited c 0x33 tag target id seat s (l.eraseP fun g => g.fromIx = a)
          (u16 (segmentCount (s.rs.edited target) - 1)) true
        else no .notFound := by
  have x := isEdit_dropSegment tag target id seat a s
  intro c no
  cases found : vehicleIn (s.rs.edited target) id with
  | none => exact x.exec_refused h good open_ (by rw [dropIn, found])
  | some v =>
    dsimp only
    cases at_ : v.seats[seat]? with
    | none => exact x.exec_refused h good open_ (by rw [dropIn, found]; dsimp only; rw [at_])
    | some l =>
      dsimp only
      have some_ : (l.any fun g => g.fromIx = a) = true ↔ ∃ g ∈ l, g.fromIx = a := by simp
      split
      · next held =>
        refine x.seatEdited h (not_or.mp good).2 open_ ?_ fun _ => rfl
        rw [dropIn, found]
        dsimp only
        rw [at_]
        exact if_pos (some_.mpr held)
      · next none_ =>
        refine x.exec_refused h good open_ ?_
        rw [dropIn, found]
        dsimp only
        rw [at_]
        exact if_neg (some_.not.mpr none_)

theorem exec_clearSeat (h : Free s) (good : ¬ (1 < target ∨ (id = 0 : Bool) = true)) (open_ : ¬ s.rs.shut target) :
    let c : Instr := .clearSeat tag target id seat
    let no (r : ResultCode) : Prop := exec c s = .next (answered 0x34 tag (some c) r [] s)
    match vehicleIn (s.rs.edited target) id with
    | none => no .notFound
    | some v =>
      match v.seats[seat]? with
      | none => no .outOfRange
      | some l => SeatEdited c 0x34 tag target id seat s []
          (u16 l.length ++ u16 (segmentCount (s.rs.edited target) - l.length)) (l ≠ []) := by
  have x := isEdit_clearSeat tag target id seat s
  intro c no
  cases found : vehicleIn (s.rs.edited target) id with
  | none => exact x.exec_refused h good open_ (by rw [clearIn, found])
  | some v =>
    dsimp only
    cases at_ : v.seats[seat]? with
    | none => exact x.exec_refused h good open_ (by rw [clearIn, found]; dsimp only; rw [at_])
    | some l =>
      refine x.seatEdited h (not_or.mp good).2 open_ (by rw [clearIn, found]; dsimp only; rw [at_]) fun zero => ?_
      subst zero
      have held : liveSeatHeld s id seat = decide (l ≠ []) := by
        rw [liveSeatHeld, show vehicleIn s.rs.liveBank id = some v from found, Bool.eq_iff_iff]
        simp [at_]
      rw [held]

/-- Settles O41: the refusals in their order, and the edit with the mark it makes. -/
theorem segmentsAreAddedDroppedAndCleared : Obligations.SegmentsAreAddedDroppedAndCleared := by
  unfold Obligations.SegmentsAreAddedDroppedAndCleared
  intro tag target id seat s h
  refine ⟨fun a b kind label => ?_, fun a => ?_, ?_⟩
  · refine (isEdit_addSegment tag target id seat a b kind label s).checked h ?_ fun good open_ => exec_addSegment h good open_
    simp only [Bool.or_eq_true, decide_eq_true_eq, Bool.not_eq_true', textIn_eq_false, Nat.not_lt_zero, false_or]
    have reordered (A B T I W : Prop) : (A ∨ B ∨ T ∨ I ∨ W) ↔ T ∨ ((A ∨ B) ∨ I) ∨ W := by tauto
    exact reordered ..
  · exact (isEdit_dropSegment tag target id seat a s).checked h (by simp) fun good open_ => exec_dropSegment h good open_
  · exact (isEdit_clearSeat tag target id seat s).checked h (by simp) fun good open_ => exec_clearSeat h good open_

end Sys2Proof.Machine
end

section
/-! The mirror of a live edit is the same request on the staging bank (R106): statement O42. -/

namespace Sys2Proof.Machine

variable {c d : Instr} {kind tag : Nat} {bad : Bool} {op : BankOp} {told other : Told} {s : State} {bank : List Vehicle}
  {data : List Byte} {r : ResultCode}

/-- The state in which R106 gives the request again: staging OPEN_COPY. -/
def opened (s : State) : State := s.setRs { s.rs with staging := .openCopy }

/-- An edit does to the staging bank there what it does here. -/
theorem opened_op (plain : op.Plain) : op (opened s) (opened s).rs.stagingBank = op s s.rs.stagingBank :=
  congrFun (plain.congr (a := opened s) (b := s) rfl rfl) s.rs.stagingBank

/-- What R106 says of the two replies and the states they leave: the live request gave r and t, the same request on staging q
and u. -/
def Mirrors (s t u : State) (r q : Reply) : Prop :=
  (r.result = .done →
    (q.result = .done → t.rs.stagingBank = u.rs.stagingBank ∧ t.rs.diverged = s.rs.diverged ∧ r.data.head? = some 0)
    ∧ (q.result ≠ .done → t.rs.stagingBank = s.rs.stagingBank ∧ t.rs.diverged = true
        ∧ r.data.head? = some (BitVec.ofNat 8 q.result.code)))
  ∧ (r.result ≠ .done → t.rs = s.rs)

/-- The two requests, both answered. -/
def MirrorSays (live staging : Instr) (s : State) : Prop :=
  ∃ t u r q, exec live s = .next t ∧ t.clc.replies = [r] ∧ exec staging (opened s) = .next u ∧ u.clc.replies = [q]
    ∧ Mirrors s t u r q

/-- A refused live request leaves the store alone, whatever staging would have answered. -/
theorem mirrors_of_refused {u : State} {q : Reply} (refused : r ≠ .done) :
    Mirrors s (answered kind tag (some c) r data s) u (replyTo kind tag r data) q :=
  ⟨fun done => absurd done refused, fun _ => rfl⟩

/-! ## The mirror taken or refused -/

section
variable (plain : op.Plain) (yes : s.rs.staging.mirrored = true) (told : Told) (live : List Vehicle)
include plain yes

theorem liveEdited_of_taken (taken : op s s.rs.stagingBank = .taken bank data) :
    (liveEdited op told live s).1.rs.stagingBank = bank ∧ (liveEdited op told live s).1.rs.diverged = s.rs.diverged
      ∧ (liveEdited op told live s).2 = u8 0 := by
  have mirror : (tell told (putBank s.rs.live live s)).rs.staging.mirrored = true := by rw [told_rs, Rs.setBank_staging, yes]
  rw [liveEdited, mirrorEdit_taken mirror ((plain.mirrored told live s).trans taken), told_rs]
  refine ⟨?_, ?_, rfl⟩
  · exact Rs.stagingBank_setBank_other ..
  · exact (Rs.setBank_diverged ..).trans (Rs.setBank_diverged ..)

theorem liveEdited_of_refused (refused : op s s.rs.stagingBank = .refused r data) :
    (liveEdited op told live s).1.rs.stagingBank = s.rs.stagingBank ∧ (liveEdited op told live s).1.rs.diverged = true
      ∧ (liveEdited op told live s).2 = u8 r.code := by
  have mirror : (tell told (putBank s.rs.live live s)).rs.staging.mirrored = true := by rw [told_rs, Rs.setBank_staging, yes]
  rw [liveEdited, mirrorEdit_refused mirror ((plain.mirrored told live s).trans refused), told_rs]
  exact ⟨Rs.stagingBank_setBank_live .., rfl, rfl⟩

end

/-! ## Both requests -/

section
variable (x : IsEdit c kind tag bad 0 op told s) (y : IsEdit d kind tag bad 1 op other (opened s)) (h : Free s)
include x y h

/-- The live request taken, and its mirror (R106). -/
theorem mirrorSays_of_taken (yes : s.rs.staging.mirrored = true) (good : ¬ bad = true)
    (taken : op s s.rs.liveBank = .taken bank data) : MirrorSays c d s := by
  let start := handling kind tag (some c) s
  have open_ : ¬ (opened s).rs.shut 1 := fun shut => shut.2.2 rfl
  have free : Free (opened s) := h
  have again : op (opened s) (opened s).rs.stagingBank = op s s.rs.stagingBank := opened_op x.plain
  have mirrored : op start start.rs.stagingBank = op s s.rs.stagingBank :=
    congrFun (x.plain.congr (a := start) (b := s) rfl rfl) s.rs.stagingBank
  have kept := kept_liveEdited op told bank start
  cases staged : op s s.rs.stagingBank with
  | refused r _ =>
    obtain ⟨stagingBank, diverged, indication⟩ := liveEdited_of_refused (s := start) x.plain yes told bank (mirrored.trans staged)
    have notDone : r ≠ .done := fun done => x.plain.refuses (done ▸ staged)
    refine ⟨_, _, _, _, x.exec_live h good rfl taken, replied_replies h kept,
      y.exec_refused free (not_or.mpr ⟨by omega, good⟩) open_ (again.trans staged), rfl, fun _ => ⟨fun done => absurd done notDone,
      fun _ => ?_⟩, fun no => absurd rfl no⟩
    dsimp only
    rw [replied_rs, indication]
    exact ⟨stagingBank, diverged, rfl⟩
  | taken b _ =>
    obtain ⟨stagingBank, diverged, indication⟩ := liveEdited_of_taken (s := start) x.plain yes told bank (mirrored.trans staged)
    refine ⟨_, _, _, _, x.exec_live h good rfl taken, replied_replies h kept,
      y.exec_staging free good rfl open_ (again.trans staged), rfl, fun _ => ⟨fun _ => ?_, fun no => absurd rfl no⟩,
      fun no => absurd rfl no⟩
    dsimp only
    rw [replied_rs, indication]
    exact ⟨stagingBank.trans (Rs.stagingBank_setBank_other ..).symm, diverged, rfl⟩

theorem mirrorSays (yes : s.rs.staging.mirrored = true) : MirrorSays c d s := by
  have open_ : ¬ (opened s).rs.shut 1 := fun shut => shut.2.2 rfl
  have live : ¬ s.rs.shut 0 := fun shut => nomatch shut.1
  have free : Free (opened s) := h
  by_cases b : bad = true
  · exact ⟨_, _, _, _, x.exec_bad h (.inr b), rfl, y.exec_bad free (.inr b), rfl, mirrors_of_refused nofun⟩
  have again : op (opened s) (opened s).rs.stagingBank = op s s.rs.stagingBank := opened_op x.plain
  cases first : op s s.rs.liveBank with
  | taken bank data => exact mirrorSays_of_taken x y h yes b first
  | refused r data =>
    have refused := x.exec_refused h (not_or.mpr ⟨by omega, b⟩) live first
    have notDone : r ≠ .done := fun done => x.plain.refuses (done ▸ first)
    cases staged : op s s.rs.stagingBank with
    | refused =>
      exact ⟨_, _, _, _, refused, rfl, y.exec_refused free (not_or.mpr ⟨by omega, b⟩) open_ (again.trans staged), rfl,
        mirrors_of_refused notDone⟩
    | taken =>
      exact ⟨_, _, _, _, refused, rfl, y.exec_staging free b rfl open_ (again.trans staged), rfl, mirrors_of_refused notDone⟩

end

/-- Settles O42, for each of the five edits. -/
theorem mirrorIsTheSameRequestOnStaging : Obligations.MirrorIsTheSameRequestOnStaging := by
  unfold Obligations.MirrorIsTheSameRequestOnStaging
  intro tag id a b d e label edit s h yes which
  obtain rfl | rfl | rfl | rfl | rfl := which
  · exact mirrorSays (isEdit_declareVehicle ..) (isEdit_declareVehicle ..) h yes
  · exact mirrorSays (isEdit_removeVehicle ..) (isEdit_removeVehicle ..) h yes
  · exact mirrorSays (isEdit_addSegment ..) (isEdit_addSegment ..) h yes
  · exact mirrorSays (isEdit_dropSegment ..) (isEdit_dropSegment ..) h yes
  · exact mirrorSays (isEdit_clearSeat ..) (isEdit_clearSeat ..) h yes

end Sys2Proof.Machine
end

section
/-! Notice stacks changed, and the HEADER marks that follow (R126, R134, R140). -/

namespace Sys2Proof.Machine

variable {s t : State} {e : Entry} {n : Notice} {l : List Notice}

/-! ## The chosen notice (R140) -/

/-- A stack that holds an urgent notice. -/
def hasUrgent (l : List Notice) : Bool := l.any fun n => n.priority = .urgent

/-- The notice of a priority nearest the top: the top one, or the one below in the rest. -/
theorem nearest_cons (p : Priority) (n : Notice) (l : List Notice) : nearest p (n :: l) =
    if n.priority = p then some (0, n) else (nearest p l).map fun x => (x.1 + 1, x.2) := by
  unfold nearest
  rw [List.zipIdx_cons, List.find?_cons]
  by_cases top : n.priority = p
  · simp [top]
  · simp only [top, decide_false, if_false, Nat.zero_add, List.zipIdx_succ, List.find?_map, Option.map_map]
    rfl

theorem nearest_urgent_isSome (l : List Notice) : (nearest .urgent l).isSome = hasUrgent l := by
  induction l with
  | nil => rfl
  | cons n l ih =>
    rw [nearest_cons, hasUrgent, List.any_cons, ← hasUrgent, ← ih]
    split <;> simp_all

/-- A stack without urgent notices has a normal one unless it is empty. -/
theorem nearest_normal_isSome (calm : hasUrgent l = false) : (nearest .normal l).isSome = decide (l ≠ []) := by
  cases l with
  | nil => rfl
  | cons n l =>
    have normal : n.priority = .normal := by
      cases top : n.priority with
      | normal => rfl
      | urgent => simp [hasUrgent, top] at calm
    rw [nearest_cons, if_pos normal]
    rfl

/-- The choice by the cases of R140, as the place of the host notice chosen. -/
theorem chosenPlace_eq (s : State) (e : Entry) : chosenPlace s e =
    if e.state = .departing then none
    else ((nearest .urgent e.coach.notices).or
      (if (s.jt.unitHanded e.coach.unit).isNone then nearest .normal e.coach.notices else none)).map Prod.fst := by
  unfold chosenPlace chosen
  by_cases departing : e.state = .departing
  · rw [if_pos departing, if_pos departing]
  · rw [if_neg departing, if_neg departing]
    cases nearest .urgent e.coach.notices with
    | some x => rfl
    | none =>
      cases s.jt.unitHanded e.coach.unit with
      | some h => rfl
      | none => cases nearest .normal e.coach.notices <;> rfl

/-- The notice on top is the chosen one when it is urgent, or when nothing is handed and none below is urgent (R140). -/
theorem chosenPlace_top (stack : e.coach.notices = n :: l) : decide (chosenPlace s e = some 0) =
    (e.state ≠ .departing && (n.priority = .urgent || ((s.jt.unitHanded e.coach.unit).isNone && !hasUrgent l))) := by
  rw [chosenPlace_eq, stack, nearest_cons, nearest_cons]
  by_cases departing : e.state = .departing
  · simp [departing]
  · rw [if_neg departing]
    cases top : n.priority with
    | urgent => simp [departing]
    | normal =>
      have below := nearest_urgent_isSome l
      cases urgent : nearest .urgent l with
      | some x =>
        rw [urgent] at below
        simp [departing, ← below]
      | none =>
        rw [urgent] at below
        cases (s.jt.unitHanded e.coach.unit).isNone <;> simp [departing, ← below]

/-- A host notice is chosen when one is urgent, or when nothing is handed and there is one (R140). -/
theorem chosenPlace_isSome (s : State) (e : Entry) : (chosenPlace s e).isSome =
    (e.state ≠ .departing && (hasUrgent e.coach.notices
      || ((s.jt.unitHanded e.coach.unit).isNone && e.coach.notices ≠ []))) := by
  rw [chosenPlace_eq]
  by_cases departing : e.state = .departing
  · simp [departing]
  · rw [if_neg departing, Option.isSome_map, Option.isSome_or, nearest_urgent_isSome]
    cases calm : hasUrgent e.coach.notices with
    | true => simp [departing]
    | false =>
      cases (s.jt.unitHanded e.coach.unit).isNone
      · simp [departing]
      · simp [departing, nearest_normal_isSome calm]

/-! ## Coaches changed, list and detached -/

/-- Every coach changed, list and detached, and the HEADER of the list entries told marked once (R126). -/
def Cm.recoached (c : Cm) (g : Coach → Coach) (mark : Entry → Bool) : Cm :=
  { c with
    list := c.list.map fun (e : Entry) =>
      { e with coach := g e.coach, blocks := .ofKinds fun k => (e.blocks.get k).markedIf (k = .header && mark e) }
    detached := c.detached.map g }

/-- Every coach of a state changed, list and detached. -/
def State.mapCoaches (s : State) (g : Coach → Coach) : State :=
  s.setCm { s.cm with list := s.cm.list.map (Entry.mapCoach g), detached := s.cm.detached.map g }

/-- The HEADER marks of a command that changes the coaches first, told by the entries changed. -/
theorem mapCoaches_marked {g : Coach → Coach} {pick mark : Entry → Bool} (d : s.dc.advanced = [])
    (told : ∀ e ∈ s.cm.list, pick (e.mapCoach g) = mark e) :
    (markHeaders pick (s.mapCoaches g)).cm = s.cm.recoached g mark := by
  rw [markHeaders, markBlocks_cm_first _ (by exact d)]
  refine Cm.eq_of_fields ?_ rfl rfl rfl rfl rfl
  simp only [State.mapCoaches, State.setCm_cm, Cm.marked, Cm.recoached, List.map_map]
  refine List.map_congr_left fun e m => ?_
  rw [Function.comp_apply, told e m]
  simp only [Entry.mapCoach, Bool.and_comm]

/-- The stacks of the coaches picked changed, and the HEADER of the list entries told among them marked once. -/
def Cm.restacked (c : Cm) (pick : Coach → Bool) (f : List Notice → List Notice) (mark : Entry → Bool) : Cm :=
  { c with
    list := c.list.map fun (e : Entry) =>
      if pick e.coach then
        { e with coach := { e.coach with notices := f e.coach.notices }
                 blocks := .ofKinds fun k => (e.blocks.get k).markedIf (k = .header && mark e) }
      else e
    detached := c.detached.map fun (k : Coach) => if pick k then { k with notices := f k.notices } else k }

/-- The coach with its stack changed if it is picked. -/
def Coach.restack (pick : Coach → Bool) (f : List Notice → List Notice) (k : Coach) : Coach :=
  if pick k then { k with notices := f k.notices } else k

theorem Coach.restack_id (pick : Coach → Bool) (f : List Notice → List Notice) (k : Coach) :
    (k.restack pick f).id = k.id := by
  unfold Coach.restack
  split <;> rfl

/-- A block that is not to be marked stays (R126). -/
theorem Block.markedIf_false (b : Block) : b.markedIf false = b := by
  rw [Block.markedIf, Bool.and_false]
  rfl

theorem Cm.recoached_restack (c : Cm) (pick : Coach → Bool) (f : List Notice → List Notice) (mark : Entry → Bool) :
    c.recoached (Coach.restack pick f) (fun e => pick e.coach && mark e) = c.restacked pick f mark := by
  refine Cm.eq_of_fields (List.map_congr_left fun e _ => ?_) rfl rfl rfl rfl rfl
  by_cases picked : pick e.coach = true
  · simp only [Coach.restack, picked, if_true, Bool.true_and]
  · rw [Bool.not_eq_true] at picked
    simp only [Coach.restack, picked, Bool.false_eq_true, if_false, Bool.false_and, Bool.and_false, Block.markedIf_false]
    rfl

/-- A change of stacks is a change of coaches, then the HEADER marks it tells. -/
theorem changeStacks_eq (pick : Coach → Bool) (f : List Notice → List Notice) (before after : State → Entry → Bool)
    (s : State) : changeStacks pick f before after s =
      let t := s.mapCoaches (Coach.restack pick f)
      let picked := s.cm.list.filter fun e => pick e.coach
      markHeaders (fun e => ((picked.filter (before s)).map (·.coach.id)).contains e.coach.id
        || ((picked.map (·.coach.id)).contains e.coach.id && after t e)) t := rfl

/-- The stacks changed as a command's first work: the HEADER of an entry picked is marked when the test before or the one after
says so, which may look at the Journey Tracker and the entry. -/
theorem changeStacks_cm {pick : Coach → Bool} {f : List Notice → List Notice} {before after : State → Entry → Bool}
    {mark : Entry → Bool} (o : ConsistOk s.cm) (d : s.dc.advanced = [])
    (told : ∀ t : State, t.jt = s.jt → ∀ e ∈ s.cm.list, pick e.coach = true →
      (before s e || after t { e with coach := { e.coach with notices := f e.coach.notices } }) = mark e) :
    (changeStacks pick f before after s).cm = s.cm.restacked pick f mark := by
  rw [← Cm.recoached_restack, changeStacks_eq]
  have distinct := Cm.Distinct.of_consistOk o
  refine mapCoaches_marked d fun e m => ?_
  have hit : (((s.cm.list.filter fun e => pick e.coach).filter (before s)).map (·.coach.id)).contains e.coach.id
      = (pick e.coach && before s e) := by
    rw [Bool.eq_iff_iff, List.contains_iff_mem, List.filter_filter, distinct.mem_map_filter m, Bool.and_comm]
  have ids : ((s.cm.list.filter fun e => pick e.coach).map (·.coach.id)).contains e.coach.id = pick e.coach := by
    rw [Bool.eq_iff_iff, List.contains_iff_mem, distinct.mem_map_filter m]
  have same : (Entry.mapCoach (Coach.restack pick f) e).coach.id = e.coach.id := Coach.restack_id ..
  rw [same, hit, ids]
  cases picked : pick e.coach with
  | false => rfl
  | true =>
    rw [Bool.true_and, Bool.true_and, Bool.true_and, ← told (s.mapCoaches (Coach.restack pick f)) rfl e m picked]
    have new : Entry.mapCoach (Coach.restack pick f) e
        = { e with coach := { e.coach with notices := f e.coach.notices } } := by
      rw [Entry.mapCoach, Coach.restack, if_pos picked]
    rw [new]

theorem kept_changeStacks (pick : Coach → Bool) (f : List Notice → List Notice) (before after : State → Entry → Bool)
    (s : State) : Kept s (changeStacks pick f before after s) :=
  (kept_setCm s _).trans (kept_markHeaders _ _)

theorem changeStacks_clc (pick : Coach → Bool) (f : List Notice → List Notice) (before after : State → Entry → Bool)
    (s : State) : (changeStacks pick f before after s).clc = s.clc := by
  simp [changeStacks]

end Sys2Proof.Machine
end

section
/-! PUSH NOTICE, POP NOTICE and CLEAR NOTICES (R135 to R137, R140): statement O45. -/

namespace Sys2Proof.Machine

variable {s : State} {kind tag target id priority expiry value : Nat} {words : Text} {c : Instr} {data : List Byte}
  {pick : Coach → Bool} {f : List Notice → List Notice} {before after : State → Entry → Bool} {mark : Entry → Bool}

/-! ## A request that changes stacks -/

/-- A request answered DONE with the stacks of the coaches picked changed, the HEADER of the list entries told marked, and
nothing else changed. -/
def Restacks (s : State) (kind tag : Nat) (c : Instr) (data : List Byte) (pick : Coach → Bool)
    (f : List Notice → List Notice) (mark : Entry → Bool) : Prop :=
  ∃ t, exec c s = .next t ∧ t.cm = s.cm.restacked pick f mark
    ∧ t.jt = s.jt ∧ t.rs = s.rs ∧ t.dc = s.dc ∧ t.clc = (answered kind tag (some c) .done data s).clc ∧ AbortAtMost s t

theorem restacks_of_act (h : Free s) (o : ConsistOk s.cm) (k : c.request = some (kind, tag))
    (l : requestKinds.contains kind = true)
    (a : act c (handling kind tag (some c) s) = done (changeStacks pick f before after (handling kind tag (some c) s)) data)
    (told : ∀ t : State, t.jt = s.jt → ∀ e ∈ s.cm.list, pick e.coach = true →
      (before (handling kind tag (some c) s) e
        || after t { e with coach := { e.coach with notices := f e.coach.notices } }) = mark e) :
    Restacks s kind tag c data pick f mark := by
  have kept := kept_changeStacks pick f before after (handling kind tag (some c) s)
  have first : s.dc.advanced = [] := by
    obtain ⟨-, -, -, -, advanced⟩ := h
    exact advanced
  refine ⟨_, exec_of_act h k l a, ?_, ?_, ?_, replied_dc_kept h kept, replied_clc h (changeStacks_clc ..),
    abortAtMost_replied kept⟩
  · rw [replied_cm, changeStacks_cm (by exact o) (by exact first) told]
    rfl
  · rw [replied_jt, changeStacks_jt]
    rfl
  · rw [replied_rs, changeStacks_rs]
    rfl

/-- The coach at the place of an identity is the one found among all coaches. -/
theorem Cm.coach_place_eq (c : Cm) (id : Nat) : (c.placeOf id).coach = c.coaches.find? fun k => k.id = id := by
  unfold Cm.placeOf Cm.entryOf Cm.coaches
  rw [List.find?_append, List.find?_map]
  show _ = ((c.list.find? fun e => e.coach.id = id).map _).or _
  cases c.list.find? fun e => e.coach.id = id with
  | some e => rfl
  | none => cases c.detached.find? fun k => k.id = id <;> rfl

/-! ## PUSH NOTICE (R135) -/

/-- The notice of good fields; the value beside an expiry NONE is not kept (log entry 23). -/
def noticeOf (words : Text) (priority expiry value : Nat) : Notice :=
  { text := words, priority := if priority = 0 then .normal else .urgent
    expiry := if expiry = 0 then .none else if expiry = 1 then .atStop value else .cycles value }

/-- The fields of an expiry outside their sets (R134). -/
abbrev BadExpiry (expiry value : Nat) : Prop := 2 < expiry ∨ (expiry = 1 ∧ 39 < value) ∨ (expiry = 2 ∧ value = 0)

/-- The field checks of R135 on text, priority and expiry. -/
def BadNotice (words : Text) (priority expiry value : Nat) : Prop :=
  textIn 1 64 words = false ∨ 1 < priority ∨ BadExpiry expiry value

/-- The field checks of PUSH NOTICE one by one, the target and the identity last. -/
theorem badPush_iff : (words.length = 0 ∨ 64 < words.length ∨ (∃ x ∈ words, x.toNat < 0x20 ∨ 0x7E < x.toNat) ∨ 1 < priority
      ∨ 2 < expiry ∨ (expiry = 1 ∧ 39 < value) ∨ (expiry = 2 ∧ value = 0) ∨ 1 < target ∨ (target = 0 ∧ id = 0)) ↔
    BadNotice words priority expiry value ∨ 1 < target ∨ (target = 0 ∧ id = 0) := by
  simp only [BadNotice, BadExpiry, textIn_eq_false, Nat.lt_one_iff, or_assoc]

theorem Priority.ofCode_eq (priority : Nat) : Priority.ofCode priority =
    if 1 < priority then none else some (if priority = 0 then .normal else .urgent) := by
  match priority with
  | 0 | 1 => rfl
  | n + 2 => rw [if_pos (by omega)]; rfl

theorem Expiry.ofFields_eq (expiry value : Nat) : Expiry.ofFields expiry value =
    if BadExpiry expiry value then Option.none
    else some (if expiry = 0 then .none else if expiry = 1 then .atStop value else .cycles value) := by
  match expiry with
  | 0 => rfl
  | 1 =>
    by_cases far : 39 < value
    · rw [if_pos (by omega), Expiry.ofFields, if_neg (by omega)]
    · rw [if_neg (by omega), Expiry.ofFields, if_pos (by omega)]; rfl
  | 2 =>
    by_cases zero : value = 0
    · rw [if_pos (by omega), Expiry.ofFields, if_pos zero]
    · rw [if_neg (by omega), Expiry.ofFields, if_neg zero]; rfl
  | n + 3 => rw [if_pos (by omega)]; rfl

theorem pushedNotice_of_bad (bad : BadNotice words priority expiry value) : pushedNotice words priority expiry value = none := by
  unfold pushedNotice
  rw [Priority.ofCode_eq, Expiry.ofFields_eq]
  by_cases p : 1 < priority
  · rw [if_pos p]
  · rw [if_neg p]
    by_cases x : BadExpiry expiry value
    · rw [if_pos x]
    · have unprintable : textIn 1 64 words = false := (bad.resolve_right (not_or.mpr ⟨p, x⟩))
      rw [if_neg x]
      exact if_neg (by simp [unprintable])

theorem pushedNotice_of_good (good : ¬ BadNotice words priority expiry value) :
    pushedNotice words priority expiry value = some (noticeOf words priority expiry value) := by
  obtain ⟨printable, p, x⟩ : textIn 1 64 words ≠ false ∧ ¬ 1 < priority ∧ ¬ BadExpiry expiry value := by
    simpa only [BadNotice, not_or] using good
  unfold pushedNotice
  rw [Priority.ofCode_eq, Expiry.ofFields_eq, if_neg p, if_neg x]
  exact if_pos (by simpa using printable)

/-- The unit of a coach has reached the stop of an AT_STOP expiry (R135 check 3). -/
def passedStop (s : State) (expiry value : Nat) (k : Coach) : Bool :=
  expiry = 1 && (s.jt.unitIndex k.unit).any fun x => value ≤ x

theorem expiredFor_noticeOf (s : State) (k : Coach) :
    expiredFor s (noticeOf words priority expiry value) k = passedStop s expiry value k := by
  unfold expiredFor noticeOf passedStop
  match expiry with
  | 0 => rfl
  | 1 => cases s.jt.unitIndex k.unit <;> rfl
  | n + 2 => simp

/-- The notice pushed is the one R140 chooses. -/
def pushShows (s : State) (priority : Nat) (e : Entry) : Bool :=
  e.state ≠ .departing && (priority = 1 || ((s.jt.unitHanded e.coach.unit).isNone && !hasUrgent e.coach.notices))

/-- A request that pushes a notice of good fields on the stacks picked. -/
theorem restacks_of_push (h : Free s) (o : ConsistOk s.cm) (k : c.request = some (kind, tag))
    (l : requestKinds.contains kind = true) (good : ¬ BadNotice words priority expiry value)
    (a : act c (handling kind tag (some c) s)
      = done (pushOn pick (noticeOf words priority expiry value) (handling kind tag (some c) s)) data) :
    Restacks s kind tag c data pick (fun l => noticeOf words priority expiry value :: l) (pushShows s priority) := by
  refine restacks_of_act h o k l a fun t same e _ _ => ?_
  have urgent : decide ((noticeOf words priority expiry value).priority = .urgent) = decide (priority = 1) := by
    have range : ¬ 1 < priority := fun far => good (.inr (.inl far))
    have code : priority = 0 ∨ priority = 1 := by omega
    obtain rfl | rfl := code <;> rfl
  rw [Bool.false_or, chosenPlace_top rfl, urgent, same]
  rfl

/-- PUSH NOTICE with a bad field (R135 check 1, log entry 22). -/
theorem exec_pushNotice_bad (h : Free s)
    (bad : BadNotice words priority expiry value ∨ 1 < target ∨ (target = 0 ∧ id = 0)) :
    exec (.pushNotice tag target id words priority expiry value) s = .next
      (answered 0x41 tag (some (.pushNotice tag target id words priority expiry value)) .badField [] s) := by
  refine exec_refused h rfl rfl fun q => ?_
  show doPushNotice target id words priority expiry value (s.withQueue q) = _
  unfold doPushNotice
  by_cases fields : BadNotice words priority expiry value
  · rw [pushedNotice_of_bad fields]
    cases Aim.ofCode target with
    | none => rfl
    | some aim => cases aim <;> rfl
  · obtain fields' | far | ⟨rfl, zero⟩ := bad
    · exact absurd fields' fields
    · match target, far with
      | n + 2, _ => rfl
    · rw [pushedNotice_of_good fields]
      exact if_pos zero

/-- The elements with a property are those left beside the ones without it. -/
theorem length_filter_sub {α : Type} (p : α → Bool) (l : List α) :
    l.length - (l.filter fun x => !p x).length = (l.filter p).length := by
  have parts := List.length_eq_length_filter_add (l := l) p
  omega

/-- PUSH NOTICE with ALL: the stacks of the coaches that pass both checks (R135). -/
theorem restacks_pushNotice_all (h : Free s) (o : ConsistOk s.cm) (good : ¬ BadNotice words priority expiry value) :
    let fresh := s.cm.coaches.filter fun k => !passedStop s expiry value k
    Restacks s 0x41 tag (.pushNotice tag 1 id words priority expiry value)
      (u8 (fresh.filter fun k => !k.full).length ++ u8 (fresh.filter Coach.full).length
        ++ u8 (s.cm.coaches.filter (passedStop s expiry value)).length)
      (fun k => !passedStop s expiry value k && !k.full) (fun l => noticeOf words priority expiry value :: l)
      (pushShows s priority) := by
  refine restacks_of_push h o rfl rfl good ?_
  show doPushNotice 1 id words priority expiry value _ = _
  unfold doPushNotice
  rw [pushedNotice_of_good good]
  simp only [Aim.ofCode, expiredFor_noticeOf, length_filter_sub]
  rfl

/-- PUSH NOTICE to a single identity, by the coach found (R135). -/
theorem exec_pushNotice_one (h : Free s) (o : ConsistOk s.cm) (good : ¬ BadNotice words priority expiry value) (i : id ≠ 0) :
    let c : Instr := .pushNotice tag 0 id words priority expiry value
    let refused (r : ResultCode) : Prop := exec c s = .next (answered 0x41 tag (some c) r [] s)
    match s.cm.coaches.find? fun k => k.id = id with
    | none => refused .notFound
    | some k =>
      if passedStop s expiry value k then refused .outOfRange
      else if k.full then refused .noSpace
      else Restacks s 0x41 tag c (u8 (k.notices.length + 1)) (fun k => k.id = id)
        (fun l => noticeOf words priority expiry value :: l) (pushShows s priority) := by
  have taken (s' : State) (same : s'.cm = s.cm) (jt : s'.jt = s.jt) :
      act (.pushNotice tag 0 id words priority expiry value) s' =
      match s.cm.coaches.find? fun k => k.id = id with
      | none => refuse s' .notFound
      | some k =>
        if passedStop s expiry value k then refuse s' .outOfRange
        else if k.full then refuse s' .noSpace
        else done (pushOn (fun x => x.id = id) (noticeOf words priority expiry value) s') (u8 (k.notices.length + 1)) := by
    show doPushNotice 0 id words priority expiry value s' = _
    unfold doPushNotice
    rw [pushedNotice_of_good good, same, Cm.coach_place_eq]
    simp only [Aim.ofCode, if_neg i, expiredFor_noticeOf, passedStop, jt]
    rfl
  dsimp only
  cases found : s.cm.coaches.find? fun k => k.id = id with
  | none =>
    simp only [found] at taken ⊢
    exact exec_refused h rfl rfl fun q => taken _ rfl rfl
  | some k =>
    simp only [found] at taken ⊢
    split_ifs at taken ⊢
    · exact exec_refused h rfl rfl fun q => taken _ rfl rfl
    · exact exec_refused h rfl rfl fun q => taken _ rfl rfl
    · exact restacks_of_push h o rfl rfl good (taken _ rfl rfl)

/-! ## POP NOTICE (R136) -/

/-- A notice in a reply, field by field (R224). -/
theorem Notice.bytes_eq (n : Notice) : n.bytes =
    u8 n.text.length ++ n.text ++ u8 (if n.priority = .normal then 0 else 1)
      ++ (match n.expiry with
        | .none => [0, 0, 0]
        | .atStop i => u8 1 ++ u16 i
        | .cycles r => u8 2 ++ u16 r) := by
  obtain ⟨words, priority, expiry⟩ := n
  cases priority <;> cases expiry <;> rfl

theorem doPopNotice_of_unknown (i : id ≠ 0) (found : (s.cm.coaches.find? fun k => k.id = id) = none) :
    doPopNotice id s = refuse s .notFound := by
  rw [doPopNotice, if_neg i, Cm.coach_place_eq, found]

theorem doPopNotice_of_empty {k : Coach} (i : id ≠ 0) (found : (s.cm.coaches.find? fun k => k.id = id) = some k)
    (stack : k.notices = []) : doPopNotice id s = refuse s .notFound := by
  rw [doPopNotice, if_neg i, Cm.coach_place_eq, found]
  dsimp only
  rw [stack]

theorem doPopNotice_of_top {k : Coach} {n : Notice} {rest : List Notice} (i : id ≠ 0)
    (found : (s.cm.coaches.find? fun k => k.id = id) = some k) (stack : k.notices = n :: rest) : doPopNotice id s =
    done (changeStacks (fun x => x.id = id) List.tail (fun t e => chosenPlace t e = some 0) (fun _ _ => false) s)
      (n.bytes ++ u8 rest.length) := by
  rw [doPopNotice, if_neg i, Cm.coach_place_eq, found]
  dsimp only
  rw [stack]

/-- POP NOTICE by the coach found (R136). -/
theorem exec_popNotice (h : Free s) (o : ConsistOk s.cm) (i : id ≠ 0) :
    let c : Instr := .popNotice tag id
    let refused (r : ResultCode) : Prop := exec c s = .next (answered 0x42 tag (some c) r [] s)
    match s.cm.coaches.find? fun k => k.id = id with
    | none => refused .notFound
    | some k =>
      match k.notices with
      | [] => refused .notFound
      | n :: rest => Restacks s 0x42 tag c (n.bytes ++ u8 rest.length) (fun k => k.id = id) List.tail fun e =>
          e.state ≠ .departing && (n.priority = .urgent || ((s.jt.unitHanded e.coach.unit).isNone && !hasUrgent rest)) := by
  dsimp only
  split
  · next found => exact exec_refused h rfl rfl fun q => doPopNotice_of_unknown (s := s.withQueue q) i found
  · next k found =>
    split
    · next stack => exact exec_refused h rfl rfl fun q => doPopNotice_of_empty (s := s.withQueue q) i found stack
    · next n rest stack =>
      refine restacks_of_act h o rfl rfl (doPopNotice_of_top i found stack) fun t same e m picked => ?_
      have id_e : e.coach.id = id := by simpa using picked
      have id_k : k.id = id := by simpa using List.find?_some found
      have only : e.coach = k :=
        List.inj_on_of_nodup_map (ConsistOk.ids o) (List.mem_append_left _ (List.mem_map_of_mem m))
          (List.mem_of_find?_eq_some found) (id_e.trans id_k.symm)
      rw [Bool.or_false, chosenPlace_top (only ▸ stack)]
      rfl

/-! ## CLEAR NOTICES (R137) -/

/-- A host notice is the one R140 chooses. -/
def showsHost (s : State) (e : Entry) : Bool :=
  e.state ≠ .departing && (hasUrgent e.coach.notices
    || ((s.jt.unitHanded e.coach.unit).isNone && e.coach.notices ≠ []))

/-- A request that clears the stacks picked. -/
theorem restacks_of_clear (h : Free s) (o : ConsistOk s.cm) (k : c.request = some (kind, tag))
    (l : requestKinds.contains kind = true)
    (a : act c (handling kind tag (some c) s) = done (clearStacks pick (handling kind tag (some c) s)) data) :
    Restacks s kind tag c data pick (fun _ => []) (showsHost s) := by
  refine restacks_of_act h o k l a fun t same e _ _ => ?_
  rw [Bool.or_false, chosenPlace_isSome]
  rfl

/-- CLEAR NOTICES to a single identity, by the coach found (R137). -/
theorem exec_clearNotices_one (h : Free s) (o : ConsistOk s.cm) (i : id ≠ 0) :
    let c : Instr := .clearNotices tag 0 id
    match s.cm.coaches.find? fun k => k.id = id with
    | none => exec c s = .next (answered 0x43 tag (some c) .notFound [] s)
    | some k => Restacks s 0x43 tag c (u8 k.notices.length) (fun k => k.id = id) (fun _ => []) (showsHost s) := by
  have taken (s' : State) (same : s'.cm = s.cm) : act (.clearNotices tag 0 id) s' =
      match s.cm.coaches.find? fun k => k.id = id with
      | none => refuse s' .notFound
      | some k => done (clearStacks (fun x => x.id = id) s') (u8 k.notices.length) := by
    show doClearNotices 0 id s' = _
    unfold doClearNotices
    rw [Aim.ofCode, same, Cm.coach_place_eq]
    exact if_neg i
  dsimp only
  cases found : s.cm.coaches.find? fun k => k.id = id with
  | none =>
    simp only [found] at taken ⊢
    exact exec_refused h rfl rfl fun q => taken _ rfl
  | some k =>
    simp only [found] at taken ⊢
    exact restacks_of_clear h o rfl rfl (taken _ rfl)

/-! ## The obligation -/

/-- Settles O45, request by request. -/
theorem noticesArePushedPoppedAndCleared : Obligations.NoticesArePushedPoppedAndCleared := by
  unfold Obligations.NoticesArePushedPoppedAndCleared
  intro tag target id s h o
  refine ⟨fun words priority expiry value => ?_, ?_, ?_⟩
  · dsimp only
    split
    · next bad => exact exec_pushNotice_bad h (badPush_iff.mp bad)
    · next fine =>
      rw [badPush_iff, not_or] at fine
      obtain ⟨good, aimed⟩ := fine
      match target with
      | 0 =>
        rw [if_neg (by omega)]
        exact exec_pushNotice_one h o good (by omega)
      | 1 =>
        rw [if_pos rfl]
        exact restacks_pushNotice_all h o good
      | n + 2 => exact absurd (by omega) aimed
  · dsimp only
    split
    · next zero => exact exec_refused h rfl rfl fun q => if_pos zero
    · next i =>
      have popped := exec_popNotice (tag := tag) h o i
      simp only [Notice.bytes_eq] at popped
      exact popped
  · dsimp only
    split
    · next bad =>
      refine exec_refused h rfl rfl fun q => ?_
      match target, bad with
      | 0, .inr zero => exact if_pos zero.2
      | n + 2, _ => rfl
    · next fine =>
      match target with
      | 0 =>
        rw [if_neg (by omega)]
        exact exec_clearNotices_one h o (by omega)
      | 1 =>
        rw [if_pos rfl]
        exact restacks_of_clear (c := .clearNotices tag 1 id) h o rfl rfl rfl
      | n + 2 => exact absurd (by omega) fine

end Sys2Proof.Machine
end

section
/-! The cycle start at the composer: the countdown of notices, the page rotation and the beacon's end (R139, R140, R144, R154,
R155): statement O49. -/

namespace Sys2Proof.Machine

variable {s t : State} {d : Dc} {anyNotice : Bool} {n i : Nat} {b : Bc}

/-! ## The page rotation (R144) -/

/-- Where the search goes on after a candidate that is not shown. -/
def Dc.onward (d : Dc) (i : Nat) : Nat := if (d.entryAt i).page = .empty then d.start else (d.entryAt i).next

/-- A candidate that is shown: not EMPTY, and NOTICE only while some list entry has a notice. -/
def Dc.Shows (d : Dc) (anyNotice : Bool) (i : Nat) : Prop :=
  (d.entryAt i).page ≠ .empty ∧ ((d.entryAt i).page = .notice → anyNotice = true)

/-- The rotation with a candidate shown. -/
def Dc.showing (d : Dc) (i : Nat) : Dc :=
  { d with current := some i, page := (d.entryAt i).page, dwell := (d.entryAt i).dwell }

theorem Dc.search_of_shows (h : d.Shows anyNotice i) (left : Nat) : d.search anyNotice (left + 1) i = d.showing i := by
  obtain ⟨page, notice⟩ := h
  have told : ¬ ((d.entryAt i).page = .notice && !anyNotice) = true := by
    simpa using notice
  rw [Dc.search, if_neg page, if_neg told]
  rfl

theorem Dc.search_of_passes (h : ¬ d.Shows anyNotice i) (left : Nat) :
    d.search anyNotice (left + 1) i = d.search anyNotice left (d.onward i) := by
  unfold Dc.onward
  rw [Dc.search]
  by_cases empty : (d.entryAt i).page = .empty
  · rw [if_pos empty, if_pos empty]
  · have untold : ((d.entryAt i).page = .notice && !anyNotice) = true := by
      simpa [Dc.Shows, empty] using h
    rw [if_neg empty, if_neg empty, if_pos untold]

/-- A search whose first n candidates are not shown goes on with the candidate after them. -/
theorem Dc.search_after (n left i : Nat) (pass : ∀ m < n, ¬ d.Shows anyNotice (d.onward^[m] i)) :
    d.search anyNotice (left + n) i = d.search anyNotice left (d.onward^[n] i) := by
  induction n generalizing i with
  | zero => rfl
  | succ n ih =>
    have first : ¬ d.Shows anyNotice i := pass 0 n.succ_pos
    rw [← Nat.add_assoc, Dc.search_of_passes first, ih _ fun m lt => pass (m + 1) (Nat.succ_lt_succ lt)]
    rfl

theorem Dc.rotate_of_dwell (h : 1 < d.dwell) : d.rotate anyNotice = { d with dwell := d.dwell - 1 } :=
  if_neg (not_le.mpr h)

/-- The rotation advanced to the first of at most 12 candidates that is shown. -/
theorem Dc.rotate_of_shows (h : d.dwell ≤ 1) (few : n < 12) (pass : ∀ m < n, ¬ d.Shows anyNotice (d.onward^[m] d.first))
    (shown : d.Shows anyNotice (d.onward^[n] d.first)) : d.rotate anyNotice = d.showing (d.onward^[n] d.first) := by
  have left : Config.rotationSize = 11 - n + 1 + n := by
    show 12 = _
    omega
  have search := Dc.search_after (d := { d with dwell := 0 }) n (11 - n + 1) d.first pass
  rw [Dc.rotate, if_pos h, left, search, Dc.search_of_shows (by exact shown)]
  rfl

/-- With none of the 12 candidates shown the rotation falls back. -/
theorem Dc.rotate_of_none (h : d.dwell ≤ 1) (pass : ∀ m < 12, ¬ d.Shows anyNotice (d.onward^[m] d.first)) :
    d.rotate anyNotice = d.fallback :=
  (if_pos h).trans (Dc.search_after (d := { d with dwell := 0 }) 12 0 d.first pass)

/-- The rotation does not look at the record of advanced blocks. -/
theorem Dc.rotate_advanced (d : Dc) (anyNotice : Bool) (l : List (Nat × BlockKind)) :
    { d.rotate anyNotice with advanced := l } = ({ d with advanced := l } : Dc).rotate anyNotice := by
  have search (d : Dc) (left : Nat) : ∀ i, { d.search anyNotice left i with advanced := l }
      = ({ d with advanced := l } : Dc).search anyNotice left i := by
    induction left with
    | zero => exact fun _ => rfl
    | succ left ih =>
      intro i
      by_cases shown : d.Shows anyNotice i
      · rw [Dc.search_of_shows shown, Dc.search_of_shows (by exact shown)]
        rfl
      · rw [Dc.search_of_passes shown, Dc.search_of_passes (by exact shown), ih]
        rfl
  by_cases h : d.dwell ≤ 1
  · rw [Dc.rotate, Dc.rotate, if_pos h, if_pos (by exact h), search]
    rfl
  · rw [Dc.rotate, Dc.rotate, if_neg h, if_neg (by exact h)]

/-! ## The countdown (R139) -/

/-- The chosen host notice of an entry is removed by the countdown (R139, R140). -/
def runsOut (s : State) (e : Entry) : Bool :=
  match chosen s e with
  | .host _ n => n.countDown.isNone
  | _ => false

/-- The HEADER blocks in flight that the countdown marks. -/
def runOutTest (s : State) (d : Nat) (k : BlockKind) : Bool :=
  s.cm.list.any fun e => e.coach.id = d && (e.blocks.get k).valid && (k = .header && runsOut s e)

theorem countNotices_eq (s : State) : countNotices s =
    markHeaders (fun e => ((s.cm.list.filter (runsOut s)).map (·.coach.id)).contains e.coach.id)
      (s.mapCoaches Coach.countDown) := rfl

/-- An entry is told to the composer exactly when its chosen notice runs out. -/
theorem contains_runsOut (o : ConsistOk s.cm) {e : Entry} (m : e ∈ s.cm.list) :
    ((s.cm.list.filter (runsOut s)).map (·.coach.id)).contains (e.mapCoach Coach.countDown).coach.id = runsOut s e := by
  rw [Bool.eq_iff_iff, List.contains_iff_mem]
  exact (Cm.Distinct.of_consistOk o).mem_map_filter m

theorem countNotices_cm (o : ConsistOk s.cm) (a : s.dc.advanced = []) :
    (countNotices s).cm = s.cm.recoached Coach.countDown (runsOut s) :=
  mapCoaches_marked a fun _ m => contains_runsOut o m

/-- The lines after the HEADER marks that a command makes first: the frame of a block marked is aborted (R159). -/
theorem markHeaders_lines (pick : Entry → Bool) (a : s.dc.advanced = []) :
    let u := abortIf (fun d k => s.cm.list.any fun e => e.coach.id = d && (e.blocks.get k).valid && (pick e && k = .header)) s
    (markHeaders pick s).bc = u.bc ∧ (markHeaders pick s).sup = u.sup := by
  have marked := markBlocks_first (fun e k => pick e && k = .header) s a
  rw [abortIf_setCm] at marked
  have bc := congrArg State.bc marked
  have sup := congrArg State.sup marked
  rw [State.setDc_bc, State.setCm_bc] at bc
  rw [State.setDc_sup, State.setCm_sup] at sup
  exact ⟨bc, sup⟩

theorem countNotices_lines (o : ConsistOk s.cm) (a : s.dc.advanced = []) :
    (countNotices s).bc = (abortIf (runOutTest s) s).bc ∧ (countNotices s).sup = (abortIf (runOutTest s) s).sup := by
  obtain ⟨bc, sup⟩ := markHeaders_lines (s := s.mapCoaches Coach.countDown)
    (fun e => ((s.cm.list.filter (runsOut s)).map (·.coach.id)).contains e.coach.id) a
  have test : (fun (d : Nat) (k : BlockKind) => (s.mapCoaches Coach.countDown).cm.list.any fun e => e.coach.id = d
      && (e.blocks.get k).valid
      && (((s.cm.list.filter (runsOut s)).map (·.coach.id)).contains e.coach.id && decide (k = .header))) = runOutTest s := by
    funext d k
    rw [State.mapCoaches, State.setCm_cm, List.any_map, runOutTest, Bool.eq_iff_iff, List.any_eq_true, List.any_eq_true]
    refine exists_congr fun e => and_congr_right fun m => ?_
    rw [Function.comp_apply, contains_runsOut o m, Bool.and_comm (runsOut s e)]
    rfl
  rw [test, State.mapCoaches, abortIf_setCm] at bc sup
  exact ⟨bc, sup⟩

theorem countNotices_clc (s : State) : (countNotices s).clc = s.clc := by simp [countNotices]

theorem kept_countNotices (s : State) : Kept s (countNotices s) := (kept_setCm s _).trans (kept_markHeaders _ _)

theorem anyNotice_iff (o : ConsistOk s.cm) (a : s.dc.advanced = []) : (countNotices s).cm.anyNotice = true ↔
    ∃ e ∈ s.cm.list, e.coach.countDown.notices ≠ [] := by
  rw [countNotices_cm o a]
  simp [Cm.anyNotice, Cm.recoached]

/-! ## The beacon -/

/-- The lines once the BEACON frame has gone whole (R147, R149, R154). -/
theorem Bc.sends_beaconSent (seg : b.segment = .beaconSent) (past : 60 ≤ b.clock) (eight : b.beacon.length = 8) (line : Line) :
    b.sends line = [.start, .data 1, .data 1, .data 8] ++ b.beacon.map .data
      ++ (wordBytes (crc16 ([1, 8] ++ b.beacon))).map .data ++ [.stop] := by
  have begun : (downFrame beaconKind b.beacon).length ≤ begunBy b.clock := by
    rw [downFrame_length, eight, begunBy, ceilDiv]
    omega
  rw [Bc.sends_symbols, Bc.symbols, seg]
  show (downFrame beaconKind b.beacon).take (begunBy b.clock) = _
  rw [List.take_of_length_le begun]
  simp [downFrame, downSymbols, crcSpan, u8, beaconKind, eight]

/-- No frame, no abort (R159). -/
theorem abortIf_of_no_frame {test : Nat → BlockKind → Bool} (none : s.bc.frame = none) : abortIf test s = s := by
  rw [abortIf, none]

/-- The state in which the composer takes the cycle start: the beacon has been sent. -/
def beaconGone (s : State) : State := (runTo 60 s).setBc { (runTo 60 s).bc with segment := .beaconSent }

theorem beaconGone_clock (seg : s.bc.segment = .beacon) : (beaconGone s).bc.clock = max s.bc.clock 60 := by
  show max s.bc.clock (min 60 s.bc.segment.length) = _
  rw [seg]
  rfl

theorem beaconGone_of_quiet (seg : s.bc.segment = .beacon) (none : s.bc.frame = none) :
    beaconGone s = s.setBc { s.bc with segment := .beaconSent, clock := max s.bc.clock 60 } := by
  rw [beaconGone, runTo_of_quiet none, seg]
  rfl

theorem exec_cycleStart (r : s.clc.ready ≠ .held) (a : s.dc.advanced = []) (seg : s.bc.segment = .beacon) :
    exec .cycleStart s = .next ((composerCycle (beaconGone s)).setDc
      { (composerCycle (beaconGone s)).dc with advanced := [] }) := by
  have sent : beaconEnd s = composerCycle (beaconGone s) := by
    rw [beaconEnd, seg]
    rfl
  rw [← sent]
  exact congrArg Host.Outcome.next (event_running r a)

/-- The rotation after the cycle start, by the stacks counted down. -/
theorem composerCycle_dc (a : s.dc.advanced = []) :
    ({ (composerCycle s).dc with advanced := [] } : Dc) = s.dc.rotate (countNotices s).cm.anyNotice := by
  rw [composerCycle, State.setDc_dc, Dc.rotate_advanced, (kept_countNotices s).dc_emptied a]

/-- Settles O49: the countdown, the rotation by its dwell and its candidates, and the lines. -/
theorem cycleStartCountsNoticesThenRotates : Obligations.CycleStartCountsNoticesThenRotates := by
  unfold Obligations.CycleStartCountsNoticesThenRotates
  intro s r a o seg
  have o' : ConsistOk (beaconGone s).cm := o
  have a' : (beaconGone s).dc.advanced = [] := a
  have dc := composerCycle_dc a'
  have shows (i : Nat) := and_congr_right (a := (s.dc.entryAt i).page ≠ .empty) fun _ =>
    imp_congr_right (a := (s.dc.entryAt i).page = .notice) fun _ => anyNotice_iff o' a'
  obtain ⟨bc, sup⟩ := countNotices_lines o' a'
  refine ⟨_, exec_cycleStart r a seg, countNotices_cm o' a', fun more => ?_, fun low n few pass shown => ?_, fun low pass => ?_,
    ⟨bc, sup⟩, fun none => ?_, fun eight line => ?_, ?_, ?_, ?_, ?_⟩
  · exact dc.trans (Dc.rotate_of_dwell more)
  · exact dc.trans (Dc.rotate_of_shows low few (fun m lt => (shows _).not.mpr (pass m lt)) ((shows _).mpr shown))
  · exact dc.trans (Dc.rotate_of_none low fun m lt => (shows _).not.mpr (pass m lt))
  · have still : abortIf (runOutTest (beaconGone s)) (beaconGone s) = beaconGone s :=
      abortIf_of_no_frame (by rw [beaconGone_of_quiet seg none]; exact none)
    have quiet := beaconGone_of_quiet seg none
    rw [still] at bc sup
    exact ⟨bc.trans (congrArg State.bc quiet), sup⟩
  · have gone : (countNotices (beaconGone s)).bc.segment = .beaconSent := by rw [bc, abortIf_bc_segment]; rfl
    have past : 60 ≤ (countNotices (beaconGone s)).bc.clock := by
      rw [bc, abortIf_bc_clock, beaconGone_clock seg]
      exact Nat.le_max_right ..
    have beacon : (countNotices (beaconGone s)).bc.beacon = s.bc.beacon := by rw [bc, abortIf_bc_beacon]; rfl
    have sent := Bc.sends_beaconSent gone past (beacon ▸ eight) line
    rw [beacon] at sent
    exact sent
  · exact composerCycle_jt _
  · exact composerCycle_rs _
  · exact countNotices_clc _
  · exact (kept_countNotices _).pending

end Sys2Proof.Machine
end

section
/-! REFRESH COACH and the settings of the page rotation (R129, R130, R142, R143): statement O46. -/

namespace Sys2Proof.Machine

variable {s : State} {tag : Nat}

/-! ## Requests whose DONE changes one block -/

/-- A request whose DONE changes the consist alone. -/
theorem exec_done_cm {c : Instr} {kind : Nat} (h : Free s) (k : c.request = some (kind, tag))
    (l : requestKinds.contains kind = true) {m : Cm} {data : List Byte}
    (a : ∀ q, act c (s.withQueue q) = done ((s.withQueue q).setCm m) data) :
    exec c s = .next (answered kind tag (some c) .done data (s.setCm m)) :=
  have ⟨ready, _, replies, _⟩ := h
  exec_now h k l a ready replies

/-- A request whose DONE changes the rotation alone. -/
theorem exec_done_dc {c : Instr} {kind : Nat} (h : Free s) (k : c.request = some (kind, tag))
    (l : requestKinds.contains kind = true) {d : Dc} (a : ∀ q, act c (s.withQueue q) = done ((s.withQueue q).setDc d) []) :
    exec c s = .next (answered kind tag (some c) .done [] (s.setDc d)) :=
  have ⟨ready, _, replies, _⟩ := h
  exec_now h k l a ready replies

/-! ## REFRESH COACH -/

/-- The list with every valid block of the entries picked dirty (R129). -/
def Cm.dirtied (c : Cm) (pick : Entry → Bool) : Cm :=
  { c with list := c.list.map fun (e : Entry) =>
      { e with blocks := .ofKinds fun k =>
        if (e.blocks.get k).valid && pick e then { (e.blocks.get k) with dirty := true } else e.blocks.get k } }

/-- A test that no block meets aborts nothing (R159). -/
theorem abortIf_of_none {test : Nat → BlockKind → Bool} (h : ∀ d k, test d k = false) : abortIf test s = s := by
  unfold abortIf
  split
  · rw [h, Bool.and_false]
    rfl
  · rfl

/-- Effects that advance no block change the blocks alone (R126, R129). -/
theorem revise_of_no_advance {f : Entry → BlockKind → BlockEffect} (h : ∀ e k, (f e k).advances = false) :
    revise f s = s.setCm { s.cm with list := revisedList f s } := by
  have fresh : (s.cm.list.flatMap fun e => (BlockKind.all.filter fun k =>
      (f e k).advances && !s.dc.advanced.contains (e.coach.id, k)).map fun k => (e.coach.id, k)) = [] := by
    simp [h]
  unfold revise
  dsimp only
  rw [fresh, abortIf_of_none fun d k => List.contains_nil, List.append_nil]
  rfl

/-- A dirty mark advances no block, so that it aborts no frame (R129). -/
theorem dirtyBlocks_eq (pick : Entry → Bool) (s : State) : dirtyBlocks pick s = s.setCm (s.cm.dirtied pick) := by
  refine (revise_of_no_advance fun e k => ?_).trans ?_
  · split <;> rfl
  · have list : revisedList (fun e k => if (e.blocks.get k).valid && pick e then .dirty else .keep) s
        = (s.cm.dirtied pick).list := by
      refine List.map_congr_left fun e _ => ?_
      congr 2
      funext k
      dsimp only
      split <;> rfl
    rw [list]
    rfl

/-- REFRESH COACH to a single identity, by where it stands (R130). -/
theorem exec_refreshCoach_one {id : Nat} (h : Free s) (i : id ≠ 0) :
    let reply := answered 0x40 tag (some (.refreshCoach tag 0 id))
    exec (.refreshCoach tag 0 id) s = .next (
      match s.cm.list.find? fun e => e.coach.id = id with
      | some e => reply .done (u8 e.blocks.validCount) (s.setCm (s.cm.dirtied fun x => x.coach.id = id))
      | none => if ∃ k ∈ s.cm.detached, k.id = id then reply .wrongState [] s else reply .notFound [] s) := by
  have taken (q : List Queued) : act (.refreshCoach tag 0 id) (s.withQueue q) =
      match s.cm.placeOf id with
      | .nowhere => refuse (s.withQueue q) .notFound
      | .detached _ => refuse (s.withQueue q) .wrongState
      | .list e => done (dirtyBlocks (fun x => x.coach.id = id) (s.withQueue q)) (u8 e.blocks.validCount) := if_neg i
  simp only [Cm.placeOf, Cm.entryOf, dirtyBlocks_eq] at taken
  dsimp only
  cases list : s.cm.list.find? fun e => e.coach.id = id with
  | some e =>
    simp only [list] at taken ⊢
    exact exec_done_cm h rfl rfl taken
  | none =>
    simp only [list] at taken ⊢
    cases detached : s.cm.detached.find? fun k => k.id = id with
    | some k =>
      simp only [detached] at taken
      have stands : ∃ k ∈ s.cm.detached, k.id = id :=
        ⟨k, List.mem_of_find?_eq_some detached, by simpa using List.find?_some detached⟩
      rw [if_pos stands]
      exact exec_refused h rfl rfl taken
    | none =>
      simp only [detached] at taken
      have nowhere : ¬ ∃ k ∈ s.cm.detached, k.id = id := by simpa using List.find?_eq_none.mp detached
      rw [if_neg nowhere]
      exact exec_refused h rfl rfl taken

/-! ## The page rotation -/

/-- The page of a code up to 5 (R225). -/
def pageOf : Nat → PageKind
  | 1 => .nextStop
  | 2 => .seats
  | 3 => .routeMap
  | 4 => .coach
  | 5 => .notice
  | _ => .empty

theorem PageKind.ofCode_eq (page : Nat) : PageKind.ofCode page = if 5 < page then none else some (pageOf page) := by
  match page with
  | 0 | 1 | 2 | 3 | 4 | 5 => rfl
  | n + 6 => rw [if_pos (by omega)]; rfl

/-- SET ROTATION ENTRY by its checks (R142). -/
theorem doSetRotationEntry_eq (index page dwell next : Nat) (s : State) : doSetRotationEntry index page dwell next s =
    if 11 < index ∨ 11 < next ∨ 5 < page ∨ dwell < 1 ∨ 255 < dwell then refuse s .badField
    else done (s.setDc { s.dc with table := s.dc.table.set index { page := pageOf page, dwell := dwell, next := next } }) [] := by
  rw [doSetRotationEntry, PageKind.ofCode_eq]
  by_cases far : 5 < page
  · rw [if_pos far, if_pos (.inr (.inr (.inl far)))]
  · rw [if_neg far]
    dsimp only
    refine if_congr ?_ rfl rfl
    simp only [Bool.or_eq_true, decide_eq_true_eq, far, false_or, or_assoc]

/-- Settles O46: the requests check by check. -/
theorem refreshAndRotationAreSet : Obligations.RefreshAndRotationAreSet := by
  unfold Obligations.RefreshAndRotationAreSet
  refine ⟨fun tag target id s h => ?_, fun tag index page dwell next s h => ?_, fun tag index s h => ?_⟩
  · dsimp only
    match target with
    | 0 =>
      by_cases zero : id = 0
      · rw [if_pos (.inr ⟨rfl, zero⟩)]
        exact exec_refused h rfl rfl fun q => if_pos zero
      · rw [if_neg (by omega), if_neg (by omega)]
        exact exec_refreshCoach_one h zero
    | 1 =>
      rw [if_neg (by omega), if_pos rfl]
      refine exec_done_cm (m := s.cm.dirtied fun _ => true) h rfl rfl fun q => ?_
      show done (dirtyBlocks _ _) _ = _
      rw [dirtyBlocks_eq]
      rfl
    | n + 2 =>
      rw [if_pos (.inl (by omega))]
      exact exec_refused h rfl rfl fun q => rfl
  · have taken (q : List Queued) : act (.setRotationEntry tag index page dwell next) (s.withQueue q) = _ :=
      doSetRotationEntry_eq index page dwell next (s.withQueue q)
    dsimp only
    split
    · next bad => exact exec_refused h rfl rfl fun q => (taken q).trans (if_pos bad)
    · next good => exact exec_done_dc h rfl rfl fun q => (taken q).trans (if_neg good)
  · dsimp only
    split
    · next bad => exact exec_refused h rfl rfl fun q => if_pos bad
    · next good => exact exec_done_dc h rfl rfl fun q => if_neg good

end Sys2Proof.Machine
end

section
/-! The backbone receivers (R147 to R151, R154): statement O51. -/

namespace Sys2Proof.Machine

variable {s : State} {rx rx' : BackboneRx} {g : Takings} {k l b : Byte} {p q : List Byte} {rest : List Symbol}
  {opens ends t : Nat}

/-! ## One symbol, by the table of R150 -/

/-- After the length byte a frame without payload is at its CRC (R150). -/
theorem BackboneRx.bodyOf_eq (k l : Byte) :
    BackboneRx.bodyOf k l = if l.toNat = 0 then .trailer k l [] [] else .body k l [] := by
  rw [BackboneRx.bodyOf]
  exact if_congr BitVec.toNat_inj.symm rfl rfl

/-- The length byte: above 208 it ends the frame (R148, R150). -/
theorem BackboneRx.data_length : ((BackboneRx.header (some k)).data b).1 =
    if b.toNat = 0 then .trailer k b [] [] else if b.toNat ≤ 208 then .body k b [] else .hunt := by
  rw [BackboneRx.data, apply_ite Prod.fst, BackboneRx.bodyOf_eq, maxPayload]
  by_cases long : 208 < b.toNat
  · rw [if_pos long, if_neg (by omega), if_neg (by omega)]
  · rw [if_neg long, if_pos (show b.toNat ≤ 208 by omega)]

/-- A payload byte: the last one announced leads to the CRC (R150). -/
theorem BackboneRx.data_body : (BackboneRx.body k l p).data b =
    (if p.length + 1 < l.toNat then .body k l (p ++ [b]) else .trailer k l (p ++ [b]) [], none) := by
  simp only [BackboneRx.data, List.length_append, List.length_singleton]
  split_ifs <;> rfl

/-- The end marker ends any frame (R150). -/
theorem BackboneRx.stop_hunts (rx : BackboneRx) : rx.stop.1 = .hunt := by
  unfold BackboneRx.stop
  split <;> rfl

/-! ## A whole frame -/

/-- The two CRC bytes of a frame spell the value they were formed from (R149). -/
theorem wordOf_wordBytes (w : BitVec 16) : wordOf (w.extractLsb' 8 8) (w.extractLsb' 0 8) = w := by
  exact (BitVec.extractLsb'_append_extractLsb'_eq_extractLsb' (start₁ := 0) (len₁ := 8) rfl).trans BitVec.extractLsb'_eq_self

/-- A symbol that ends within the segment, once the listening period has begun (R163). -/
theorem receive_heard (heard : opens ≤ t) (within : t + 4 ≤ ends) (x : Symbol) :
    receive (some opens) ends t (x :: rest) (rx, g)
      = receive (some opens) ends (t + 4) rest ((rx.take x).1, g.take t x (rx.take x).2) := by
  simp [receive, heard, within]

/-- While the frame goes on, a byte changes nothing of what was taken. -/
theorem receive_byte (heard : opens ≤ t) (within : t + 4 ≤ ends) (running : g.frame = none)
    (goes : rx.data b = (rx', none)) :
    receive (some opens) ends t (.data b :: rest) (rx, g) = receive (some opens) ends (t + 4) rest (rx', g) := by
  have same : g.take t (.data b) none = g := by
    obtain ⟨starts, violation, startAt, frame⟩ := g
    cases running
    simp [Takings.take]
  rw [receive_heard heard within, BackboneRx.take, goes, same]

/-- The payload bytes that the length byte still announces lead to the CRC (R150). -/
theorem receive_body (heard : opens ≤ t) (within : t + 4 * p.length ≤ ends) (running : g.frame = none) (more : p ≠ [])
    (announced : q.length + p.length = l.toNat) :
    receive (some opens) ends t (p.map .data ++ rest) (.body k l q, g)
      = receive (some opens) ends (t + 4 * p.length) rest (.trailer k l (q ++ p) [], g) := by
  induction p generalizing t q with
  | nil => exact absurd rfl more
  | cons b p ih =>
    rw [List.length_cons] at within announced ⊢
    rw [List.map_cons, List.cons_append, receive_byte heard (by omega) running BackboneRx.data_body]
    by_cases last : p = []
    · subst last
      rw [List.length_nil] at announced
      rw [if_neg (by omega)]
      rfl
    · have left := List.length_pos_iff.mpr last
      rw [if_pos (by omega), ih (by omega) (by omega) last (by simp; omega), List.append_assoc, List.singleton_append]
      congr 1
      omega

/-- The payload of a frame after its length byte, empty or not. -/
theorem receive_payload (heard : opens ≤ t) (within : t + 4 * p.length ≤ ends) (running : g.frame = none)
    (announced : p.length = l.toNat) :
    receive (some opens) ends t (p.map .data ++ rest) (.bodyOf k l, g)
      = receive (some opens) ends (t + 4 * p.length) rest (.trailer k l p [], g) := by
  rw [BackboneRx.bodyOf_eq]
  by_cases empty : p = []
  · subst empty
    rw [if_pos (show l.toNat = 0 from announced.symm)]
    rfl
  · have more := List.length_pos_iff.mpr empty
    rw [if_neg (by omega)]
    exact receive_body heard within running empty (by simpa using announced)

/-- What a line has taken after one whole frame with a good CRC. -/
def Takings.whole (t : Nat) (k : Byte) (p : List Byte) : Takings :=
  { starts := 1, violation := false, startAt := t, frame := some (.complete k p true) }

/-- A whole frame with a good CRC, from HUNT and with nothing taken before (R149, R150, R163). -/
theorem receive_frame (heard : opens ≤ t) (within : t + 4 * (p.length + 6) ≤ ends) (short : p.length ≤ 208) :
    let span := k :: BitVec.ofNat 8 p.length :: p
    receive (some opens) ends t (.start :: ((span ++ wordBytes (crc16 span)).map .data ++ [.stop])) (.hunt, .nothing)
      = (.hunt, .whole t k p) := by
  intro span
  have announced : p.length = (BitVec.ofNat 8 p.length).toNat := by
    rw [BitVec.toNat_ofNat]
    omega
  have length : (BackboneRx.header (some k)).data (BitVec.ofNat 8 p.length) = (.bodyOf k (BitVec.ofNat 8 p.length), none) :=
    if_neg (by rw [← announced, maxPayload]; omega)
  have symbols : ((span ++ wordBytes (crc16 span)).map Symbol.data ++ [.stop]) =
      .data k :: .data (BitVec.ofNat 8 p.length) :: (p.map .data ++ [.data ((crc16 span).extractLsb' 8 8),
        .data ((crc16 span).extractLsb' 0 8), .stop]) := by
    simp [span, wordBytes]
  rw [symbols, receive_heard heard (by omega), receive_byte (by omega) (by omega) rfl rfl,
    receive_byte (by omega) (by omega) rfl length, receive_payload (by omega) (by omega) rfl announced,
    receive_byte (by omega) (by omega) rfl rfl, receive_byte (by omega) (by omega) rfl rfl,
    receive_heard (by omega) (by omega)]
  have good : crc16 span = wordOf ((crc16 span).extractLsb' 8 8) ((crc16 span).extractLsb' 0 8) := (wordOf_wordBytes _).symm
  have done : (BackboneRx.trailer k (BitVec.ofNat 8 p.length) p (wordBytes (crc16 span))).stop =
      (.hunt, some (.complete k p true)) := by
    rw [wordBytes, BackboneRx.stop, decide_eq_true good]
  show ((BackboneRx.stop _).1, Takings.take _ _ .stop (BackboneRx.stop _).2) = _
  rw [List.nil_append, List.singleton_append, ← wordBytes, done]
  rfl

/-! ## The receivers as parts of the backbone -/

/-- The receiver of a line with what it has taken. -/
def Bc.heard (b : Bc) : Line → BackboneRx × Takings
  | .a => (b.rxA, b.gotA)
  | .b => (b.rxB, b.gotB)

/-- The backbone with the receiver of a line moved on. -/
def Bc.hears (b : Bc) (x : BackboneRx × Takings) : Line → Bc
  | .a => { b with rxA := x.1, gotA := x.2 }
  | .b => { b with rxB := x.1, gotB := x.2 }

theorem Bc.receiving_iff (b : Bc) :
    b.receiving = true ↔ b.segment ≠ .none ∧ b.segment ≠ .beacon ∧ b.segment ≠ .beaconSent := by
  unfold Bc.receiving
  split <;> simp [*]

/-- Outside the beacon segment symbols move the receiver of their line, after time has run on to their end. -/
theorem takeSymbols_of_receiving (on : s.bc.receiving = true) (line : Line) (t : Nat) (symbols : List Symbol) :
    takeSymbols line t symbols s =
      let u := runTo (t + 4 * symbols.length) s
      u.setBc (u.bc.hears (receive u.bc.listenAt u.bc.segment.length t symbols (u.bc.heard line)) line) := by
  rw [takeSymbols, if_pos on]
  cases line <;> rfl

/-- While OFF and in the beacon segment the receivers do not run (R151, R154, log entry 26). -/
theorem takeSymbols_of_not_receiving (off : s.bc.receiving = false) (line : Line) (t : Nat) (symbols : List Symbol) :
    takeSymbols line t symbols s = s := by
  rw [takeSymbols, if_neg (by simp [off])]

theorem takeSymbols_dc (line : Line) (t : Nat) (symbols : List Symbol) : (takeSymbols line t symbols s).dc = s.dc := by
  cases on : s.bc.receiving with
  | false => rw [takeSymbols_of_not_receiving on]
  | true => rw [takeSymbols_of_receiving on]; rfl

/-- Symbols received as an event of a running controller between commands. -/
theorem exec_backboneFrameReceived (r : s.clc.ready ≠ .held) (d : s.dc.advanced = []) (line : Line) (t : Nat)
    (symbols : List Symbol) : exec (.backboneFrameReceived line t symbols) s = .next (takeSymbols line t symbols s) :=
  congrArg Host.Outcome.next (event_eq r d (by rw [takeSymbols_dc, d]))

/-- One symbol that ends within the segment moves the receiver of its line by the table, and of the rest nothing but the
time and the frame being sent. -/
theorem takeSymbols_one (on : s.bc.receiving = true) (within : t + 4 ≤ s.bc.segment.length) (line : Line) (x : Symbol) :
    ∃ g, takeSymbols line t [x] s =
      (runTo (t + 4) s).setBc ((runTo (t + 4) s).bc.hears (((s.bc.heard line).1.take x).1, g) line) := by
  let u := runTo (t + 4) s
  have moves : (receive u.bc.listenAt u.bc.segment.length t [x] (u.bc.heard line)).1 = ((s.bc.heard line).1.take x).1 := by
    rw [receive, if_pos (show t + 4 ≤ u.bc.segment.length from within), receive]
    rfl
  rw [takeSymbols_of_receiving on, ← moves]
  exact ⟨_, rfl⟩

/-- In the listening period of a slot a whole frame is taken whole, on either line. -/
theorem takeSymbols_frame {n : Nat} {f : ContentFrame} (seg : s.bc.segment = .slot n) (at_ : s.bc.frame = some f)
    (ended : f.state ≠ .sending) (short : p.length ≤ 208) (listening : f.endAt ≤ t) (within : t + 4 * (p.length + 6) ≤ 2000)
    (line : Line) (ready : s.bc.heard line = (.hunt, .nothing)) :
    let span := k :: BitVec.ofNat 8 p.length :: p
    takeSymbols line t (.start :: ((span ++ wordBytes (crc16 span)).map .data ++ [.stop])) s
      = s.setBc ({ s.bc with clock := max s.bc.clock (t + 4 * (p.length + 6)) }.hears (.hunt, .whole t k p) line) := by
  intro span
  have length : s.bc.segment.length = 2000 := by rw [seg]; rfl
  have on : s.bc.receiving = true := by rw [Bc.receiving, seg]
  have opens : s.bc.listenAt = some f.endAt := by
    rw [Bc.listenAt, seg, at_]
    exact if_neg ended
  have count : (Symbol.start :: ((span ++ wordBytes (crc16 span)).map .data ++ [.stop])).length = p.length + 6 := by
    simp [span, wordBytes]
  have run : runTo (t + 4 * (p.length + 6)) s = s.setBc { s.bc with clock := max s.bc.clock (t + 4 * (p.length + 6)) } := by
    rw [runTo_of_ended at_ ended, length, min_eq_left within]
  have taken := receive_frame (k := k) listening within short
  rw [← opens, ← length, ← ready] at taken
  rw [takeSymbols_of_receiving on, count, run, ← taken]
  cases line <;> rfl

/-- Settles O51: OFF and the beacon segment, one symbol by the table, and a whole frame in a slot. -/
theorem backboneReceiversFollowTheirTable : Obligations.BackboneReceiversFollowTheirTable := by
  unfold Obligations.BackboneReceiversFollowTheirTable
  refine ⟨fun line t symbols s r d quiet => ?_, fun line t x s r d idle beacon sent within => ?_,
    fun line t n k p f s r d seg at_ ended short listening within => ?_⟩
  · have off : s.bc.receiving = false := by
      rw [← Bool.not_eq_true, Bc.receiving_iff]
      tauto
    rw [exec_backboneFrameReceived r d, takeSymbols_of_not_receiving off]
  · have on := s.bc.receiving_iff.mpr ⟨idle, beacon, sent⟩
    obtain ⟨g, taken⟩ := takeSymbols_one on within line x
    intro rx goes
    have here : (s.bc.heard line).1 = rx := by cases line <;> rfl
    have table : (rx.take x).1 = goes := by
      clear_value rx
      cases x with
      | start => rfl
      | stop => exact rx.stop_hunts
      | abort => rfl
      | violation => rfl
      | data b =>
        cases rx with
        | hunt => rfl
        | header kind =>
          cases kind with
          | none => rfl
          | some k => exact BackboneRx.data_length
        | body k l p => exact congrArg Prod.fst BackboneRx.data_body
        | trailer k l p c => exact apply_ite Prod.fst _ _ _
    rw [here, table] at taken
    refine ⟨_, exec_backboneFrameReceived r d line t [x], ?_⟩
    rw [taken]
    refine ⟨?_, ?_, rfl, rfl, rfl, rfl, rfl, rfl⟩
    · rintro rfl
      exact ⟨rfl, rfl, rfl⟩
    · rintro rfl
      exact ⟨rfl, rfl, rfl⟩
  · have taken (ready : s.bc.heard line = (.hunt, .nothing)) := (exec_backboneFrameReceived r d line t _).trans
      (congrArg Host.Outcome.next (takeSymbols_frame (k := k) seg at_ ended short listening within line ready))
    refine ⟨?_, ?_⟩
    · rintro rfl hunt nothing
      rw [taken (Prod.ext hunt nothing), ← hunt]
      rfl
    · rintro rfl hunt nothing
      rw [taken (Prod.ext hunt nothing), ← hunt]
      rfl

end Sys2Proof.Machine
end

section
/-! One step: the front command, or one symbol time (log entries 1 and 3): statement O1. -/

namespace Sys2Proof.Machine

/-- One symbol time of the backbone (R147). -/
theorem symbolTime_eq (s : State) : symbolTime s =
    let now := max s.bc.clock (min (s.bc.clock + 4) s.bc.segment.length)
    s.setBc { s.bc with
      clock := now
      frame := s.bc.frame.map fun f => f.sendTo (contentPayload s f.dest f.kind f.gen) now } := rfl

/-- Settles O1, by the queue of waiting commands. -/
theorem stepRunsFrontCommand : Obligations.StepRunsFrontCommand := by
  unfold Obligations.StepRunsFrontCommand
  refine ⟨fun c rest s front => ?_, fun s empty => ?_⟩
  · rw [step, front]
  · rw [step, empty]
    exact congrArg Host.Outcome.next (symbolTime_eq s)

end Sys2Proof.Machine
end

section
/-! The settings of line and node supervision (R180, R190 to R192): statement O47. -/

namespace Sys2Proof.Machine

variable {s : State} {tag : Nat}

/-- A request whose DONE changes supervision alone. -/
theorem exec_done_sup {c : Instr} {kind : Nat} (h : Free s) (k : c.request = some (kind, tag))
    (l : requestKinds.contains kind = true) {u : Sup} {data : List Byte}
    (a : ∀ q, act c (s.withQueue q) = done ((s.withQueue q).setSup u) data) :
    exec c s = .next (answered kind tag (some c) .done data (s.setSup u)) :=
  have ⟨ready, _, replies, _⟩ := h
  exec_now h k l a ready replies

/-- LOCK TABLE of a table named (R190). -/
theorem exec_lockTable {table n : Nat} (h : Free s) (named : tableNamed table = some n) :
    let lock := (s.sup.table n).lockTaken
    exec (.lockTable tag table) s = .next (answered 0x53 tag (some (.lockTable tag table)) .done (u8 lock.code)
      (s.setSup (s.sup.setTable n { s.sup.table n with lock := lock }))) := by
  refine exec_done_sup h rfl rfl fun q => ?_
  show doLockTable table (s.withQueue q) = _
  rw [doLockTable, named]
  rfl

/-- UNLOCK TABLE of a table named (R191). -/
theorem exec_unlockTable {table n : Nat} (h : Free s) (named : tableNamed table = some n) :
    exec (.unlockTable tag table) s = .next (answered 0x54 tag (some (.unlockTable tag table)) .done [0]
      (s.setSup (s.sup.setTable n { s.sup.table n with lock := .unlocked }))) := by
  refine exec_done_sup h rfl rfl fun q => ?_
  show doUnlockTable table (s.withQueue q) = _
  rw [doUnlockTable, named]
  rfl

/-- Settles O47, request by request: the mask's stray bits, the tables by name, the capture modes by code. -/
theorem lineFlagsLocksAndCaptureAreSet : Obligations.LineFlagsLocksAndCaptureAreSet := by
  unfold Obligations.LineFlagsLocksAndCaptureAreSet
  refine ⟨fun tag mask s h => ?_, fun tag table s h => ?_, fun tag mode s h => ?_⟩
  · dsimp only
    split
    · next stray => exact exec_refused h rfl rfl fun q => if_pos stray
    · next good => exact exec_done_sup h rfl rfl fun q => if_neg good
  · match table with
    | 0 => exact ⟨exec_lockTable (n := 0) h rfl, exec_unlockTable (n := 0) h rfl⟩
    | 1 => exact ⟨exec_lockTable (n := 1) h rfl, exec_unlockTable (n := 1) h rfl⟩
    | n + 2 =>
      have unnamed : 1 < n + 2 := by omega
      simp only [if_pos unnamed]
      exact ⟨exec_refused h rfl rfl fun q => rfl, exec_refused h rfl rfl fun q => rfl⟩
  · match mode with
    | 0 => exact exec_done_sup h rfl rfl fun q => rfl
    | 1 => exact exec_done_sup h rfl rfl fun q => rfl
    | n + 2 => exact exec_refused h rfl rfl fun q => rfl

end Sys2Proof.Machine
end

section
/-! The lines and the node status table at the quiet gap (R182 to R184, R189, R193): statement O56. -/

namespace Sys2Proof.Machine

variable {s : State}

/-! ## A line at the quiet gap -/

/-- The run counts of a line: kept in a neutral cycle, otherwise one up or 0 (R182). -/
theorem LineSup.runsNext_eq (l : LineSup) : l.runsNext =
    if l.obs.entrySlot = false then l.runs
    else
      { short := if l.obs.short then min 8 (l.runs.short + 1) else 0
        silent := if l.obs.carried then 0 else min 32 (l.runs.silent + 1)
        full := if l.obs.carried && !l.obs.short then min 8 (l.runs.full + 1) else 0 } := by
  cases entry : l.obs.entrySlot with
  | false => simp [LineSup.runsNext, entry]
  | true => cases carried : l.obs.carried <;> simp [LineSup.runsNext, runNext, entry, carried]

/-- The state of a line after its run counts, by the state before (R183). -/
theorem LineState.next_eq (st : LineState) (r : Runs) : st.next r =
    match st with
    | .ok => if r.silent = 32 then .dead else if r.short = 8 then .degraded else .ok
    | .degraded => if r.silent = 32 then .dead else if r.full = 8 then .ok else .degraded
    | .dead => if r.full = 8 then .ok else .dead := by
  cases st <;> simp [LineState.next]

/-! ## The table of the cycle completed -/

/-- The other table, that of the next cycle's parity (R187). -/
theorem Sup.table_succ (u : Sup) (n : Nat) : u.table (n + 1) = if n % 2 = 0 then u.odd else u.even := by
  obtain even | odd := Nat.mod_two_eq_zero_or_one n
  · have next : (n + 1) % 2 = 1 := by omega
    simp [Sup.table, even, next]
  · have next : (n + 1) % 2 = 0 := by omega
    simp [Sup.table, odd, next]

/-- A table replaced leaves the rest of supervision (R189). -/
theorem Sup.setTable_rest (u : Sup) (n : Nat) (t : NodeTable) : (u.setTable n t).a = u.a ∧ (u.setTable n t).b = u.b
    ∧ (u.setTable n t).mismatch = u.mismatch ∧ (u.setTable n t).capture = u.capture := by
  unfold Sup.setTable
  split <;> exact ⟨rfl, rfl, rfl, rfl⟩

/-- The completion of a cycle touches the table of the cycle and the capture setting alone (R189, R193). -/
theorem Sup.complete_rest (u : Sup) (n : Nat) : (u.complete n).a = u.a ∧ (u.complete n).b = u.b
    ∧ (u.complete n).mismatch = u.mismatch ∧ (u.complete n).table (n + 1) = u.table (n + 1) := by
  obtain ⟨a, b, mismatch, -⟩ := u.setTable_rest n ((u.table n).completed n)
  have next := u.table_setTable_next n ((u.table n).completed n)
  unfold Sup.complete
  dsimp only
  split_ifs
  · exact ⟨a, b, mismatch, next⟩
  · exact ⟨a, b, mismatch, next⟩
  · exact ⟨rfl, rfl, rfl, rfl⟩

/-- The table of a cycle that updates it is completed, and any other left (R189). -/
theorem Sup.complete_table_same (u : Sup) (n : Nat) : (u.complete n).table n =
    if (u.table n).updating then (u.table n).completed n else u.table n := by
  have same := u.table_setTable_same n ((u.table n).completed n)
  unfold Sup.complete
  dsimp only
  split_ifs
  · exact same
  · exact same
  · rfl

/-- A pair taken whole is HELD at the odd gap (R193). -/
theorem Sup.complete_capture (u : Sup) (n : Nat) : (u.complete n).capture =
    if (u.table n).updating = true ∧ n % 2 = 1 ∧ u.capture = .evenTaken then .held else u.capture := by
  obtain ⟨-, -, -, capture⟩ := u.setTable_rest n ((u.table n).completed n)
  unfold Sup.complete
  dsimp only
  by_cases updates : (u.table n).updating = true
  · by_cases taken : n % 2 = 1 ∧ u.capture = .evenTaken <;> simp [updates, taken, capture]
  · simp [updates]

/-! ## A change of a line's state told -/

@[simp] theorem tellLine_sup (line : Line) (old new : LineState) (s : State) : (tellLine line old new s).sup = s.sup := by
  unfold tellLine
  dsimp only
  split_ifs <;> rfl

@[simp] theorem tellLine_bc (line : Line) (old new : LineState) (s : State) : (tellLine line old new s).bc = s.bc := by
  unfold tellLine
  dsimp only
  split_ifs <;> rfl

theorem tellLine_of_same (line : Line) (st : LineState) (s : State) : tellLine line st st s = s := if_pos rfl

/-- A change is the only report waiting when it finds none (R184, R215). -/
theorem tellLine_reports (busy : s.clc.tx ≠ .idle) (none : s.clc.reports = []) (on : s.clc.enabled.line = true) (line : Line)
    {old new : LineState} (changed : new ≠ old) : (tellLine line old new s).clc.reports
      = [{ cls := .line, code := 1, subject := match line with | .a => 1 | .b => 2, data := u8 old.code ++ u8 new.code }] := by
  unfold tellLine
  rw [if_neg changed.symm]
  dsimp only
  split_ifs
  · exact raise_only (cls := .line) (s := setAlarms _ s) busy none on ..
  · exact raise_only (cls := .line) busy none on ..

/-! ## The quiet gap -/

/-- Both lines at the quiet gap (R182, R183). -/
def Sup.gap (u : Sup) : Sup := { u with a := u.a.gap, b := u.b.gap }

theorem Sup.gap_table (u : Sup) (n : Nat) : u.gap.table n = u.table n := rfl

theorem supervisionGap_sup (s : State) : (supervisionGap s).sup = s.sup.gap.complete s.bc.counter := by
  simp [supervisionGap, Sup.gap]

theorem supervisionGap_clc (s : State) : (supervisionGap s).clc = (tellLine .b s.sup.b.state s.sup.b.gap.state
    (tellLine .a s.sup.a.state s.sup.a.gap.state (s.setSup s.sup.gap))).clc := rfl

/-- The start of the quiet gap: the pair end of an odd cycle, and supervision's part (R170). -/
theorem gapStart_of_callDone (seg : s.bc.segment = .callDone) : gapStart s =
    supervisionGap (if s.bc.counter % 2 = 1 then pairEnd (gapEntered s) else gapEntered s) := by
  unfold gapStart
  rw [seg]
  rfl

/-- The pair end leaves supervision and the cycle counter, so that the gap takes the lines as the cycle left them (R170). -/
theorem gapStart_sup (seg : s.bc.segment = .callDone) : (gapStart s).sup = s.sup.gap.complete s.bc.counter := by
  rw [gapStart_of_callDone seg]
  split
  · obtain ⟨bc, sup⟩ := ((shared_kept (gapEntered s)).pairEnd (.refl _)).abort.eq_of_no_frame rfl
    rw [supervisionGap_sup, bc, sup]
    rfl
  · rw [supervisionGap_sup]
    rfl

/-- The alarm flags of lines that are not OK, excusing those that left OK before the gap (R184, R219). -/
theorem gapStart_lineAlarms (s : State) :
    (s.sup.a.state = .ok → (gapStart s).sup.a.state ≠ .ok → (gapStart s).clc.alarms.lineA = true)
    ∧ (s.sup.b.state = .ok → (gapStart s).sup.b.state ≠ .ok → (gapStart s).clc.alarms.lineB = true) := by
  let excused : Alarms := { lineA := s.sup.a.state ≠ .ok, lineB := s.sup.b.state ≠ .ok, coachMute := true, coachLost := true,
                            overflow := true, stale := true }
  have before : AlarmsBut excused s :=
    ⟨fun g => .inr (decide_eq_true g), fun g => .inr (decide_eq_true g), fun _ => .inr rfl, fun _ => .inr rfl, fun _ => .inr rfl,
      fun _ => .inr rfl⟩
  have after := before.gapStart
  exact ⟨fun was is => (after.lineA is).resolve_right (by simp [excused, was]),
    fun was is => (after.lineB is).resolve_right (by simp [excused, was])⟩

/-- In an even cycle a line that changes while the other does not is told alone (R184). -/
theorem gapStart_reports (seg : s.bc.segment = .callDone) (even : s.bc.counter % 2 = 0) (busy : s.clc.tx ≠ .idle)
    (none : s.clc.reports = []) (on : s.clc.enabled.line = true) :
    (s.sup.a.gap.state ≠ s.sup.a.state → s.sup.b.gap.state = s.sup.b.state → (gapStart s).clc.reports =
      [{ cls := .line, code := 1, subject := 1, data := u8 s.sup.a.state.code ++ u8 s.sup.a.gap.state.code }])
    ∧ (s.sup.b.gap.state ≠ s.sup.b.state → s.sup.a.gap.state = s.sup.a.state → (gapStart s).clc.reports =
      [{ cls := .line, code := 1, subject := 2, data := u8 s.sup.b.state.code ++ u8 s.sup.b.gap.state.code }]) := by
  have told : (gapStart s).clc = (tellLine .b s.sup.b.state s.sup.b.gap.state
      (tellLine .a s.sup.a.state s.sup.a.gap.state ((gapEntered s).setSup s.sup.gap))).clc := by
    rw [gapStart_of_callDone seg, if_neg (by omega), supervisionGap_clc]
    rfl
  rw [told]
  refine ⟨fun changed same => ?_, fun changed same => ?_⟩
  · rw [same, tellLine_of_same]
    exact tellLine_reports (s := (gapEntered s).setSup _) busy none on .a changed
  · rw [same, tellLine_of_same]
    exact tellLine_reports (s := (gapEntered s).setSup _) busy none on .b changed

/-- Settles O56: the lines one by one, the table of the cycle's parity, and what is told of a change. -/
theorem quietGapEvaluatesTheLines : Obligations.QuietGapEvaluatesTheLines := by
  unfold Obligations.QuietGapEvaluatesTheLines
  intro s r d seg runs state even mine other told
  have runs_eq (l : LineSup) : runs l = l.gap.runs := l.runsNext_eq.symm
  have state_eq (l : LineSup) : state l = l.gap.state := by
    simp only [state, runs_eq]
    exact (l.state.next_eq l.runsNext).symm
  have mine_eq (u : Sup) : mine u = u.table s.bc.counter := by simp only [mine, even, Sup.table, decide_eq_true_eq]
  have other_eq (u : Sup) : other u = u.table (s.bc.counter + 1) := by
    simp only [other, even, Sup.table_succ, decide_eq_true_eq]
  have odd_iff : even = false ↔ s.bc.counter % 2 = 1 := by simp [even]
  have sup := gapStart_sup seg
  obtain ⟨a, b, mismatch, next⟩ := s.sup.gap.complete_rest s.bc.counter
  have table := s.sup.gap.complete_table_same s.bc.counter
  have capture := s.sup.gap.complete_capture s.bc.counter
  obtain ⟨alarmA, alarmB⟩ := gapStart_lineAlarms s
  rw [← sup] at a b mismatch next table capture
  simp only [runs_eq, state_eq, mine_eq, other_eq, odd_iff]
  refine ⟨_, congrArg Host.Outcome.next (event_running (f := gapStart) r d), a, b, mismatch, next, fun idle => ?_, fun updates => ?_,
    capture, fun was left => alarmA was (a ▸ left), fun was left => alarmB was (b ▸ left), fun even busy none on => ?_⟩
  · exact table.trans (if_neg (by simp [Sup.gap_table, idle]))
  · exact table.trans (if_pos updates)
  · exact gapStart_reports seg (of_decide_eq_true even) busy none on

end Sys2Proof.Machine
end

section
/-! The reset pin, the report READY and PART RESET (R209 to R212, R174): statements O4, O5 and O6. -/

namespace Sys2Proof.Machine

variable {s : State}

/-- A controller that takes frames is not held. -/
theorem not_held_of_up (up : s.clc.ready = .up) : s.clc.ready ≠ .held := by
  rw [up]
  exact nofun

/-! ## RESETN low -/

/-- Every command but the edges of RESETN is an event of the running controller. -/
theorem exec_eq_event {c : Instr} (low : c ≠ .resetnLow) (high : ∀ a b, c ≠ .resetnHigh a b) :
    ∃ f, ∀ s, exec c s = .next (event f s) := by
  cases c with
  | resetnLow => exact absurd rfl low
  | resetnHigh a b => exact absurd rfl (high a b)
  | _ => exact ⟨_, fun _ => rfl⟩

/-- While RESETN is low an event changes nothing (R211). -/
theorem event_of_held (held : s.clc.ready = .held) (f : State → State) : event f s = s := if_pos held

/-- While RESETN is low ALARM is low (R222). -/
theorem alarmPin_of_held (held : s.clc.ready = .held) : alarmPin s = false := by simp [alarmPin, held]

/-- Settles O4: the pin falls, and then every other command is an event of a held controller. -/
theorem resetnLowHoldsTheController : Obligations.ResetnLowHoldsTheController := by
  unfold Obligations.ResetnLowHoldsTheController
  refine ⟨fun s => ⟨holdReset s, rfl, rfl, rfl, rfl, alarmPin_of_held rfl, rfl, rfl, rfl, rfl, rfl, rfl, rfl⟩,
    fun c s held low high => ?_⟩
  obtain ⟨f, runs⟩ := exec_eq_event low high
  exact ⟨by rw [runs, event_of_held held], alarmPin_of_held held⟩

/-! ## READY -/

/-- The report READY of a cause (R212). -/
def readyReport (cause : ReadyCause) : Report :=
  { cls := .ready, code := 1, subject := 0, data := u8 cause.code ++ u8 Config.revision }

/-- After a reset READY is the only frame waiting, and the IDLE transmitter takes it (R206, R212, R217). -/
theorem Clc.transmit_readyReport (rate : Nat) (cause : ReadyCause) :
    (({ Clc.reset rate cause with ready := .up } : Clc).enqueue (readyReport cause)).transmit
      = { Clc.reset rate cause with ready := .up, tx := .report (readyReport cause) false 0 } := by
  let c : Clc := { Clc.reset rate cause with ready := .up }
  have queued : c.enqueue (readyReport cause) = { c with reports := [readyReport cause] } := rfl
  have next : ({ c with reports := [readyReport cause] } : Clc).nextReport = some (readyReport cause) :=
    Clc.nextReport_single rfl
  show (c.enqueue _).transmit = _
  rw [queued, Clc.transmit, if_pos (by rfl), Clc.takeNext, next]
  simp [c, Clc.reset]

/-- READY right after a reset (R211, R212). -/
theorem exec_ready {rate : Nat} {cause : ReadyCause} (d : s.dc.advanced = []) (fresh : s.clc = .reset rate cause) :
    exec .ready s = .next (s.setClc { s.clc with ready := .up, tx := .report (readyReport cause) false 0 }) := by
  have raised : becomeReady s
      = s.setClc { s.clc with ready := .up, tx := .report (readyReport cause) false 0 } := by
    have starting : s.clc.ready = .starting cause := by rw [fresh]; rfl
    rw [becomeReady, starting]
    show s.setClc (Clc.enqueue { s.clc with ready := .up } (readyReport cause)).transmit = _
    rw [fresh, Clc.transmit_readyReport]
  have running : s.clc.ready ≠ .held := by rw [fresh]; exact nofun
  show Host.Outcome.next (event becomeReady s) = _
  rw [event_eq running d (by rw [raised]; exact d), raised]

/-- A second READY comes out of its place (log entry 4). -/
theorem exec_ready_of_up (up : s.clc.ready = .up) (d : s.dc.advanced = []) : exec .ready s = .next s := by
  have same : becomeReady s = s := by rw [becomeReady, up]
  show Host.Outcome.next (event becomeReady s) = _
  rw [event_eq (not_held_of_up up) d (by rw [same]; exact d), same]

/-! ## The characters of a frame on LTXD -/

/-- Character i of a sequence without gaps takes the bit times from 10 i on (R195). -/
theorem characterBits_at {l : List Byte} {i k : Nat} {b : Byte} (at_ : l[i]? = some b) (inside : k < 10) :
    (l.flatMap characterBits)[10 * i + k]? = (characterBits b)[k]? := by
  induction l generalizing i with
  | nil => simp at at_
  | cons x l ih =>
    rw [List.flatMap_cons]
    cases i with
    | zero =>
      obtain rfl : x = b := by simpa using at_
      rw [List.getElem?_append_left (by simpa using inside), Nat.mul_zero, Nat.zero_add]
    | succ i =>
      rw [List.getElem?_append_right (by simp; omega), characterBits_length,
        show 10 * (i + 1) + k - 10 = 10 * i + k by omega]
      exact ih (by simpa using at_)

/-- LTXD carries each byte of the frame being sent in its ten bit times (R195, R206). -/
theorem Transmitter.ltxd_character {t : Transmitter} {i : Nat} {b : Byte} (at_ : t.frame[i]? = some b) :
    (List.range 10).map (fun k => t.ltxd (10 * i + k)) = characterBits b := by
  refine List.ext_getElem (by simp) fun k _ inside => ?_
  rw [characterBits_length] at inside
  simp [Transmitter.ltxd, Transmitter.bits, characterBits_at at_ inside, inside]

/-- After its last character LTXD is at the level of a stop bit (R195). -/
theorem Transmitter.ltxd_after {t : Transmitter} {i : Nat} (after : 10 * t.frame.length ≤ i) : t.ltxd i = .stop := by
  rw [Transmitter.ltxd, List.getElem?_eq_none (by rwa [Transmitter.bits_length])]
  rfl

/-- Settles O5: the straps one by one, READY as the first frame, and the bit times of any frame. -/
theorem resetnHighReadsStrapsAndReadyFollows : Obligations.ResetnHighReadsStrapsAndReadyFollows := by
  unfold Obligations.ResetnHighReadsStrapsAndReadyFollows
  intro s h l rate on ready
  have strap : strapRate h l = rate := by cases h <;> cases l <;> rfl
  refine ⟨congrArg (fun r => Host.Outcome.next (State.powerOn r s.pending)) strap,
    exec_ready (rate := rate) (cause := .powerOn) rfl rfl,
    exec_ready_of_up rfl rfl, rfl, ?_, fun i => Transmitter.ltxd_idle i, fun i after => Transmitter.ltxd_after after,
    fun i b at_ => Transmitter.ltxd_character at_⟩
  cases h <;> cases l <;> rfl

/-! ## PART RESET -/

/-- The reset at the end of the DONE of PART RESET (R209, R210). -/
theorem exec_frameEnd_partReset {r : Reply} (up : s.clc.ready = .up) (sent : s.clc.tx = .reply r) (resets : r.resets = true) :
    exec .transmitterFrameEnd s = .next (partReset s) := by
  show Host.Outcome.next (event frameEnd s) = _
  simp only [event, if_neg (not_held_of_up up), frameEnd, State.setDc_clc, sent, resets, if_true]
  rfl

/-- With no segment running the lines have carried what PART RESET cut short (R174). -/
theorem partReset_sends (l : Line) : (partReset s).bc.sends l = s.bc.cutShort := by cases l <;> rfl

/-- Settles O6: the reply is DONE, and its end is the reset, after which READY comes first. -/
theorem partResetRepliesThenResets : Obligations.PartResetRepliesThenResets := by
  unfold Obligations.PartResetRepliesThenResets
  intro tag s free
  have ⟨up, _, replies, _⟩ := free
  refine ⟨exec_now free rfl rfl (fun q => rfl) up replies, fun t up sent => ?_⟩
  refine ⟨partReset t, exec_frameEnd_partReset up sent rfl, rfl, rfl, rfl, rfl, rfl, rfl, fun l => ?_, rfl, rfl,
    exec_ready (rate := t.clc.rate) (cause := .partReset) rfl rfl⟩
  rw [partReset_sends, Bc.cutShort, Bc.quiet]
  simp only [decide_eq_true_eq]

end Sys2Proof.Machine
end

section
/-! The request queue and the end of a frame (R201, R202, R206, R208, R216, R217): statements O7, O11 and O17. -/

namespace Sys2Proof.Machine

variable {s : State} {q : Queued} {w : List Queued} {r : Reply}

/-! ## The arrival of a request -/

/-- A request waits behind others, or while a reply is being sent (R201). -/
theorem arrive_waits (up : s.clc.ready = .up) (room : s.clc.queue.length < 4)
    (behind : s.clc.queue ≠ [] ∨ s.clc.tx.replying = true) : arrive q s = s.withQueue (s.clc.queue ++ [q]) := by
  have later : (s.clc.queue = [] && !s.clc.tx.replying) = false := by
    obtain others | replying := behind
    · simp [others]
    · simp [replying]
  simp [arrive, up, Config.maxRequests, room, later, State.withQueue]

/-- With no request queued and no reply being sent it is the head, and begins (R201, R202). -/
theorem arrive_begins (up : s.clc.ready = .up) (empty : s.clc.queue = []) (quiet : s.clc.tx.replying = false) :
    arrive q s = beginHead (s.withQueue [q]) := by
  simp [arrive, up, Config.maxRequests, empty, quiet, State.withQueue]

/-- With 4 requests queued one more is answered QUEUE_FULL (R201). -/
theorem arrive_refused (up : s.clc.ready = .up) (full : ¬ s.clc.queue.length < 4) (few : s.clc.refusals < 4) :
    arrive q s = addReply { kind := q.kind + 0x80, tag := q.tag, result := .queueFull, data := [], forHead := false } s := by
  simp [arrive, up, Config.maxRequests, full, Config.maxRefusals, few]

/-- With 4 QUEUE_FULL replies waiting beside them it is lost (R199, R201). -/
theorem arrive_lost (up : s.clc.ready = .up) (full : ¬ s.clc.queue.length < 4) (many : ¬ s.clc.refusals < 4) :
    arrive q s = setLinkError s := by
  simp [arrive, up, Config.maxRequests, full, Config.maxRefusals, many]

/-- A request command whose arrival leaves the record of advanced blocks empty. -/
theorem exec_arrived {c : Instr} {kind tag : Nat} (k : c.request = some (kind, tag)) (up : s.clc.ready = .up)
    (d : s.dc.advanced = []) {t : State}
    (a : arrive { kind := kind, tag := tag, command := some c, state := .waiting } s = t) (e : t.dc.advanced = []) :
    exec c s = .next t := by
  rw [exec_of_request k, event_eq (not_held_of_up up) d (by rw [submit, a, e]), submit, a]

/-- Settles O7, by the room in the request queue and then in the reply list. -/
theorem requestsJoinTheQueueOrAreRefused : Obligations.RequestsJoinTheQueueOrAreRefused := by
  unfold Obligations.RequestsJoinTheQueueOrAreRefused
  intro c kind tag s k up d
  split
  · next room =>
    split
    · next behind => exact exec_arrived k up d (arrive_waits up room behind) d
    · exact exec_of_request k s
  · next full =>
    split
    · next few => exact exec_arrived k up d (arrive_refused up full few) d
    · next many => exact exec_arrived k up d (arrive_lost up full many) d

/-! ## The head -/

/-- A WAITING head becomes HANDLING and its block answers (R202, R203). -/
theorem beginHead_of_waiting (at_ : s.clc.queue = q :: w) (waits : q.state = .waiting) :
    beginHead s = settle (answerOf q (s.withQueue ({ q with state := .handling } :: w))) := by
  rw [beginHead, at_]
  exact if_pos waits

/-- With no request WAITING at the head none is handled (R202). -/
theorem beginHead_of_none (begun : ∀ q ∈ s.clc.queue.head?, q.state ≠ .waiting) : beginHead s = s := by
  unfold beginHead
  split
  · next q w at_ => exact if_neg (begun q (by simp [at_]))
  · rfl

/-! ## What was sent leaves, and the next frame is taken -/

/-- The link once what was being sent has gone: a reply from the reply list, the head with its own (R206). -/
def Clc.sentGone (c : Clc) : Clc :=
  match c.tx with
  | .reply r => { c with replies := c.replies.erase r, queue := if r.forHead then c.queue.tail else c.queue }
  | _ => c

/-- The link whose transmitter falls free and takes the next frame (R206). -/
def Clc.freed (c : Clc) : Clc := ({ c with tx := .idle } : Clc).transmit

@[simp] theorem Clc.freed_queue (c : Clc) : c.freed.queue = c.queue := by simp [Clc.freed]
@[simp] theorem Clc.freed_ready (c : Clc) : c.freed.ready = c.ready := by simp [Clc.freed]

theorem Clc.sentGone_ready (c : Clc) : c.sentGone.ready = c.ready := by
  unfold Clc.sentGone
  split <;> rfl

/-- The end of a frame of any kind but the DONE of PART RESET (R202, R206). -/
theorem frameEnd_eq (busy : s.clc.tx ≠ .idle) (stays : ∀ r, s.clc.tx = .reply r → r.resets = false) :
    frameEnd s = beginHead (s.setClc s.clc.sentGone.freed) := by
  unfold frameEnd Clc.sentGone
  split
  · next idle => exact absurd idle busy
  · next sent => rw [sent]; rfl
  · next r sent =>
    rw [sent]
    simp only [stays r sent, Bool.false_eq_true, if_false]
    split <;> rfl

theorem Clc.freed_eq_takeNext {c : Clc} (up : c.ready = .up) : c.freed = ({ c with tx := .idle } : Clc).takeNext :=
  if_pos (by simp [up])

/-- The freed transmitter takes the oldest reply (R206). -/
theorem Clc.freed_of_reply {c : Clc} {l : List Reply} (up : c.ready = .up) (replies : c.replies = r :: l) :
    c.freed = { c with tx := .reply r } :=
  Clc.transmit_of_reply rfl up replies

/-- With no reply waiting it takes the report of R217, which takes the overflow mark and the drop count along (R216). -/
theorem Clc.takeNext_of_report {c : Clc} {p : Report} (replies : c.replies = []) (next : c.nextReport = some p) :
    c.takeNext = { c with
      tx := .report p c.overflow c.drops, reports := c.reports.erase p, overflow := false, drops := 0 } := by
  rw [Clc.takeNext, replies, next]

/-- With neither it takes nothing (R206). -/
theorem Clc.takeNext_of_none {c : Clc} (replies : c.replies = []) (next : c.nextReport = none) : c.takeNext = c := by
  rw [Clc.takeNext, replies, next]

/-- No report is next when none waits (R217). -/
theorem Clc.nextReport_of_nil {c : Clc} (empty : c.reports = []) : c.nextReport = none := by
  simp [Clc.nextReport, empty]

/-- With no request WAITING at the head the end of a frame is the taking of the next (R202, R206). -/
theorem exec_frameEnd_rests (up : s.clc.ready = .up) (d : s.dc.advanced = []) (busy : s.clc.tx ≠ .idle)
    (stays : ∀ r, s.clc.tx = .reply r → r.resets = false)
    (begun : ∀ q ∈ s.clc.sentGone.queue.head?, q.state ≠ .waiting) :
    exec .transmitterFrameEnd s = .next (s.setClc s.clc.sentGone.freed) := by
  have rests : frameEnd s = s.setClc s.clc.sentGone.freed := by
    rw [frameEnd_eq busy stays, beginHead_of_none (by rwa [State.setClc_clc, Clc.freed_queue])]
  show Host.Outcome.next (event frameEnd s) = _
  rw [event_eq (not_held_of_up up) d (by rw [rests]; exact d), rests]

/-- A WAITING head is begun once the next frame has been taken (R202, R203, log entry 6). -/
theorem exec_frameEnd_begins (up : s.clc.ready = .up) (d : s.dc.advanced = []) (busy : s.clc.tx ≠ .idle)
    (stays : ∀ r, s.clc.tx = .reply r → r.resets = false) (queue : s.clc.sentGone.queue = q :: w)
    (waits : q.state = .waiting) : exec .transmitterFrameEnd s = .next (event (fun t => settle (answerOf q t))
      (s.setClc { s.clc.sentGone.freed with queue := { q with state := .handling } :: w })) := by
  let begun := s.setClc { s.clc.sentGone.freed with queue := { q with state := .handling } :: w }
  have begins : frameEnd s = settle (answerOf q begun) := by
    rw [frameEnd_eq busy stays, beginHead_of_waiting (by rwa [State.setClc_clc, Clc.freed_queue]) waits]
    rfl
  have begun_up : begun.clc.ready = .up := by
    show s.clc.sentGone.freed.ready = .up
    rw [Clc.freed_ready, Clc.sentGone_ready, up]
  show Host.Outcome.next (event frameEnd s) = .next (event (fun t => settle (answerOf q t)) begun)
  rw [event_running (not_held_of_up up) d, event_running (not_held_of_up begun_up) (by exact d), begins]

/-- When the head's reply was alone, the request behind it is begun with an IDLE transmitter (R202, R206). -/
theorem frameEnd_alone {p : Queued} (up : s.clc.ready = .up) (queue : s.clc.queue = p :: q :: w)
    (waits : q.state = .waiting) (replies : s.clc.replies = [r]) (sent : s.clc.tx = .reply r) (head : r.forHead = true)
    (stays : r.resets = false) (reports : s.clc.reports = []) : frameEnd s = settle (answerOf q (s.setClc { s.clc with
      queue := { q with state := .handling } :: w, replies := [], tx := .idle })) := by
  have gone : s.clc.sentGone = { s.clc with replies := [], queue := q :: w } := by
    simp [Clc.sentGone, sent, replies, queue, head]
  have freed : s.clc.sentGone.freed = { s.clc with replies := [], queue := q :: w, tx := .idle } := by
    rw [gone, Clc.freed_eq_takeNext (by exact up)]
    exact Clc.takeNext_of_none (by rfl) (Clc.nextReport_of_nil reports)
  rw [frameEnd_eq (by rw [sent]; exact nofun) fun x e => ?_, freed, beginHead_of_waiting rfl waits]
  · rfl
  · cases sent.symm.trans e
    exact stays

/-- Settles O11: what was sent leaves, the next frame is taken, and then the head is begun if it waits. -/
theorem frameEndFreesTheTransmitter : Obligations.FrameEndFreesTheTransmitter := by
  unfold Obligations.FrameEndFreesTheTransmitter
  intro s up d busy others gone taken
  have stays (r : Reply) (sent : s.clc.tx = .reply r) : r.resets = false := by
    simpa [Reply.resets] using others r sent
  have gone_up : gone.ready = .up := s.clc.sentGone_ready.trans up
  have taken_eq : s.clc.sentGone.freed = taken := by
    show gone.freed = _
    dsimp only [taken]
    split
    · next r l replies => exact Clc.freed_of_reply gone_up replies
    · next p replies next => exact (Clc.freed_eq_takeNext gone_up).trans (Clc.takeNext_of_report replies next)
    · next replies next => exact (Clc.freed_eq_takeNext gone_up).trans (Clc.takeNext_of_none replies next)
  rw [← taken_eq]
  refine ⟨fun begun => exec_frameEnd_rests up d busy stays begun, fun q w queue waits =>
    exec_frameEnd_begins up d busy stays queue waits, fun q r kind tag c _ queue replies sent head reports => ?_⟩
  let free := s.setClc { s.clc with queue := [], replies := [], tx := .idle }
  have arrives : submit kind tag c free = frameEnd s := by
    rw [frameEnd_alone up queue rfl replies sent head (stays r sent) reports, submit, arrive_begins (s := free) up rfl rfl,
      beginHead_of_waiting (by rfl) (by rfl)]
    rfl
  show Host.Outcome.next (event frameEnd s) = .next (event (submit kind tag c) free)
  rw [event_running (not_held_of_up up) d, event_running (s := free) (not_held_of_up up) d, arrives]

/-! ## LINK RESET -/

/-- What LINK RESET leaves of the link but for the requests behind the head (R208). -/
def Clc.linkReset (c : Clc) : Clc :=
  { c with reports := [], overflow := false, drops := 0, enabled := .all, order := .a, linkError := false }

/-- LINK RESET as the head that its block takes, whatever waits behind it: those requests are gone (R208). -/
theorem settle_linkReset {tag : Nat} {c : Option Instr} (up : s.clc.ready = .up) (replies : s.clc.replies = [])
    (behind : List Queued) :
    let t := settle (doLinkReset (s.withQueue ({ kind := 0x02, tag := tag, command := c, state := .handling } :: behind)))
    t.setDc { t.dc with advanced := [] } = answered 0x02 tag c .done [] (s.setClc s.clc.linkReset) := by
  refine Eq.trans ?_ (finishHead_handling (t := s.setClc s.clc.linkReset) up replies)
  simp only [doLinkReset, done, settle, finishHead_dc]
  rfl

/-- Settles O17: LINK RESET on a free controller, and behind a reply that has just gone. -/
theorem linkResetEmptiesTheLink : Obligations.LinkResetEmptiesTheLink := by
  unfold Obligations.LinkResetEmptiesTheLink
  refine ⟨fun tag s free => ?_, fun tag q behind r s up d queue replies sent head others reports => ?_⟩
  · have ⟨up, _, replies, _⟩ := free
    show Host.Outcome.next (event (arrive _) s) = _
    rw [event_arrive_free free]
    exact congrArg Host.Outcome.next (settle_linkReset up replies [])
  · have stays : r.resets = false := by simpa [Reply.resets, head] using others
    show Host.Outcome.next (event frameEnd s) = _
    rw [event_running (not_held_of_up up) d, frameEnd_alone up queue rfl replies sent head stays reports]
    have reset := settle_linkReset (s := s.setClc { s.clc with queue := [], replies := [], tx := .idle })
      (tag := tag) (c := some (.linkReset tag)) up rfl behind
    refine congrArg Host.Outcome.next (Eq.trans reset ?_)
    simp [answered, Clc.linkReset, reports, State.setClc, State.setDc]

end Sys2Proof.Machine
end

section
/-! The link receiver (R195, R198 to R200, R203): statements O8 and O10. -/

namespace Sys2Proof.Machine

variable {s : State} {b hi lo kind tag : Byte} {n : Nat} {p : List Byte}

/-! ## One byte in each state of the receiver -/

@[simp] theorem setRx_setRx (x y : LinkRx) : setRx x (setRx y s) = setRx x s := rfl
@[simp] theorem setRx_rx (x : LinkRx) : (setRx x s).clc.rx = x := rfl
@[simp] theorem setRx_dc (x : LinkRx) : (setRx x s).dc = s.dc := rfl

/-- In HUNT only 0xB6 begins a frame. -/
theorem linkByte_hunt (rx : s.clc.rx = .hunt) : linkByte b s = if b = 0xB6 then setRx (.length none) s else s := by
  rw [linkByte, rx]
  rfl

theorem linkByte_length_high (rx : s.clc.rx = .length none) : linkByte b s = setRx (.length (some b)) s := by
  rw [linkByte, rx]

/-- A length of 2 to 640 goes on to BODY, any other is discarded. -/
theorem linkByte_length_low (rx : s.clc.rx = .length (some hi)) : linkByte b s =
    if 2 ≤ 256 * hi.toNat + b.toNat ∧ 256 * hi.toNat + b.toNat ≤ 640 then setRx (.body (256 * hi.toNat + b.toNat) []) s
    else discard s := by
  rw [linkByte, rx]
  simp only [Bool.and_eq_true, decide_eq_true_eq]

/-- The last body byte goes on to CHECK. -/
theorem linkByte_body (rx : s.clc.rx = .body n p) : linkByte b s =
    setRx (if p.length + 1 < n then .body n (p ++ [b]) else .check n (p ++ [b]) none) s := by
  rw [linkByte, rx]
  simp only [List.length_append, List.length_singleton]

theorem linkByte_check_high (rx : s.clc.rx = .check n p none) : linkByte b s = setRx (.check n p (some b)) s := by
  rw [linkByte, rx]

/-- The last byte of the CRC completes the frame. -/
theorem linkByte_check_low (rx : s.clc.rx = .check n p (some hi)) : linkByte lo s = frameDone n p (wordOf hi lo) s := by
  rw [linkByte, rx]

/-- A completed frame with a bad CRC or a kind of 0x60 or above is discarded (R199). -/
theorem frameDone_bad {crc : BitVec 16} (bad : crc16 (linkSpan n (kind :: tag :: p)) ≠ crc ∨ 0x60 ≤ kind.toNat) :
    frameDone n (kind :: tag :: p) crc s = discard s := by
  refine if_neg fun good => ?_
  obtain ⟨crc_good, request⟩ := Bool.and_eq_true_iff.mp good
  obtain bad | bad := bad
  · exact bad (of_decide_eq_true crc_good)
  · exact absurd (of_decide_eq_true request) (by omega)

/-- A completed frame with a good CRC and a request's kind arrives (R198, R201). -/
theorem frameDone_good {crc : BitVec 16} (good : crc16 (linkSpan n (kind :: tag :: p)) = crc)
    (request : kind.toNat < 0x60) : frameDone n (kind :: tag :: p) crc s =
      arrive { kind := kind.toNat, tag := tag.toNat, command := parseRequest kind.toNat tag.toNat p, state := .waiting }
        (setRx .hunt s) :=
  if_pos (by simp [good, request])

/-! ## Characters and the gap timer -/

/-- A byte received on a controller that takes frames, when it advances no block. -/
theorem exec_byte (up : s.clc.ready = .up) (d : s.dc.advanced = []) {t : State} (a : linkByte b s = t)
    (e : t.dc.advanced = []) : exec (.linkCharacterReceived (.byte b)) s = .next t := by
  have a' : linkChar (.byte b) s = t := (if_neg (not_not.mpr up)).trans a
  show Host.Outcome.next (event (linkChar (.byte b)) s) = _
  rw [event_eq (not_held_of_up up) d (by rw [a', e]), a']

/-- A framing error in HUNT is nothing, and otherwise discards the frame that has begun (R199). -/
theorem exec_framingError (up : s.clc.ready = .up) (d : s.dc.advanced = []) :
    exec (.linkCharacterReceived .framingError) s = .next (if s.clc.rx = .hunt then s else discard s) := by
  have a : linkChar .framingError s = if s.clc.rx = .hunt then s else discard s := if_neg (not_not.mpr up)
  show Host.Outcome.next (event (linkChar .framingError) s) = _
  rw [event_eq (not_held_of_up up) d (by rw [a]; split <;> exact d), a]

/-- So does the expiry of the gap timer, which does not run in HUNT (R199, log entry 4). -/
theorem exec_gapExpiry (up : s.clc.ready = .up) (d : s.dc.advanced = []) :
    exec .linkGapTimerExpiry s = .next (if s.clc.rx = .hunt then s else discard s) := by
  show Host.Outcome.next (event gapExpiry s) = _
  rw [event_eq (not_held_of_up up) d (by rw [gapExpiry]; split <;> exact d), gapExpiry]

/-- The number whose lowest bits are given, least significant first. -/
theorem foldr_testBit (x k : Nat) :
    ((List.range k).map x.testBit).foldr (fun b n => (if b then 1 else 0) + 2 * n) 0 = x % 2 ^ k := by
  induction k generalizing x with
  | zero => simp [Nat.mod_one]
  | succ k ih =>
    have shifted : (List.range k).map (x.testBit ∘ Nat.succ) = (List.range k).map (x / 2).testBit :=
      List.map_congr_left fun i _ => Nat.testBit_succ x i
    rw [List.range_succ_eq_map, List.map_cons, List.map_map, shifted, List.foldr_cons, ih, Nat.testBit_zero, pow_succ',
      Nat.mod_mul]
    rcases Nat.mod_two_eq_zero_or_one x with low | low <;> simp [low]

/-- The data bits of a character spell its byte (R195). -/
theorem byteOf_dataBits (b : Byte) : byteOf (dataBits b) = b := by
  have bits : dataBits b = (List.range 8).map b.toNat.testBit := rfl
  rw [byteOf, bits, foldr_testBit, Nat.mod_eq_of_lt b.isLt, BitVec.ofNat_toNat, BitVec.setWidth_eq]

/-- Settles O10, by the state of the receiver. -/
theorem receiverFollowsItsTable : Obligations.ReceiverFollowsItsTable := by
  unfold Obligations.ReceiverFollowsItsTable
  intro s up d went lost char
  refine ⟨fun rx => ⟨fun b => exec_byte up d (linkByte_hunt rx) ?_, ?_, ?_⟩, fun begun => ⟨?_, ?_⟩,
    fun rx b => exec_byte up d (linkByte_length_high rx) d, fun hi rx b => exec_byte up d (linkByte_length_low rx) ?_,
    fun n p rx b => exec_byte up d (linkByte_body rx) d, fun n p rx b => exec_byte up d (linkByte_check_high rx) d,
    fun n kind tag p hi lo rx bad => exec_byte up d ((linkByte_check_low rx).trans (frameDone_bad bad)) d,
    fun b => congrArg LinkChar.byte (byteOf_dataBits b), fun _ => rfl⟩
  · split <;> exact d
  · rw [exec_framingError up d, if_pos rx]
  · rw [exec_gapExpiry up d, if_pos rx]
  · rw [exec_framingError up d, if_neg begun]
    rfl
  · rw [exec_gapExpiry up d, if_neg begun]
    rfl
  · split <;> exact d

/-! ## Requests refused at their arrival -/

/-- The kinds of section 8.8 are below 0x60. -/
theorem requestKinds_lt : ∀ kind ∈ requestKinds, kind < 0x60 := by decide

/-- A byte field spells its number. -/
theorem toNat_ofNat_byte {n : Nat} (fits : n < 256) : (BitVec.ofNat 8 n).toNat = n := by
  simpa using fits

/-- The last byte of a good frame is the arrival of its request (R198, R201). -/
theorem exec_lastByte {kind tag : Nat} (up : s.clc.ready = .up) (d : s.dc.advanced = []) (request : kind < 0x60)
    (tag_fits : tag < 256) (rx : s.clc.rx = .check n (u8 kind ++ u8 tag ++ p) (some hi))
    (good : crc16 (linkSpan n (u8 kind ++ u8 tag ++ p)) = wordOf hi lo) :
    exec (.linkCharacterReceived (.byte lo)) s = .next (event
      (arrive { kind := kind, tag := tag, command := parseRequest kind tag p, state := .waiting }) (setRx .hunt s)) := by
  have kind_eq := toNat_ofNat_byte (n := kind) (by omega)
  have tag_eq := toNat_ofNat_byte tag_fits
  have arrives := (linkByte_check_low rx).trans (frameDone_good (p := p) good (kind_eq.symm ▸ request))
  rw [kind_eq, tag_eq] at arrives
  have taken : linkChar (.byte lo) s = _ := (if_neg (not_not.mpr up)).trans arrives
  show Host.Outcome.next (event (linkChar (.byte lo)) s) = _
  rw [event_running (not_held_of_up up) d, event_running (s := setRx .hunt s) (not_held_of_up up) d, taken]

/-- A request refused before any block has seen it: only the reply is new (R203, R204). -/
theorem event_arrive_refused {kind tag : Nat} {c : Option Instr} {r : ResultCode} {data : List Byte} (free : Free s)
    (refused : ∀ t, answerOf { kind := kind, tag := tag, command := c, state := .waiting } t = refuse t r data) :
    event (arrive { kind := kind, tag := tag, command := c, state := .waiting }) s = answered kind tag c r data s := by
  have ⟨up, _, replies, _⟩ := free
  rw [event_arrive_free free, refused]
  simp only [refuse, settle, finishHead_dc]
  exact finishHead_handling up replies

/-- Settles O8, by the two checks of R203. -/
theorem unknownKindAndBadLayoutAreAnswered : Obligations.UnknownKindAndBadLayoutAreAnswered := by
  unfold Obligations.UnknownKindAndBadLayoutAreAnswered
  refine ⟨fun kind tag s free unknown => ?_, fun kind tag payload hi lo s free known tag_fits _ bad => ?_⟩
  · have refused (t : State) : answerOf { kind := kind, tag := tag, command := none, state := .waiting } t
        = refuse t .unknownKind := if_pos (by simpa using unknown)
    exact congrArg Host.Outcome.next (event_arrive_refused free refused)
  · intro taken rx crc
    have refused (t : State) : answerOf { kind := kind, tag := tag, command := none, state := .waiting } t
        = refuse t .badField (u8 0) := if_neg (by simpa using known)
    have last := exec_lastByte (p := payload) free.1 free.2.2.2.2 (requestKinds_lt kind known) tag_fits rx crc
    rw [bad] at last
    exact last.trans (congrArg Host.Outcome.next (event_arrive_refused (s := setRx .hunt s) free refused))

end Sys2Proof.Machine
end

section
/-! The payload of a request's frame read back as its command (R203, R224, R227). -/

namespace Sys2Proof.Machine

variable {w v x y n a b d e : Nat} {ws ns : List Nat} {l m o q : List Byte} {c : Instr} {kind tag : Nat}

/-! ## Fields -/

/-- Bytes at the front of a payload are read as a number in a field of a width (R224). -/
def Reads (w n : Nat) (l : List Byte) : Prop := ∀ p, takeField w (l ++ p) = some (n, p)

/-- Bytes at the front of a payload are read as numbers in fields of the widths given (R203). -/
def ReadsAll (ws ns : List Nat) (l : List Byte) : Prop := ∀ p, takeFields ws (l ++ p) = some (ns, p)

theorem reads_u8 (fits : fits8 n = true) : Reads 1 n (u8 n) := takeField_u8 (of_decide_eq_true fits)

theorem reads_u16 (fits : fits16 n = true) : Reads 2 n (u16 n) := takeField_u16 (of_decide_eq_true fits)

theorem reads_u32 (fits : fits32 n = true) : Reads 4 n (u32 n) := takeField_u32 (of_decide_eq_true fits)

theorem Reads.one (r : Reads w n l) : ReadsAll [w] [n] l := fun p => by
  simp only [takeFields, r p, Option.map_some]

theorem Reads.and (r : Reads w n l) (rs : ReadsAll ws ns m) : ReadsAll (w :: ws) (n :: ns) (l ++ m) := fun p => by
  simp only [List.append_assoc, takeFields, r (m ++ p), rs p, Option.map_some]

/-- A fixed layout holds its fields and nothing after them (R203). -/
theorem ReadsAll.fields (r : ReadsAll ws ns l) : fields ws l = some ns := by
  have whole := r []
  rw [List.append_nil] at whole
  rw [Machine.fields, whole]

/-- Fixed fields and a text, and nothing after them. -/
theorem ReadsAll.fieldsText {t : Text} (r : ReadsAll ws ns l) (fits : fitsText t = true) :
    fieldsText ws (l ++ text t) = some (ns, t) := by
  have words := takeText_text (of_decide_eq_true fits) []
  rw [List.append_nil] at words
  rw [Machine.fieldsText, r (text t)]
  simp only [words]

/-! ## Layouts of one to four fields -/

theorem one_read {f : Nat → Instr} (r : Reads w a l) : one w f l = some (f a) := by
  rw [one, r.one.fields]

theorem two_read {f : Nat → Nat → Instr} (r : Reads w a l) (r' : Reads v b m) : two w v f (l ++ m) = some (f a b) := by
  rw [two, (r.and r'.one).fields]

theorem three_read {f : Nat → Nat → Nat → Instr} (r : Reads w a l) (r' : Reads v b m) (r'' : Reads x d o) :
    three w v x f (l ++ m ++ o) = some (f a b d) := by
  rw [three, List.append_assoc, (r.and (r'.and r''.one)).fields]

theorem four_read {f : Nat → Nat → Nat → Nat → Instr} (r : Reads w a l) (r' : Reads v b m) (r'' : Reads x d o)
    (r''' : Reads y e q) : four w v x y f (l ++ m ++ o ++ q) = some (f a b d e) := by
  rw [four, List.append_assoc, List.append_assoc, (r.and (r'.and (r''.and r'''.one))).fields]

/-! ## The other layouts -/

theorem parseOpenRoute_read {slot code : Nat} {dest : Text} (r : fits8 slot = true) (r' : fits16 code = true)
    (t : fitsText dest = true) :
    parseOpenRoute tag (u8 slot ++ u16 code ++ text dest) = some (.openRoute tag slot code dest) := by
  rw [parseOpenRoute, ((reads_u8 r).and (reads_u16 r').one).fieldsText t]

theorem parseAppendStops_read {slot : Nat} {stops : List StopFields} (r : fits8 slot = true) (few : stops.length < 256)
    (good : ∀ f ∈ stops, f.wf = true) :
    parseAppendStops tag (u8 slot ++ counted stopRecord stops) = some (.appendStops tag slot stops) := by
  rw [parseAppendStops, reads_u8 r]
  simp only [listOf_counted (fun f m => takeStop_stopRecord (good f m)) few, Option.map_some]

/-- The HOME flag tells the two rows of ASSIGN UNIT apart (R14, R15, R224). -/
theorem parseAssign_read {unit slot index partAt home : Nat} (r : fits16 unit = true) (r' : fits8 slot = true)
    (r'' : fits8 index = true) (r''' : fits8 partAt = true) (flag : fits8 home = true) :
    parseAssign tag (u16 unit ++ u8 slot ++ u8 index ++ u8 partAt ++ u8 home) = some (
      if home = 0 then .assignUnit tag unit slot index partAt else .assignUnitHome tag unit slot index partAt) := by
  simp only [List.append_assoc]
  rw [parseAssign, ((reads_u16 r).and ((reads_u8 r').and ((reads_u8 r'').and
    ((reads_u8 r''').and (reads_u8 flag).one)))).fields]
  simp only
  split <;> rfl

theorem parseOdometer_read {params : OdoConfig} (good : params.wf = true) :
    parseOdometer tag (requestPayload (.configureOdometer tag params)) = some (.configureOdometer tag params) := by
  simp only [OdoConfig.wf, Bool.and_eq_true] at good
  obtain ⟨⟨⟨⟨⟨⟨⟨pulseLen, shift⟩, vmin⟩, creep⟩, correction⟩, offset⟩, minLeg⟩, skipLimit⟩ := good
  simp only [requestPayload, List.append_assoc]
  rw [parseOdometer, ((reads_u32 pulseLen).and ((reads_u8 shift).and ((reads_u32 vmin).and ((reads_u32 creep).and
    ((reads_u8 correction).and ((reads_u32 offset).and ((reads_u32 minLeg).and (reads_u8 skipLimit).one))))))).fields]

theorem parseDefineType_read {code seats : Nat} {labels : List Text} (r : fits8 code = true) (r' : fits8 seats = true)
    (few : labels.length < 256) (good : ∀ t ∈ labels, fitsText t = true) :
    parseDefineType tag (u8 code ++ u8 seats ++ counted text labels) = some (.defineType tag code seats labels) := by
  rw [parseDefineType, (reads_u8 r).and (reads_u8 r').one]
  simp only [listOf_counted (fun t m => takeText_text (of_decide_eq_true (good t m))) few, Option.map_some]

theorem parseAddSegment_read {bank id seat fromIx toIx kind : Nat} {label : Text} (r : fits8 bank = true)
    (i : fits32 id = true) (r' : fits8 seat = true) (f : fits8 fromIx = true) (t : fits8 toIx = true)
    (k : fits8 kind = true) (words : fitsText label = true) :
    parseAddSegment tag (u8 bank ++ u32 id ++ u8 seat ++ u8 fromIx ++ u8 toIx ++ u8 kind ++ text label)
      = some (.addSegment tag bank id seat fromIx toIx kind label) := by
  have six := (reads_u8 r).and ((reads_u32 i).and ((reads_u8 r').and ((reads_u8 f).and ((reads_u8 t).and (reads_u8 k).one))))
  have all := six.fieldsText words
  simp only [List.append_assoc] at all ⊢
  rw [parseAddSegment, all]

theorem parseArm_read {trigger : Nat} (r : fits8 trigger = true) : parseArm tag (u8 trigger) = some (
    if trigger = 0xFF then .armStagingImmediate tag else .armStaging tag trigger) :=
  one_read (reads_u8 r)

theorem parsePush_read {target id priority expiry value : Nat} {t : Text} (r : fits8 target = true) (i : fits32 id = true)
    (words : fitsText t = true) (p : fits8 priority = true) (e : fits8 expiry = true) (v : fits16 value = true) :
    parsePush tag (u8 target ++ u32 id ++ text t ++ u8 priority ++ u8 expiry ++ u16 value)
      = some (.pushNotice tag target id t priority expiry value) := by
  have front := (reads_u8 r).and (reads_u32 i).one (text t ++ (u8 priority ++ (u8 expiry ++ u16 value)))
  have back := ((reads_u8 p).and ((reads_u8 e).and (reads_u16 v).one)).fields
  simp only [List.append_assoc] at front ⊢
  rw [parsePush, front]
  simp only [takeText_text (of_decide_eq_true words), back]

/-! ## Every request -/

/-- The payload of a well-formed request spells its command (R203). -/
theorem parseRequest_requestPayload (good : c.wf = true) (k : c.request = some (kind, tag)) :
    parseRequest kind tag (requestPayload c) = some c := by
  cases c with
  | linkReset | partReset | summary | endJourney | departed | readJourney | startBackbone | stopBackbone | survey
  | readConsist | readBanks | openStagingEmpty | openStagingCopy | disarmStaging | abandonStaging | readRotation
  | readBackbone | readLineFlags =>
    cases k
    rfl
  | ackAlarms | closeRoute | dropRoute | setDirection | deleteType | setRotationStart | lockTable | unlockTable | setCapture
  | readTable =>
    cases k
    obtain ⟨-, f⟩ := Bool.and_eq_true_iff.mp good
    exact one_read (reads_u8 f)
  | describePart | arrived | setTime | split | clearLineFlags =>
    cases k
    obtain ⟨-, f⟩ := Bool.and_eq_true_iff.mp good
    exact one_read (reads_u16 f)
  | positionFix | removeEntry | popNotice | readDisplay =>
    cases k
    obtain ⟨-, f⟩ := Bool.and_eq_true_iff.mp good
    exact one_read (reads_u32 f)
  | setReporting | cancelStop | restoreStop | configureSurvey =>
    cases k
    simp only [Instr.wf, Bool.and_eq_true] at good
    obtain ⟨⟨-, f⟩, g⟩ := good
    exact two_read (reads_u8 f) (reads_u8 g)
  | readType =>
    cases k
    simp only [Instr.wf, Bool.and_eq_true] at good
    obtain ⟨⟨-, f⟩, g⟩ := good
    exact two_read (reads_u8 f) (reads_u16 g)
  | removeVehicle | refreshCoach | clearNotices =>
    cases k
    simp only [Instr.wf, Bool.and_eq_true] at good
    obtain ⟨⟨-, f⟩, g⟩ := good
    exact two_read (reads_u8 f) (reads_u32 g)
  | readRoute =>
    cases k
    simp only [Instr.wf, Bool.and_eq_true] at good
    obtain ⟨⟨⟨-, f⟩, g⟩, h⟩ := good
    exact three_read (reads_u8 f) (reads_u8 g) (reads_u8 h)
  | clearSeat | readSeat =>
    cases k
    simp only [Instr.wf, Bool.and_eq_true] at good
    obtain ⟨⟨⟨-, f⟩, g⟩, h⟩ := good
    exact three_read (reads_u8 f) (reads_u32 g) (reads_u8 h)
  | declareVehicle | dropSegment =>
    cases k
    simp only [Instr.wf, Bool.and_eq_true] at good
    obtain ⟨⟨⟨⟨-, f⟩, g⟩, h⟩, i⟩ := good
    exact four_read (reads_u8 f) (reads_u32 g) (reads_u8 h) (reads_u8 i)
  | setRotationEntry =>
    cases k
    simp only [Instr.wf, Bool.and_eq_true] at good
    obtain ⟨⟨⟨⟨-, f⟩, g⟩, h⟩, i⟩ := good
    exact four_read (reads_u8 f) (reads_u8 g) (reads_u8 h) (reads_u8 i)
  | openRoute =>
    cases k
    simp only [Instr.wf, Bool.and_eq_true] at good
    obtain ⟨⟨⟨-, slot⟩, code⟩, dest⟩ := good
    exact parseOpenRoute_read slot code dest
  | appendStops =>
    cases k
    simp only [Instr.wf, Bool.and_eq_true, decide_eq_true_eq, List.all_eq_true] at good
    obtain ⟨⟨⟨⟨-, slot⟩, few⟩, stops⟩, -⟩ := good
    exact parseAppendStops_read slot few stops
  | assignUnitHome =>
    cases k
    simp only [Instr.wf, Bool.and_eq_true] at good
    obtain ⟨⟨⟨⟨-, unit⟩, slot⟩, index⟩, partAt⟩ := good
    exact parseAssign_read (home := 1) unit slot index partAt rfl
  | assignUnit =>
    cases k
    simp only [Instr.wf, Bool.and_eq_true] at good
    obtain ⟨⟨⟨⟨-, unit⟩, slot⟩, index⟩, partAt⟩ := good
    exact parseAssign_read (home := 0) unit slot index partAt rfl
  | configureOdometer =>
    cases k
    obtain ⟨-, params⟩ := Bool.and_eq_true_iff.mp good
    exact parseOdometer_read params
  | defineType =>
    cases k
    simp only [Instr.wf, Bool.and_eq_true, decide_eq_true_eq, List.all_eq_true] at good
    obtain ⟨⟨⟨⟨⟨-, code⟩, seats⟩, few⟩, labels⟩, -⟩ := good
    exact parseDefineType_read code seats few labels
  | addSegment =>
    cases k
    simp only [Instr.wf, Bool.and_eq_true] at good
    obtain ⟨⟨⟨⟨⟨⟨⟨-, bank⟩, id⟩, seat⟩, fromIx⟩, toIx⟩, kind⟩, label⟩ := good
    exact parseAddSegment_read bank id seat fromIx toIx kind label
  | armStaging =>
    cases k
    simp only [Instr.wf, Bool.and_eq_true, bne_iff_ne] at good
    obtain ⟨⟨-, trigger⟩, home⟩ := good
    exact (parseArm_read trigger).trans (congrArg some (if_neg home))
  | armStagingImmediate =>
    cases k
    exact parseArm_read rfl
  | pushNotice =>
    cases k
    simp only [Instr.wf, Bool.and_eq_true] at good
    obtain ⟨⟨⟨⟨⟨⟨-, target⟩, id⟩, words⟩, priority⟩, expiry⟩, value⟩ := good
    exact parsePush_read target id words priority expiry value
  | _ => cases k

/-! ## Lengths -/

@[simp] theorem u8_length (n : Nat) : (u8 n).length = 1 := rfl
@[simp] theorem u16_length (n : Nat) : (u16 n).length = 2 := rfl
@[simp] theorem u32_length (n : Nat) : (u32 n).length = 4 := rfl
@[simp] theorem text_length (t : Text) : (text t).length = 1 + t.length := by simp [text]

theorem counted_length {α : Type} (f : α → List Byte) (l : List α) :
    (counted f l).length = 1 + (l.map fun x => (f x).length).sum := by
  simp [counted, List.length_flatMap]

theorem stopRecord_length (f : StopFields) : (stopRecord f).length = f.size := by
  simp only [stopRecord, List.length_append, u8_length, u16_length, u32_length, text_length, StopFields.size]
  omega

/-- The payload of a well-formed request fits its frame (R196). -/
theorem requestPayload_length (good : c.wf = true) : (requestPayload c).length ≤ 638 := by
  cases c with
  | openRoute =>
    simp only [Instr.wf, fitsText, Bool.and_eq_true, decide_eq_true_eq] at good
    simp only [requestPayload, List.length_append, u8_length, u16_length, text_length]
    omega
  | appendStops =>
    simp only [Instr.wf, Bool.and_eq_true, decide_eq_true_eq] at good
    have sizes : (fun f => (stopRecord f).length) = StopFields.size := funext stopRecord_length
    simp only [requestPayload, List.length_append, u8_length, counted_length, sizes]
    omega
  | defineType =>
    simp only [Instr.wf, Bool.and_eq_true, decide_eq_true_eq] at good
    simp only [requestPayload, List.length_append, u8_length, counted_length, text_length]
    omega
  | addSegment | pushNotice =>
    simp only [Instr.wf, fitsText, Bool.and_eq_true, decide_eq_true_eq] at good
    simp only [requestPayload, List.length_append, u8_length, u16_length, u32_length, text_length]
    omega
  | _ => simp [requestPayload]

/-- A request's kind is one of section 8.8. -/
theorem request_kind (k : c.request = some (kind, tag)) : kind ∈ requestKinds := by
  cases c <;> cases k <;> decide

/-- The tag of a well-formed request fits its byte (R196). -/
theorem request_tag (good : c.wf = true) (k : c.request = some (kind, tag)) : tag < 256 := by
  cases c <;> cases k <;> simp only [Instr.wf, fits8, Bool.and_eq_true, decide_eq_true_eq] at good <;> omega

end Sys2Proof.Machine
end

section
/-! A request's frame received byte by byte (R196 to R198): statement O9. -/

namespace Sys2Proof.Machine

variable {s t u : State} {b hi : Byte} {n : Nat} {l m p : List Byte}

/-! ## Bytes one after another -/

/-- The next byte received by a controller that has a next state. -/
def hear (o : Host.Outcome State Fault Refusal) (b : Byte) : Host.Outcome State Fault Refusal :=
  match o with
  | .next t => exec (.linkCharacterReceived (.byte b)) t
  | x => x

/-- Receiving bytes one after another takes a state to another. -/
def Hears (s : State) (l : List Byte) (t : State) : Prop := l.foldl hear (.next s) = .next t

theorem Hears.append (h : Hears s l t) (k : Hears t m u) : Hears s (l ++ m) u := by
  rw [Hears, List.foldl_append, h, k]

theorem hears_byte (up : s.clc.ready = .up) (d : s.dc.advanced = []) (a : linkByte b s = t) (e : t.dc.advanced = []) :
    Hears s [b] t := exec_byte up d a e

/-! ## The parts of a frame -/

/-- LENGTH takes a length of 2 to 640, high byte first (R196, R198). -/
theorem hears_length (up : s.clc.ready = .up) (d : s.dc.advanced = []) (least : 2 ≤ n) (most : n ≤ 640) :
    Hears (setRx (.length none) s) (u16 n) (setRx (.body n []) s) := by
  have number : 256 * (BitVec.ofNat 8 (n / 256)).toNat + (BitVec.ofNat 8 n).toNat = n := by
    rw [BitVec.toNat_ofNat, BitVec.toNat_ofNat]
    omega
  have high (b : Byte) : Hears (setRx (.length none) s) [b] (setRx (.length (some b)) s) :=
    hears_byte (s := setRx (.length none) s) up d (linkByte_length_high rfl) d
  have low : Hears (setRx (.length (some (BitVec.ofNat 8 (n / 256)))) s) [BitVec.ofNat 8 n] (setRx (.body n []) s) := by
    refine hears_byte (s := setRx (.length (some _)) s) up d ((linkByte_length_low rfl).trans ?_) d
    rw [number, if_pos ⟨least, most⟩, setRx_setRx]
  exact (high _).append low

/-- BODY takes the bytes up to the length given, and then CHECK begins (R198). -/
theorem hears_body (up : s.clc.ready = .up) (d : s.dc.advanced = []) (nonempty : l ≠ []) (all : p.length + l.length = n) :
    Hears (setRx (.body n p) s) l (setRx (.check n (p ++ l) none) s) := by
  induction l generalizing p with
  | nil => exact absurd rfl nonempty
  | cons b l ih =>
    rw [List.length_cons] at all
    have first (rx : LinkRx) (e : (if p.length + 1 < n then LinkRx.body n (p ++ [b]) else .check n (p ++ [b]) none) = rx) :
        Hears (setRx (.body n p) s) [b] (setRx rx s) :=
      hears_byte (s := setRx (.body n p) s) up d ((linkByte_body rfl).trans (by rw [e]; rfl)) d
    cases l with
    | nil => exact first _ (if_neg (by simp at all; omega))
    | cons b' l =>
      have rest := ih (p := p ++ [b]) (by simp) (by simp at all ⊢; omega)
      rw [List.append_assoc] at rest
      exact (first _ (if_pos (by simp at all; omega))).append rest

/-- A frame but for the last byte of its CRC (R196, R198). -/
theorem hears_frame (up : s.clc.ready = .up) (d : s.dc.advanced = []) (rx : s.clc.rx = .hunt) (least : 2 ≤ l.length)
    (most : l.length ≤ 640) (hi : Byte) :
    Hears s (u8 0xB6 ++ u16 l.length ++ l ++ [hi]) (setRx (.check l.length l (some hi)) s) := by
  have sync : Hears s (u8 0xB6) (setRx (.length none) s) := hears_byte up d ((linkByte_hunt rx).trans (if_pos rfl)) d
  have body : Hears (setRx (.body l.length []) s) l (setRx (.check l.length l none) s) :=
    hears_body up d (List.ne_nil_of_length_pos (by omega)) (by simp)
  have check : Hears (setRx (.check l.length l none) s) [hi] (setRx (.check l.length l (some hi)) s) :=
    hears_byte (s := setRx _ s) up d (linkByte_check_high rfl) d
  exact ((sync.append (hears_length up d least most)).append body).append check

/-- Settles O9: the bytes up to the last lead through the receiver's states, and the last is the arrival of the command. -/
theorem frameByCharactersIsTheCommand : Obligations.FrameByCharactersIsTheCommand := by
  unfold Obligations.FrameByCharactersIsTheCommand
  intro c kind tag s good k up rx d
  let body := u8 kind ++ u8 tag ++ requestPayload c
  let crc := crc16 (linkSpan body.length body)
  have size : body.length = 2 + (requestPayload c).length := by simp [body]; omega
  have fits := requestPayload_length good
  have front := hears_frame (l := body) up d rx (by omega) (by omega) (crc.extractLsb' 8 8)
  have last := exec_lastByte (s := setRx (.check body.length body (some (crc.extractLsb' 8 8))) s)
    (lo := crc.extractLsb' 0 8) (p := requestPayload c) up d (requestKinds_lt kind (request_kind k)) (request_tag good k) rfl
    (wordOf_wordBytes crc).symm
  have hunting : setRx .hunt s = s := by
    rw [← rx]
    rfl
  rw [parseRequest_requestPayload good k, setRx_setRx, hunting] at last
  have bytes : frameBytes kind tag (requestPayload c)
      = u8 0xB6 ++ u16 body.length ++ body ++ [crc.extractLsb' 8 8] ++ [crc.extractLsb' 0 8] := by
    rw [List.append_assoc _ [_] [_]]
    rfl
  calc (frameBytes kind tag (requestPayload c)).foldl hear (.next s)
    _ = hear (.next (setRx (.check body.length body (some (crc.extractLsb' 8 8))) s)) (crc.extractLsb' 0 8) := by
      rw [bytes, List.foldl_append, front]
      rfl
    _ = .next (event (submit kind tag c) s) := last
    _ = exec c s := (exec_of_request k s).symm

end Sys2Proof.Machine
end

section
/-! The report queue: what joins it, what is taken from it, and SET REPORTING (R215, R217, R218): statements O12, O13 and O14. -/

namespace Sys2Proof.Machine

variable {s : State} {c : Clc} {r : Report}

/-! ## A report raised -/

/-- A report of a disabled class is discarded (R215). -/
theorem Clc.enqueue_of_disabled (off : c.enabled.has r.cls = false) : c.enqueue r = c :=
  if_pos (by simp [off])

/-- A report whose key waits gives the waiting one its data (R215). -/
theorem Clc.enqueue_of_same (on : ¬ c.enabled.has r.cls = false) (same : c.reports.any r.sameKey = true) :
    c.enqueue r = { c with reports := c.reports.map fun q => if r.sameKey q then { q with data := r.data } else q } := by
  rw [Clc.enqueue, if_neg (by simpa using on), if_pos same]

/-- A report with a new key joins the end of a queue of fewer than 24 (R215). -/
theorem Clc.enqueue_of_room (on : ¬ c.enabled.has r.cls = false) (fresh : ¬ c.reports.any r.sameKey = true)
    (room : c.reports.length < 24) : c.enqueue r = { c with reports := c.reports ++ [r] } := by
  rw [Clc.enqueue, if_neg (by simpa using on), if_neg fresh]
  exact if_pos room

/-- At 24 it is dropped (R215, R219). -/
theorem Clc.enqueue_of_full (on : ¬ c.enabled.has r.cls = false) (fresh : ¬ c.reports.any r.sameKey = true)
    (full : ¬ c.reports.length < 24) : c.enqueue r = { c with
      overflow := true, drops := min 255 (c.drops + 1), alarms := { c.alarms with overflow := true } } := by
  rw [Clc.enqueue, if_neg (by simpa using on), if_neg fresh]
  exact if_neg full

/-- A busy transmitter leaves the report queue to R215 alone (R206). -/
theorem raise_of_busy (busy : s.clc.tx ≠ .idle) (cls : ReportClass) (code subject : Nat) (data : List Byte) :
    raise cls code subject data s
      = s.setClc (s.clc.enqueue { cls := cls, code := code, subject := subject, data := data }) :=
  congrArg s.setClc (raise_reports busy cls code subject data)

/-- Settles O12, by the four cases of R215. -/
theorem reportIsQueuedReplacedOrDropped : Obligations.ReportIsQueuedReplacedOrDropped := by
  unfold Obligations.ReportIsQueuedReplacedOrDropped
  intro cls code subject data s busy same r
  have key : same = r.sameKey := by
    funext q
    simp only [same, r, Report.sameKey, eq_comm]
  rw [raise_of_busy busy, key]
  split
  · next off => exact congrArg s.setClc (Clc.enqueue_of_disabled off)
  · next on =>
    split
    · next waits => exact congrArg s.setClc (Clc.enqueue_of_same on waits)
    · next fresh =>
      split
      · next room => exact congrArg s.setClc (Clc.enqueue_of_room on fresh room)
      · next full => exact congrArg s.setClc (Clc.enqueue_of_full on fresh full)

/-! ## The report next to send -/

/-- Every class has a rank (R217). -/
theorem Order.mem_ranking (o : Order) (k : ReportClass) : k ∈ o.ranking := by
  cases o <;> cases k <;> decide

/-- A report is next whenever one waits (R206, R217). -/
theorem Clc.exists_nextReport (waits : c.reports ≠ []) : ∃ r, c.nextReport = some r := by
  obtain ⟨q, rest, queue⟩ := List.exists_cons_of_ne_nil waits
  refine Option.isSome_iff_exists.mp (List.findSome?_isSome_iff.mpr ⟨q.cls, c.order.mem_ranking q.cls, ?_⟩)
  simp [queue]

/-- For any numbering that grows along the ranking, the next report has the least number, and is the first to have it (R217). -/
theorem Clc.nextReport_least {rank : ReportClass → Nat} (grows : c.order.ranking.Pairwise fun j k => rank j < rank k)
    (next : c.nextReport = some r) : ∃ before after, c.reports = before ++ r :: after
      ∧ (∀ q ∈ before, rank r.cls < rank q.cls) ∧ ∀ q ∈ after, rank r.cls ≤ rank q.cls := by
  obtain ⟨higher, k, lower, ranking, found, none_higher⟩ := List.findSome?_eq_some_iff.mp next
  obtain ⟨cls, before, after, queue, others⟩ := List.find?_eq_some_iff_append.mp found
  obtain rfl : r.cls = k := of_decide_eq_true cls
  have below (j : ReportClass) (m : j ∈ lower) : rank r.cls < rank j := by
    have ⟨_, along, _⟩ := List.pairwise_append.mp (ranking ▸ grows)
    exact List.rel_of_pairwise_cons along m
  have placed (q : Report) (m : q ∈ c.reports) : q.cls = r.cls ∨ q.cls ∈ lower := by
    have ranked : q.cls ∈ higher ++ r.cls :: lower := ranking ▸ c.order.mem_ranking q.cls
    have unmet : q.cls ∉ higher := fun above => by
      simpa using List.find?_eq_none.mp (none_higher q.cls above) q m
    simpa [unmet] using ranked
  refine ⟨before, after, queue, fun q m => ?_, fun q m => ?_⟩
  · have other : q.cls ≠ r.cls := by simpa using others q m
    exact below _ ((placed q (by simp [queue, m])).resolve_left other)
  · obtain same | behind := placed q (by simp [queue, m])
    · exact (congrArg rank same).ge
    · exact (below _ behind).le

/-- Settles O13: the ranks of the statement grow along the ranking of either order. -/
theorem reportSentIsOfTheHighestRank : Obligations.ReportSentIsOfTheHighestRank := by
  unfold Obligations.ReportSentIsOfTheHighestRank
  intro c rank
  have grows : c.order.ranking.Pairwise fun j k => rank j < rank k := by
    dsimp only [rank]
    cases c.order <;> decide
  exact ⟨Clc.exists_nextReport, fun r => Clc.nextReport_least grows⟩

/-! ## SET REPORTING -/

/-- A request whose DONE changes the computer link alone. -/
theorem exec_done_clc {i : Instr} {kind tag : Nat} (free : Free s) (k : i.request = some (kind, tag))
    (l : requestKinds.contains kind = true) {data : List Byte} (ready : c.ready = .up) (replies : c.replies = [])
    (a : ∀ q, act i (s.withQueue q) = done ((s.setClc c).withQueue q) data) :
    exec i s = .next (answered kind tag (some i) .done data (s.setClc c)) :=
  exec_now free k l a ready replies

/-- The classes that cannot be named: READY and those above 5 (R218). -/
theorem strayClasses_iff {classes : Nat} :
    strayClasses classes = true ↔ classes.testBit 0 ∨ classes.testBit 6 ∨ classes.testBit 7 := by
  simp [strayClasses, hasBit]

/-- SET REPORTING with an order that has a code (R218). -/
theorem exec_setReporting {tag classes order : Nat} {o : Order} (free : Free s) (code : Order.ofCode order = some o) :
    let on := Enabled.ofSet classes
    let kept := s.clc.reports.filter fun r => on.has r.cls
    exec (.setReporting tag classes order) s = .next (
      if strayClasses classes then answered 0x04 tag (some (.setReporting tag classes order)) .badField [] s
      else answered 0x04 tag (some (.setReporting tag classes order)) .done (u8 (s.clc.reports.length - kept.length))
        (s.setClc { s.clc with enabled := on, order := o, reports := kept })) := by
  have ⟨ready, _, replies, _⟩ := free
  have act_eq (q : List Queued) :
      act (.setReporting tag classes order) (s.withQueue q) = doSetReporting classes order (s.withQueue q) := rfl
  simp only [doSetReporting, code] at act_eq
  dsimp only
  split
  · next stray => exact exec_refused free rfl rfl fun q => (act_eq q).trans (if_pos stray)
  · next known => exact exec_done_clc free rfl rfl ready replies fun q => (act_eq q).trans (if_neg known)

/-- Settles O14, by the order named. -/
theorem setReportingFiltersTheQueue : Obligations.SetReportingFiltersTheQueue := by
  unfold Obligations.SetReportingFiltersTheQueue
  intro tag classes order s free on kept
  match order with
  | 0 | 1 =>
    refine (exec_setReporting free rfl).trans (congrArg Host.Outcome.next (if_congr ?_ rfl rfl))
    simp [strayClasses_iff]
  | n + 2 =>
    rw [if_pos (by omega)]
    exact exec_refused free rfl rfl fun q => rfl

end Sys2Proof.Machine
end

section
/-! The alarm flags and SUMMARY, and DESCRIBE PART (R200, R207, R220, R221, R223): statements O15 and O16. -/

namespace Sys2Proof.Machine

variable {s : State}

/-! ## ACK ALARMS -/

/-- A set flag that is named falls where its condition is over (R220). -/
theorem unset_named (set named holds : Bool) : unset (named && set) holds = (set && named && !holds) := by
  rw [unset, Bool.and_comm named]

/-- A flag stays set unless it falls (R220). -/
theorem unset_fallen (set named holds : Bool) :
    unset set (set && named && !holds) = (set && (!named || holds)) := by
  revert set named holds
  decide

/-- Settles O15, flag by flag. -/
theorem ackAlarmsClearsWhatIsOver : Obligations.AckAlarmsClearsWhatIsOver := by
  unfold Obligations.AckAlarmsClearsWhatIsOver
  intro tag flags s free flag6 cleared left after
  have ⟨ready, _, replies, _⟩ := free
  have act_eq (q : List Queued) : act (.ackAlarms tag flags) (s.withQueue q) = doAckAlarms flags (s.withQueue q) := rfl
  split
  · next bad => exact exec_refused free rfl rfl fun q => (act_eq q).trans (if_pos bad)
  · next good =>
    let named := (Alarms.ofSet flags).zip (· && ·) s.clc.alarms
    have cleared_eq : named.zip unset (conditions s) = cleared := by
      simp only [named, cleared, flag6, Alarms.zip, Alarms.ofSet, hasBit, unset_named]
    have left_eq : named.zip (· && ·) (conditions s) = left := by
      simp only [named, left, flag6, Alarms.zip, Alarms.ofSet, hasBit, Bool.and_comm (flags.testBit _)]
    have after_eq : s.clc.alarms.zip unset cleared = after := by
      simp only [after, cleared, flag6, Alarms.zip, unset_fallen]
    refine exec_done_clc free rfl rfl ready replies fun q => ?_
    rw [act_eq, ← after_eq, ← left_eq, ← cleared_eq]
    exact if_neg good

/-! ## SUMMARY and DESCRIBE PART -/

/-- The bytes of the part description, written out (R207, R227). -/
theorem description_eq (rate : Nat) : description rate =
    [0, 29, 11, 0x53, 0x63, 0x65, 0x6C, 0x76, 0x69, 0x61, 0x20, 0x50, 0x31, 0x36, 1, BitVec.ofNat 8 rate,
     4, 40, 4, 16, 8, 20, 6, 0x10, 0x00, 4, 12, 4, 24] := rfl

/-- Settles O16: SUMMARY, and DESCRIBE PART by its length. -/
theorem summaryAndDescribePartCarryTheirReplies : Obligations.SummaryAndDescribePartCarryTheirReplies := by
  unfold Obligations.SummaryAndDescribePartCarryTheirReplies
  refine ⟨fun tag s free => ?_, fun tag length s free => ?_⟩
  · have ⟨ready, _, replies, _⟩ := free
    exact exec_done_clc free rfl rfl ready replies fun q => rfl
  · have act_eq (q : List Queued) : act (.describePart tag length) (s.withQueue q) = doDescribePart length (s.withQueue q) := rfl
    dsimp only
    rw [← description_eq]
    split
    · next zero => exact exec_refused free rfl rfl fun q => (act_eq q).trans (if_pos zero)
    · next some_bytes => exact exec_read free rfl rfl fun q => (act_eq q).trans (if_neg some_bytes)

end Sys2Proof.Machine
end

section
/-! The queue of waiting commands, which is the model's own (log entry 1): every command leaves it alone, and so does each
operation of the computer link that a command runs. Statement O2. -/

namespace Sys2Proof.Machine

variable {s t : State}

/-! ## Requests and the events of the blocks -/

/-- A queue of waiting commands is borne by every update of a block: none of them is an update of the queue. -/
theorem steady_pending (l : List Instr) : Steady fun s => s.pending = l where
  jt _ _ h := h
  rs _ _ h := h
  cm _ _ _ h := h
  advanced _ _ h := h
  abort test s h := (abortIf_pending test s).trans h
  alarms _ _ h := h
  raise _ _ _ _ _ h := h
  survey _ _ h := h
  bc _ _ h := h
  sup _ _ _ h := h
  rotation _ _ _ h := h
  finish r data s h := (finishHead_pending r data s).trans h
  linkReset _ h := h
  setReporting classes order s h := by
    unfold doSetReporting
    split
    · exact h
    · split_ifs <;> exact h
  summary _ h := h

@[simp] theorem blockEvent_pending (c : Instr) (s : State) : (blockEvent c s).pending = s.pending :=
  (steady_pending s.pending).blockEvent rfl c

/-- A request handled, whether its result comes back at once or later (R202). -/
@[simp] theorem settle_pending (q : Queued) (s : State) : (settle (answerOf q s)).pending = s.pending :=
  settle_keeps (steady_pending s.pending) q rfl

/-! ## The computer link -/

@[simp] theorem beginHead_pending (s : State) : (beginHead s).pending = s.pending := by
  unfold beginHead
  split
  · split_ifs
    · exact settle_pending ..
    · rfl
  · rfl

@[simp] theorem arrive_pending (q : Queued) (s : State) : (arrive q s).pending = s.pending := by
  unfold arrive
  dsimp only
  split_ifs
  · rfl
  · exact beginHead_pending _
  · rfl
  · rfl
  · rfl

@[simp] theorem linkByte_pending (b : Byte) (s : State) : (linkByte b s).pending = s.pending := by
  unfold linkByte
  split
  · split_ifs <;> rfl
  · rfl
  · dsimp only
    split_ifs <;> rfl
  · rfl
  · rfl
  · unfold frameDone
    split
    · split_ifs
      · exact arrive_pending ..
      · rfl
    · rfl

@[simp] theorem linkChar_pending (c : LinkChar) (s : State) : (linkChar c s).pending = s.pending := by
  unfold linkChar
  split
  · rfl
  · split
    · exact linkByte_pending ..
    · split_ifs <;> rfl

@[simp] theorem gapExpiry_pending (s : State) : (gapExpiry s).pending = s.pending := by
  unfold gapExpiry
  split_ifs <;> rfl

/-- The end of a frame, even that of PART RESET's reply, whose reset is of the blocks alone (R209, R210). -/
@[simp] theorem frameEnd_pending (s : State) : (frameEnd s).pending = s.pending := by
  unfold frameEnd
  split
  · rfl
  · exact beginHead_pending _
  · dsimp only
    split_ifs
    · rfl
    · exact beginHead_pending _
    · exact beginHead_pending _

@[simp] theorem becomeReady_pending (s : State) : (becomeReady s).pending = s.pending := by
  unfold becomeReady
  split <;> rfl

/-! ## Commands -/

theorem event_pending {f : State → State} (h : ∀ s, (f s).pending = s.pending) (s : State) :
    (event f s).pending = s.pending := by
  unfold event
  split_ifs
  · rfl
  · exact h _

/-- A command whose meaning is an event leaves the queue when the event's operation does. -/
theorem exec_event_pending {c : Instr} {f : State → State} (h : ∀ s, (f s).pending = s.pending)
    (e : exec c s = .next (event f s)) (x : exec c s = .next t) : t.pending = s.pending := by
  rw [e] at x
  cases x
  exact event_pending h s

/-- Settles O2: a request is the arrival of its frame, an event is the operation of its block or of the link, and the two
edges of RESETN reset the blocks alone (R211). -/
theorem noCommandTouchesTheQueue : Obligations.NoCommandTouchesTheQueue := by
  unfold Obligations.NoCommandTouchesTheQueue
  intro c s t x
  cases q : c.request with
  | some y => exact exec_event_pending (arrive_pending _) (exec_of_request q s) x
  | none =>
    have block (g : exec c s = .next (event (blockEvent c) s)) : t.pending = s.pending :=
      exec_event_pending (blockEvent_pending c) g x
    cases c with
    | copyCompletion | odoPulse | odometerWindowExpiry | minuteTimerExpiry | cycleEnd | cycleStart | coachSlotStart
    | contentFrameComplete | backboneFrameReceived | coachSlotEnd | callWindowStart | callWindowEnd | quietGapStart =>
      exact block rfl
    | unknownRequestKind => exact exec_event_pending (arrive_pending _) rfl x
    | linkCharacterReceived char => exact exec_event_pending (linkChar_pending char) rfl x
    | linkGapTimerExpiry => exact exec_event_pending gapExpiry_pending rfl x
    | transmitterFrameEnd => exact exec_event_pending frameEnd_pending rfl x
    | ready => exact exec_event_pending becomeReady_pending rfl x
    | resetnHigh | resetnLow =>
      cases x
      rfl
    | _ => cases q

end Sys2Proof.Machine
end
